-- ==== Sys2Proof/Word.lean ====
section
/-! DEFINITION. The widths of the block's words, and the names of its four lanes. -/

namespace Sys2Proof

/-- The smallest addressable unit of the exchange memory (R187). -/
abbrev Byte := BitVec 8

/-- A word of the exchange memory, a register, a tally (00 section 3). -/
abbrev Word := BitVec 16

/-- A card number: 64 bits (00 section 3). -/
abbrev CardNumber := BitVec 64

/-- A check value or an AUTH answer: 8 bytes, low byte first (01 section 1.7). -/
abbrev CheckValue := BitVec 64

/-- A master key or a card key: 128 bits (R67, R75). -/
abbrev Key := BitVec 128

/-- A lane, 0 to 3, in the order of the antennas and leaf pairs (00 section 3). -/
inductive LaneId where
  | lane0
  | lane1
  | lane2
  | lane3
  deriving DecidableEq, Repr

/-- One value for each of the four lanes. -/
structure PerLane (α : Type) where
  l0 : α
  l1 : α
  l2 : α
  l3 : α
  deriving DecidableEq, Repr

end Sys2Proof
end

