-- ==== Sys2Proof/Config.lean ====
section
/-! DEFINITION. What the spec leaves to the part: the keyed functions, the random source and the frame codes,
as constants without a body (free values), and the fixed numbers of the spec under names. -/

namespace Sys2Proof

/-- The six frame kinds the part sends and the six it receives (01 section 1.2). -/
inductive FrameKind where
  | select
  | identify
  | auth
  | read
  | writePurse
  | probe
  | selectAnswer
  | identifyAnswer
  | authAnswer
  | readAnswer
  | purseAck
  | probeAnswer
  deriving DecidableEq, Repr

/-- The part's keyed check function (01 section 1.7): a key and a string of bytes give a check value.
FREE VALUE: the spec gives no more of it (assumption 6). -/
opaque Config.checkFunction : BitVec 128 → List (BitVec 8) → BitVec 64

/-- The fixed keyed function of DERIVE (R75): a master key and a card number give a card key.
FREE VALUE (assumption 6). -/
opaque Config.deriveKey : BitVec 128 → BitVec 64 → BitVec 128

/-- The n-th draw of the random source (R76). FREE VALUE (assumption 7). -/
opaque Config.randomDraw : Nat → BitVec 64

/-- The kind byte of each frame (01 section 1.2 gives none). FREE VALUE (assumption 8). -/
opaque Config.frameCode : FrameKind → BitVec 8

/-- The 16 bit periods of a frame's start pattern, the first in bit 0 (R24 gives their number and not their bits).
FREE VALUE (assumption 40). -/
opaque Config.startPattern : BitVec 16

/-- The exchange memory's size in bytes (R187). -/
def Config.memorySize : Nat := 0x40000

/-- The first byte of the free region (R187). -/
def Config.freeBase : Nat := 0x00300

/-- Time base units (0.1 µs) in one millisecond (assumption 2). -/
def Config.unitsPerMs : Nat := 10000

/-- The number of entries the sighting table may hold (R105). -/
def Config.sightingLimit : Nat := 512

/-- The number of credits a lane may hold (R139). -/
def Config.creditLimit : Nat := 3

/-- The journal records a dialogue reserves at its start (R21). -/
def Config.dialogueReservation : Nat := 4

end Sys2Proof
end

