-- ==== Sys2Proof/Syntax.lean ====
section
/-! DEFINITION. The commands of the block: one constructor of `Instr` for each row of spec/opcode_table.json. -/

namespace Sys2Proof

/-- The gate-computer port's width, as the strap chooses it (R190). -/
inductive PortWidth where
  | bits16
  | bits8
  deriving DecidableEq, Repr

/-- A register write (R190, 10 section 10.9): the whole word, or one byte of it (a byte enable of the 16-bit port,
or an access of the 8-bit port). -/
inductive RegWrite where
  | word (value : Word)
  | low (value : Byte)
  | high (value : Byte)
  deriving DecidableEq, Repr

/-- Which byte of a register a read takes. -/
inductive RegPart where
  | word
  | low
  | high
  deriving DecidableEq, Repr

/-- A memory write at the port (R190): a word by its word address, or a byte by its byte address. -/
inductive PortWrite where
  | word (wordAddress : BitVec 17) (value : Word)
  | byte (address : BitVec 18) (value : Byte)
  deriving DecidableEq, Repr

/-- A read at the port: a word, a byte, or (register-select active) a register (R190, assumption 9). -/
inductive PortRead where
  | word (wordAddress : BitVec 17)
  | byte (address : BitVec 18)
  | register (address : Nat) (part : RegPart)
  deriving DecidableEq, Repr

/-- A read of the exchange memory: the accesses that a start-up serves before RUNNING (R191). -/
inductive MemoryRead where
  | word (wordAddress : BitVec 17)
  | byte (address : BitVec 18)
  deriving DecidableEq, Repr

/-- What a start-up finds at the port: the width strap (R190), and the memory reads begun while the part state is
STARTING and while it is SETUP (R191). -/
structure StartInputs where
  strap : PortWidth
  starting : List MemoryRead
  setup : List MemoryRead
  deriving DecidableEq, Repr

/-- The three beam groups of a lane (R138). -/
inductive BeamGroup where
  | entrySide
  | middle
  | exitSide
  deriving DecidableEq, Repr

/-- What a beam group's input reads, and its debounced state (R138). -/
inductive Beam where
  | blocked
  | clear
  deriving DecidableEq, Repr

/-- The two limits of a lane's leaves (R151). -/
inductive Limit where
  | atOpen
  | atClosed
  deriving DecidableEq, Repr

/-- An answer frame as received: the kind its kind byte names, if any (the spec gives no codes, assumption 8),
and all its bytes, kind byte first and frame check last (01 section 1.2). -/
structure AnswerFrame where
  kind : Option FrameKind
  bytes : List Byte
  deriving DecidableEq, Repr

/-- What the receiver found in a response: one frame, or the answers of two or more cards overlapping (R31), with the
bytes received until the last of them ended. -/
inductive Reception where
  | single (frame : AnswerFrame)
  | overlapped (bytes : Nat)
  deriving DecidableEq, Repr

/-- One constructor for each row of the table, each whole and indivisible (95). A lane-bound event carries its
lane; an event that brings a value from outside carries the value. -/
inductive Instr where
  /-- POWER_ON (R206). `contents` lists the bytes power-on left in the memory. -/
  | powerOn (inputs : StartInputs) (contents : List (Nat × BitVec 8))
  /-- RESET_PIN_RELEASE (R205). `cut` is how many word writes of the record being written were made (R208). -/
  | resetPinRelease (inputs : StartInputs) (cut : Nat)
  /-- RESTART (R204): a write to CONTROL. -/
  | restart (write : RegWrite) (inputs : StartInputs) (cut : Nat)
  /-- ATTENTION_WRITE (R202). -/
  | attentionWrite (write : RegWrite)
  /-- ATTENTION_MASK_WRITE (R203). -/
  | attentionMaskWrite (write : RegWrite)
  /-- UNUSED_REGISTER_WRITE (R190): a write at register address 6 or above. -/
  | unusedRegisterWrite (address : Nat) (write : RegWrite)
  /-- GC_MEMORY_WRITE (R195). -/
  | gcMemoryWrite (write : PortWrite)
  /-- GC_MEMORY_READ (R192). -/
  | gcMemoryRead (read : PortRead)
  /-- ORDER_SLOT_STATE_WORD_EVENT (R196). -/
  | orderSlotStateWordEvent (slot : Fin 8)
  /-- CONSUMED_TALLY_EVENT (R182). -/
  | consumedTallyEvent
  /-- ORDER_TAKE (R197). -/
  | orderTake
  /-- SET_TIME (R167). -/
  | setTime
  /-- SET_PARAMETERS (R199). -/
  | setParameters
  /-- PARAMETER_BLOCK_READ_END (R200). -/
  | parameterBlockReadEnd
  /-- CONFIGURE_JOURNAL (R176). -/
  | configureJournal
  /-- ADOPT_FARE_TABLE (R83). -/
  | adoptFareTable
  /-- FARE_TABLE_VALIDATION_END (R84). -/
  | fareTableValidationEnd
  /-- ADOPT_DENYLIST (R114). -/
  | adoptDenylist
  /-- DENYLIST_SCAN_END (R115). -/
  | denylistScanEnd
  /-- DENYLIST_SWITCH (R116). -/
  | denylistSwitch
  /-- LOAD_KEY (R69). -/
  | loadKey
  /-- LOAD_KEY_COMPLETE (R70). -/
  | loadKeyComplete
  /-- RETIRE_KEY (R72). -/
  | retireKey
  /-- ERASE_KEY (R73). -/
  | eraseKey
  /-- SET_LANE_MODE (R135). -/
  | setLaneMode
  /-- RESET_LANE (R159). -/
  | resetLane
  /-- CLEAR_LANE_COUNTS (R149). -/
  | clearLaneCounts
  /-- READ_SIGHTING (R131). -/
  | readSighting
  /-- FORGET_CARD (R132). -/
  | forgetCard
  /-- UNKNOWN_ORDER_KIND (R197). -/
  | unknownOrderKind
  /-- ORDER_END (R198). -/
  | orderEnd
  /-- CLOCK_TICK (R164). -/
  | clockTick
  /-- DAY_NUMBER_WRAP (R164). -/
  | dayNumberWrap
  /-- SERVICE_DAY_ROLLOVER (R171). -/
  | serviceDayRollover
  /-- CLOCK_READOUT (R172). -/
  | clockReadout
  /-- SCAN_ROUND_START (R15). -/
  | scanRoundStart
  /-- SETTLE_END (R17). -/
  | settleEnd
  /-- CONVERSION_END (R17). `load` is the antenna load in 1/256ths of a converter step (assumption 22). -/
  | conversionEnd (load : Nat)
  /-- POWER_UP_HOLD_END (R21), with the noise level measured in the hold. -/
  | powerUpHoldEnd (lane : LaneId) (level : Byte)
  /-- NOISE_MEASUREMENT_END (R29), with the level measured. -/
  | noiseMeasurementEnd (lane : LaneId) (level : Byte)
  /-- FRAME_SENT (R25). -/
  | frameSent (lane : LaneId)
  /-- ANSWER_START (R25). -/
  | answerStart (lane : LaneId)
  /-- ANSWER_RECEIVED (R1), with the frame's peak level and what was received. -/
  | answerReceived (lane : LaneId) (peak : Byte) (answer : Reception)
  /-- RESPONSE_WAIT_EXPIRY (R26). -/
  | responseWaitExpiry (lane : LaneId)
  /-- DIALOGUE_DEADLINE_EXPIRY (R39). -/
  | dialogueDeadlineExpiry (lane : LaneId)
  /-- AE_OPERATION_COMPLETE (R79). -/
  | aeOperationComplete
  /-- CLAIM_ANSWER (R107). -/
  | claimAnswer (lane : LaneId)
  /-- SCREEN_LOOKUP_END (R119). -/
  | screenLookupEnd (lane : LaneId)
  /-- SCREEN_ANSWER (R48). -/
  | screenAnswer (lane : LaneId)
  /-- PRICE_ANSWER (R50). -/
  | priceAnswer (lane : LaneId)
  /-- JOURNAL_RECORD_WRITE (R177). -/
  | journalRecordWrite
  /-- NOTIFY_TIMER_EXPIRY (R185). -/
  | notifyTimerExpiry
  /-- PROBE_TIMER_EXPIRY (R32). -/
  | probeTimerExpiry (lane : LaneId)
  /-- PROBE_WAIT_EXPIRY (R32). -/
  | probeWaitExpiry (lane : LaneId)
  /-- BEAM_EVENT (R138): the group's input has read `beam` without a break for `held` ms (assumption 21). -/
  | beamEvent (lane : LaneId) (group : BeamGroup) (beam : Beam) (held : Nat)
  /-- CREDIT_EXPIRY (R140), of the credit with that grant sequence. -/
  | creditExpiry (lane : LaneId) (sequence : Word)
  /-- STUCK_TIMER_EXPIRY (R146). -/
  | stuckTimerExpiry (lane : LaneId)
  /-- BOOST_END (R151). -/
  | boostEnd (lane : LaneId)
  /-- LIMIT_SWITCH_EVENT (R152): the limit switch's input now reads `active`. -/
  | limitSwitchEvent (lane : LaneId) (limit : Limit) (active : Bool)
  /-- BRAKE_END (R151). -/
  | brakeEnd (lane : LaneId)
  /-- LEAF_OVERLOAD (R153). -/
  | leafOverload (lane : LaneId)
  /-- STROKE_TIMEOUT (R154). -/
  | strokeTimeout (lane : LaneId)
  /-- EMERGENCY_ASSERTED (R157): the input has read asserted without a break for `held` ms. -/
  | emergencyAsserted (held : Nat)
  /-- EMERGENCY_RELEASED (R158): the input has read released without a break for `held` ms. -/
  | emergencyReleased (held : Nat)
  /-- TIMED_DISPLAY_END (R161). -/
  | timedDisplayEnd (lane : LaneId)
  /-- TONE_END (R162). -/
  | toneEnd (lane : LaneId)
  /-- PASSBACK_EXPIRY (R129). -/
  | passbackExpiry (card : CardNumber)
  /-- REGRANT_GRACE_EXPIRY (R129). -/
  | regrantGraceExpiry (card : CardNumber)
  /-- UNCERTAINTY_EXPIRY (R130). -/
  | uncertaintyExpiry (card : CardNumber)
  /-- RESET_PIN_ASSERTED (R191). -/
  | resetPinAsserted (cut : Nat)
  deriving DecidableEq, Repr

end Sys2Proof
end

