-- ==== Sys2Proof/WellFormed.lean ====
section
/-! DEFINITION. Which commands are well formed: their operands are values the outside can bring. -/

namespace Sys2Proof

/-- A card number the network uses: neither all zeros nor all ones (00 section 3). -/
def validCard (card : CardNumber) : Bool := card != 0#64 && card != BitVec.allOnes 64

/-- Addresses strictly rising and inside the exchange memory (R187). -/
def risingAddresses : List (Nat × BitVec 8) → Bool
  | [] => true
  | [c] => c.1 < Config.memorySize
  | c :: d :: rest => c.1 < d.1 && risingAddresses (d :: rest)

/-- A record is sixteen word writes and one of the tally (R177, R208). -/
def cutInRange (cut : Nat) : Bool := cut < 17

/-- A frame holds at least a kind byte and a two-byte frame check (01 section 1.2). -/
def receptionInRange : Reception → Bool
  | .single f => 3 ≤ f.bytes.length
  | .overlapped _ => true

def WellFormed : Instr → Bool
  | .powerOn _ contents => risingAddresses contents
  | .resetPinRelease _ cut => cutInRange cut
  | .restart _ _ cut => cutInRange cut
  | .attentionWrite _ => true
  | .attentionMaskWrite _ => true
  | .unusedRegisterWrite address _ => 6 ≤ address
  | .gcMemoryWrite _ => true
  | .gcMemoryRead _ => true
  | .orderSlotStateWordEvent _ => true
  | .consumedTallyEvent => true
  | .orderTake => true
  | .setTime => true
  | .setParameters => true
  | .parameterBlockReadEnd => true
  | .configureJournal => true
  | .adoptFareTable => true
  | .fareTableValidationEnd => true
  | .adoptDenylist => true
  | .denylistScanEnd => true
  | .denylistSwitch => true
  | .loadKey => true
  | .loadKeyComplete => true
  | .retireKey => true
  | .eraseKey => true
  | .setLaneMode => true
  | .resetLane => true
  | .clearLaneCounts => true
  | .readSighting => true
  | .forgetCard => true
  | .unknownOrderKind => true
  | .orderEnd => true
  | .clockTick => true
  | .dayNumberWrap => true
  | .serviceDayRollover => true
  | .clockReadout => true
  | .scanRoundStart => true
  | .settleEnd => true
  | .conversionEnd _ => true
  | .powerUpHoldEnd _ _ => true
  | .noiseMeasurementEnd _ _ => true
  | .frameSent _ => true
  | .answerStart _ => true
  | .answerReceived _ _ answer => receptionInRange answer
  | .responseWaitExpiry _ => true
  | .dialogueDeadlineExpiry _ => true
  | .aeOperationComplete => true
  | .claimAnswer _ => true
  | .screenLookupEnd _ => true
  | .screenAnswer _ => true
  | .priceAnswer _ => true
  | .journalRecordWrite => true
  | .notifyTimerExpiry => true
  | .probeTimerExpiry _ => true
  | .probeWaitExpiry _ => true
  | .beamEvent _ _ _ _ => true
  | .creditExpiry _ _ => true
  | .stuckTimerExpiry _ => true
  | .boostEnd _ => true
  | .limitSwitchEvent _ _ _ => true
  | .brakeEnd _ => true
  | .leafOverload _ => true
  | .strokeTimeout _ => true
  | .emergencyAsserted _ => true
  | .emergencyReleased _ => true
  | .timedDisplayEnd _ => true
  | .toneEnd _ => true
  | .passbackExpiry card => validCard card
  | .regrantGraceExpiry card => validCard card
  | .uncertaintyExpiry card => validCard card
  | .resetPinAsserted cut => cutInRange cut

end Sys2Proof
end

