-- ==== Sys2Proof/Decode.lean ====
section
/-! DEFINITION. The table gives no row any bits, so no word spells a command (spec/opcode_table.json: every row's
"fields" is empty). -/

namespace Sys2Proof

/-- The command a word spells by the table's bits: none, for every word. -/
def decodeTableWord (_nbits _w : Nat) : Option Instr := none

end Sys2Proof
end

