-- ==== Sys2Proof/Machine/State.lean ====
section
/-! DEFINITION. The state of the block as plain data, its reasons to stop, and the state after reset. -/

namespace Sys2Proof.Machine

open Sys2Proof

/-! ## Names (00 section 3) -/

/-- WORKDAY or RESTDAY, written as 1 and 2 (R166). -/
inductive DayType where
  | workday
  | restday
  deriving DecidableEq, Repr

/-- The direction of a dialogue, a credit or a record: 0 ENTRY, 1 EXIT (09 section 9.6). -/
inductive Direction where
  | entry
  | exit
  deriving DecidableEq, Repr

/-- A drive polarity (R24). -/
inductive Polarity where
  | normal
  | inverted
  deriving DecidableEq, Repr

/-- A lane's field state (R12). -/
inductive FieldState where
  | off
  | sniff
  | on
  deriving DecidableEq, Repr

/-- A lane's mode (R134). -/
inductive LaneMode where
  | out
  | entry
  | exit
  | free
  deriving DecidableEq, Repr

/-- The seven states of a Passage Controller (R134). -/
inductive PcState where
  | out
  | closed
  | opening
  | opened
  | closing
  | free
  | fault
  deriving DecidableEq, Repr

/-- A lane's fault cause (R154). -/
inductive FaultCause where
  | none
  | obstruction
  | strokeTimeout
  deriving DecidableEq, Repr

/-- What an indicator shows (R160). -/
inductive Symbol where
  | arrow
  | cross
  | wait
  | dark
  deriving DecidableEq, Repr

/-- The three tones (R162). -/
inductive Tone where
  | accept
  | refuse
  | alarm
  deriving DecidableEq, Repr

/-- The result codes of the journal and of the last result (09 section 9.6). -/
inductive ResultCode where
  | none
  | accept
  | regrant
  | uncertain
  | multiple
  | format
  | busy
  | concurrent
  | keyUnknown
  | keyRetired
  | authFail
  | checkFail
  | denied
  | clone
  | suspect
  | passback
  | expired
  | lowBalance
  | cardSpent
  | lost
  | tooSlow
  | aborted
  | took
  | void
  | overtaken
  | unresolved
  deriving DecidableEq, Repr

/-- The ten record kinds (R178). -/
inductive RecordKind where
  | fareEntry
  | fareExit
  | regrant
  | refused
  | uncertain
  | resolved
  | passed
  | lapsed
  | dropped
  | alert
  deriving DecidableEq, Repr

/-- The thirteen phases of a dialogue (R36). -/
inductive Phase where
  | select
  | identify
  | claim
  | auth
  | read
  | verify
  | screen
  | price
  | seal
  | write
  | confirm
  | grant
  | release
  deriving DecidableEq, Repr

/-- The causes of ATTENTION, bit 0 to bit 5 (R202). -/
inductive Cause where
  | order
  | journal
  | lane
  | alert
  | held
  | clock
  deriving DecidableEq, Repr

/-! ## Time and areas -/

/-- A station time (00 section 3): day, minute of day, millisecond within the minute. -/
structure StationTime where
  day : Nat
  minute : Nat
  ms : Nat
  deriving DecidableEq, Repr

/-- An area of the exchange memory, by its first byte address and its length in bytes (R194). -/
structure Area where
  base : Nat
  len : Nat
  deriving DecidableEq, Repr

/-- The Station Clock (08 section 8.1). `rolloverDue` and `readoutDue` are the model's own: what the last tick owes
(assumption 15). -/
structure StationClock where
  day : Nat
  minute : Nat
  ms : Nat
  setFlag : Bool
  serviceStart : Nat
  today : DayType
  nextDay : DayType
  stamp : Word
  rolloverDue : Bool
  readoutDue : Bool
  deriving DecidableEq, Repr

/-- The parameters of SET PARAMETERS (10 section 10.7), in the units of its table. -/
structure Parameters where
  scanPeriod : Nat
  detectDelta : Nat
  gainTarget : Nat
  noiseThreshold : Nat
  responseWait : Nat
  dialogueWindow : Nat
  regrantGrace : Nat
  passbackInterval : Nat
  uncertaintyLife : Nat
  debounce : Nat
  creditLife : Nat
  maxPassage : Nat
  boost : Nat
  brake : Nat
  tonePitch : Nat
  increment : PerLane Nat
  polarity : PerLane Polarity
  deriving DecidableEq, Repr

/-! ## Presence Scanner (02 section 2.2) -/

/-- The start of a round and the period in force for it (R15, R16). -/
structure ScanRound where
  start : Nat
  period : Nat
  deriving DecidableEq, Repr

/-- The measurement in hand: its lane, whether the conversion is in flight, when the present part of it ends, and
whether the lane has left SNIFF meanwhile (R17, R18). -/
structure Measurement where
  lane : LaneId
  converting : Bool
  due : Nat
  left : Bool
  deriving DecidableEq, Repr

structure Scanner where
  round : Option ScanRound
  rest : List LaneId
  measuring : Option Measurement
  deriving DecidableEq, Repr

/-! ## The card link (02) and the dialogue (03) -/

/-- A running carrier: the increment and polarity it started with (R23, R24) and when it started. -/
structure Carrier where
  increment : Nat
  polarity : Polarity
  start : Nat
  deriving DecidableEq, Repr

/-- A command of the card link (01 section 1.2); the challenge of an AUTH stands in the dialogue context (R8). -/
inductive CardCommand where
  | select
  | identify (card : CardNumber)
  | auth
  | read (index : Nat)
  | writePurse (image : List Byte)
  | probe
  deriving DecidableEq, Repr

/-- What a lane's link is doing (R21, R25, R29): nothing, the power-up hold, the noise measurement before a frame,
a frame being sent (with its rate and the response wait that will follow it), a response wait, an answer that began at
`start`. The wait and the answer keep the rate of their command (R30). A noise measurement, and the hold for the one
taken in it, keeps the threshold in force as it began (R29, assumption 46). -/
inductive LinkActivity where
  | idle
  | hold (due threshold : Nat)
  | noise (due : Nat) (command : CardCommand) (threshold : Nat)
  | sending (due : Nat) (command : CardCommand) (half : Bool) (wait : Nat)
  | waiting (due : Nat) (half : Bool)
  | receiving (start : Nat) (half : Bool)
  deriving DecidableEq, Repr

/-- The identity answer's fields (01 section 1.3). -/
structure Identity where
  card : CardNumber
  blockSize : Nat
  keyVersion : Nat
  deriving DecidableEq, Repr

/-- The transaction time (R49). -/
structure Transaction where
  time : StationTime
  serviceDay : Nat
  dayType : DayType
  deriving DecidableEq, Repr

/-- The five stage flags of a pricing (R103). -/
structure StageFlags where
  transfer : Bool
  capped : Bool
  overstay : Bool
  penalty : Bool
  saturated : Bool
  deriving DecidableEq, Repr

/-- What a pricing gave the dialogue (R35, R50, R60): charge, new balance, stage flags and the zones of its record. -/
structure PricingResult where
  charge : Nat
  newBalance : Int
  flags : StageFlags
  entryZone : Nat
  exitZone : Nat
  deriving DecidableEq, Repr

/-- A denylist in the exchange memory (R113). -/
structure Denylist where
  offset : Nat
  count : Nat
  deriving DecidableEq, Repr

/-- The answers of a screen (R119). -/
inductive ScreenAnswer where
  | pass
  | regrant
  | denied
  | clone
  | suspect
  | passback
  deriving DecidableEq, Repr

/-- A dialogue's outstanding request (R35): one to the AE, the FU or the JW, or its claim or screen at the SU with what
the SU is doing about it (R107, R118, R119). A claim keeps the station time of its request (R108). -/
inductive Outstanding where
  | engine
  | claim (due : Nat) (requested : StationTime)
  | lookupWaiting
  | lookup (list : Option Denylist) (due : Nat)
  | screened (answer : ScreenAnswer) (due : Nat)
  | price
  | journal
  deriving DecidableEq, Repr

/-- The dialogue context (R35). The last six fields: whether VERIFY has passed (R47), whether the image is sealed (R7),
when the outcome was decided and whether by an abort (R38, R62), the journal places reserved (R179) and the tag
(04 section 4.6). -/
structure Dialogue where
  direction : Direction
  deadline : Int
  phase : Phase
  command : Option CardCommand
  sendings : Nat
  outstanding : Option Outstanding
  identity : Option Identity
  known : Bool
  claimHeld : Bool
  cardKey : Option Key
  challenge : Option (BitVec 64)
  recordArea : List Byte
  screen : Option ScreenAnswer
  transaction : Option Transaction
  pricing : Option PricingResult
  image : Option (List Byte)
  expected : Option Nat
  writeSent : Bool
  degradedNote : Bool
  outcome : Option ResultCode
  verified : Bool
  isSealed : Bool
  decidedAt : Option StationTime
  byAbort : Bool
  reserved : Nat
  tag : Nat
  deriving DecidableEq, Repr

/-- The removal watch (02 section 2.11): the miss count, the PROBE timer as a station time (R173), and whether a PROBE
is owed at the end of the wait still open (R32). -/
structure RemovalWatch where
  misses : Nat
  probeAt : Option Int
  owed : Bool
  deriving DecidableEq, Repr

/-! ## Passage Controller (07) -/

/-- A credit's state (R139, R142): WAITING with an expiry, or IN USE with its kept life and whether it has reached the
far side. -/
inductive CreditState where
  | waiting (expiry : Int)
  | inUse (remaining : Int) (reachedFar : Bool)
  deriving DecidableEq, Repr

structure Credit where
  sequence : Word
  card : CardNumber
  direction : Direction
  state : CreditState
  deriving DecidableEq, Repr

/-- A passage in progress, with its STUCK timer until it has run out (R146). -/
structure Passage where
  stuckAt : Option Int
  deriving DecidableEq, Repr

/-- One value for each of the three beam groups (R138). -/
structure PerGroup (α : Type) where
  entrySide : α
  middle : α
  exitSide : α
  deriving DecidableEq, Repr

/-- The states of the three beam groups (R138). -/
abbrev Beams := PerGroup Beam

/-- The leaf drive (R151): RELEASED, HOLD, a stroke (BOOST until a time, or RUN) with its 1,000 ms limit and the brake
time it will use, or BRAKE until a time. -/
inductive Drive where
  | released
  | hold (limit : Limit)
  | stroke (toward : Limit) (boostEnd : Option Nat) (timeout : Nat) (brakeMs : Nat)
  | brake (limit : Limit) (due : Nat)
  deriving DecidableEq, Repr

structure TimedDisplay where
  symbol : Symbol
  due : Nat
  deriving DecidableEq, Repr

structure Sounding where
  tone : Tone
  pitch : Nat
  due : Nat
  deriving DecidableEq, Repr

/-- One lane: its Lane Reader, its Presence Scanner items, and its Passage Controller. `beamSince` is when each beam
group last changed, from which its debounce is measured (R138, R165). `rewritten` is the model's own: the offsets of
the status block's fields that the step wrote, whatever their value at its end (assumption 11). -/
structure Lane where
  field : FieldState
  carrier : Option Carrier
  gain : Nat
  noisyRun : Nat
  quietRun : Nat
  degraded : Bool
  baseline : Nat
  learning : Bool
  link : LinkActivity
  dialogue : Option Dialogue
  nextTag : Nat
  watch : Option RemovalWatch
  lastResult : ResultCode
  rewritten : List Nat
  journalFull : Bool
  mode : LaneMode
  pc : PcState
  credits : List Credit
  passage : Option Passage
  beams : Beams
  beamSince : PerGroup Nat
  drive : Drive
  openLimit : Bool
  closedLimit : Bool
  tailgate : Nat
  intrusion : Nat
  stuck : Nat
  obstruction : Nat
  obstructionRun : Nat
  faultCause : FaultCause
  timedDisplay : Option TimedDisplay
  waitRequest : Bool
  inProgress : Bool
  tone : Option Sounding
  stamp : Word
  deriving DecidableEq, Repr

/-- The emergency input as taken, whether its first stable reading has been taken (R157), and when it last changed, from
which its debounce is measured (R165). -/
structure Emergency where
  asserted : Bool
  seen : Bool
  since : Nat
  deriving DecidableEq, Repr

/-! ## Authentication Engine (04) -/

inductive KeyState where
  | empty
  | loaded
  | retired
  deriving DecidableEq, Repr

structure KeySlot where
  state : KeyState
  version : Nat
  key : Key
  deriving DecidableEq, Repr

/-- The four operations with the inputs their requests carry (R75). -/
inductive AeOperation where
  | derive (card : CardNumber) (version : Nat)
  | authCheck (answer : CheckValue) (challenge : BitVec 64) (card : CardNumber)
  | verify (product : List Byte) (purse : List Byte)
  | seal (image : List Byte)
  deriving DecidableEq, Repr

structure AeRequest where
  lane : LaneId
  tag : Nat
  operation : AeOperation
  deadline : Int
  deriving DecidableEq, Repr

/-- What the engine copied into its working store as the operation entered service (R68, R75). -/
inductive WorkingStore where
  | key (k : Key)
  | keyRetired
  | keyUnknown
  deriving DecidableEq, Repr

structure AeService where
  lane : LaneId
  tag : Nat
  operation : AeOperation
  completes : Nat
  store : WorkingStore
  deriving DecidableEq, Repr

structure Engine where
  slots : Vector KeySlot 8
  requests : List AeRequest
  service : Option AeService
  draws : Nat
  lastChallenge : Option (BitVec 64)
  deriving DecidableEq, Repr

/-! ## Fare Unit (05) -/

/-- A pricing in progress (R87): its dialogue's tag, the table it is bound to, what the request carries, its end. -/
structure Pricing where
  tag : Nat
  table : Area
  direction : Direction
  product : List Byte
  purse : List Byte
  transaction : Transaction
  due : Nat
  deriving DecidableEq, Repr

structure FareUnit where
  active : Option Area
  pending : Option Area
  previous : Option Area
  pricings : PerLane (Option Pricing)
  deriving DecidableEq, Repr

/-! ## Screening Unit (06) -/

/-- The last image of an entry (R105). -/
structure LastImage where
  counter : Nat
  check : CheckValue
  deriving DecidableEq, Repr

/-- The uncertainty part of an entry (R54, R105); the created time is a timer (R173). -/
structure Uncertainty where
  oldCounter : Nat
  oldCheck : CheckValue
  newCounter : Nat
  newCheck : CheckValue
  charge : Nat
  lane : LaneId
  direction : Direction
  created : Int
  deriving DecidableEq, Repr

/-- The credit mark of an entry (R105); the times are timers (R173). -/
inductive CreditMark where
  | none
  | pending (lane : LaneId) (sequence : Word)
  | used (direction : Direction) (time : Int)
  | unused (direction : Direction) (until_ : Int)
  deriving DecidableEq, Repr

/-- A sighting entry (R105). -/
structure Sighting where
  card : CardNumber
  claim : Option LaneId
  lastImage : Option LastImage
  uncertainty : Option Uncertainty
  mark : CreditMark
  suspect : Nat
  touched : StationTime
  deriving DecidableEq, Repr

/-- The sighting table, least recently touched first, and the denylists (R105, R113). -/
structure Screening where
  table : List Sighting
  active : Option Denylist
  pending : Option Denylist
  deriving DecidableEq, Repr

/-! ## Journal Writer (09) -/

/-- A journal record without its sequence (09 section 9.6). -/
structure Record where
  kind : RecordKind
  lane : LaneId
  direction : Direction
  result : ResultCode
  card : CardNumber
  time : StationTime
  counterBefore : Nat
  counterAfter : Nat
  charge : Nat
  balanceAfter : Int
  flags : Byte
  dailySum : Nat
  entryZone : Nat
  exitZone : Nat
  deriving DecidableEq, Repr

/-- The holder whose reservation a request uses (R180). -/
inductive Holder where
  | dialogue (lane : LaneId)
  | credit
  | part
  deriving DecidableEq, Repr

/-- Who goes on when the record is written (R177): nobody, a dialogue to GRANT (R53, R55), a dialogue through RELEASE
(R56), a screen's answer (R123), the order in service (R132). -/
inductive Waiter where
  | nobody
  | grant (lane : LaneId)
  | release (lane : LaneId)
  | screen (lane : LaneId)
  | order
  deriving DecidableEq, Repr

structure RecordRequest where
  record : Record
  holder : Holder
  waiter : Waiter
  deriving DecidableEq, Repr

structure Ring where
  base : Nat
  size : Nat
  level : Nat
  delay : Nat
  deriving DecidableEq, Repr

structure Journal where
  ring : Option Ring
  position : Nat
  written : Word
  consumed : Word
  reserved : Nat
  notifyDue : Option Nat
  queue : List RecordRequest
  writeDue : Nat
  deriving DecidableEq, Repr

/-! ## Order Processor (10) -/

/-- An order slot's state, with the state words 0 to 4 (R196). -/
inductive SlotState where
  | empty
  | posted
  | taken
  | done
  | refused
  deriving DecidableEq, Repr

/-- The order result codes (10 section 10.6.3). -/
inductive OrderCode where
  | none
  | found
  | notFound
  | argument
  | kind
  | busy
  | notReady
  | slotInUse
  | duplicate
  | tableInvalid
  | listInvalid
  | restart
  deriving DecidableEq, Repr

/-- An order's result data: bytes, or a lane's mode and state as they stand when the order ends (R135). -/
inductive ResultData where
  | bytes (data : List Byte)
  | laneNow (lane : LaneId)
  deriving DecidableEq, Repr

/-- How far the order in service is: handed to its owner (R197), waiting for the end of its reading, validation, scan,
switch, last pricing, key load or UNRESOLVED record (R132), or ended with a result that ORDER_END writes from `due` on
(R198). -/
inductive OrderStage where
  | handed
  | readingParameters (offset : Nat)
  | validatingTable (start : Nat)
  | scanningDenylist (start : Nat)
  | awaitingSwitch
  | awaitingPricings
  | loadingKey
  | forgetting (card : CardNumber)
  | ended (done : Bool) (code : OrderCode) (data : ResultData) (due : Nat)
  deriving DecidableEq, Repr

structure OrderInService where
  slot : Fin 8
  kind : Byte
  ticket : Word
  args : List Byte
  takenAt : Nat
  stage : OrderStage
  deriving DecidableEq, Repr

/-- The six places of the held-range list (R194). -/
structure HeldList where
  fare : Option Area
  fareSecond : Option Area
  deny : Option Area
  denyPending : Option Area
  ring : Option Area
  staging : Option Area
  deriving DecidableEq, Repr

/-- The five readiness inputs (R201). -/
structure Readiness where
  clockSet : Bool
  fareAdopted : Bool
  denyAdopted : Bool
  keyLoaded : Bool
  journalConfigured : Bool
  deriving DecidableEq, Repr

/-- The Order Processor; the last two fields are the write-watch events not yet taken, of the slots' state words and of
the consumed tally (R193). -/
structure Orders where
  slots : Vector SlotState 8
  lastTaken : Fin 8
  service : Option OrderInService
  held : HeldList
  ready : Readiness
  watchEvents : List (Fin 8)
  tallyEvents : Nat
  deriving DecidableEq, Repr

/-! ## Port, registers, start-up (10) -/

/-- An access begun at the port while the reset pin is asserted or in a start-up, which waits (R191). -/
inductive PortAccess where
  | read (read : PortRead)
  | write (write : PortWrite)
  | attention (write : RegWrite)
  | mask (write : RegWrite)
  | control (write : RegWrite) (inputs : StartInputs) (cut : Nat)
  | unused
  deriving DecidableEq, Repr

/-- A byte kept in a latch, with the word it belongs to (R192). -/
structure Latch where
  word : BitVec 17
  byte : Byte
  deriving DecidableEq, Repr

structure Port where
  width : PortWidth
  byteLatch : Option Latch
  readLatch : Option Latch
  dataOut : List Byte
  waiting : List PortAccess
  deriving DecidableEq, Repr

structure Registers where
  attention : Word
  mask : Word
  deriving DecidableEq, Repr

inductive PartState where
  | starting
  | setup
  | running
  deriving DecidableEq, Repr

structure System where
  partState : PartState
  restartCount : Word
  lastHeld : Nat
  resetPin : Bool
  deriving DecidableEq, Repr

/-! ## The state of the block -/

/-- A row that would abort a dialogue while the steps of R53 or R55 are carried out, and which is taken once they are
complete (assumption 10). -/
inductive Deferred where
  | setLaneMode
  | resetLane
  | leafOverload (lane : LaneId)
  | strokeTimeout (lane : LaneId)
  | emergencyAsserted (held : Nat)
  deriving DecidableEq, Repr

/-- The whole block, and the queue of the commands that wait. `nextTick` is the time base at the next millisecond of
station time (R164, assumption 2). The memory is a list of address and byte pairs in the canonical form of `Memory.wf`
(assumption 5). -/
structure State where
  timeBase : Nat
  nextTick : Nat
  clock : StationClock
  params : Parameters
  debounceLog : List (Nat × Nat)
  scanner : Scanner
  lanes : PerLane Lane
  emergency : Emergency
  engine : Engine
  fare : FareUnit
  screening : Screening
  journal : Journal
  orders : Orders
  port : Port
  regs : Registers
  sys : System
  deferred : List Deferred
  mem : List Host.Cell
  pending : List Instr
  deriving DecidableEq, Repr

/-- Why a step can stop the model. -/
inductive Fault where
  /-- Raised by POWER_ON alone, when its operand lists a byte at an address outside the 262,144 bytes of the exchange
  memory (R187). Safe: no part has such a byte. -/
  | noSuchAddress (address : Nat)
  deriving DecidableEq, Repr

/-- Why a command has no meaning. -/
inductive Refusal where
  /-- Raised by no meaning; a command of that name has none yet. Safe. -/
  | notModelled (mnemonic : String)
  deriving DecidableEq, Repr

/-! ## Reset -/

/-- The defaults of every parameter (R200). -/
def Parameters.default : Parameters where
  scanPeriod := 100
  detectDelta := 12
  gainTarget := 160
  noiseThreshold := 50
  responseWait := 4
  dialogueWindow := 250
  regrantGrace := 120
  passbackInterval := 300
  uncertaintyLife := 7200
  debounce := 30
  creditLife := 8
  maxPassage := 6
  boost := 80
  brake := 40
  tonePitch := 2400
  increment := ⟨67408000, 67408000, 67408000, 67408000⟩
  polarity := ⟨.normal, .normal, .normal, .normal⟩

/-- A lane after power-on, the reset pin or a restart (R34, R66, R163, R186); the limit switches are input pins, here
at the model's choice of a lane whose leaves stand closed (assumption 17). -/
def Lane.reset : Lane where
  field := .off
  carrier := none
  gain := 16
  noisyRun := 0
  quietRun := 0
  degraded := false
  baseline := 512
  learning := true
  link := .idle
  dialogue := none
  nextTag := 0
  watch := none
  lastResult := .none
  rewritten := []
  journalFull := false
  mode := .out
  pc := .out
  credits := []
  passage := none
  beams := ⟨.blocked, .blocked, .blocked⟩
  beamSince := ⟨0, 0, 0⟩
  drive := .released
  openLimit := false
  closedLimit := true
  tailgate := 0
  intrusion := 0
  stuck := 0
  obstruction := 0
  obstructionRun := 0
  faultCause := .none
  timedDisplay := none
  waitRequest := false
  inProgress := false
  tone := none
  stamp := 0#16

/-- The part right after a power-on start-up (R206), over a memory that reads as assumption 5 says. -/
def State.reset : State where
  timeBase := 0
  nextTick := Config.unitsPerMs
  clock := ⟨0, 0, 0, false, 180, .workday, .workday, 1#16, false, false⟩
  params := Parameters.default
  debounceLog := [(0, 30)]
  scanner := ⟨none, [], none⟩
  lanes := ⟨Lane.reset, Lane.reset, Lane.reset, Lane.reset⟩
  emergency := ⟨false, false, 0⟩
  engine := ⟨Vector.replicate 8 ⟨.empty, 0, 0#128⟩, [], none, 0, none⟩
  fare := ⟨none, none, none, ⟨none, none, none, none⟩⟩
  screening := ⟨[], none, none⟩
  journal := ⟨none, 0, 0#16, 0#16, 0, none, [], 0⟩
  orders := ⟨Vector.replicate 8 .empty, 7, none, ⟨none, none, none, none, none, none⟩,
    ⟨false, false, false, false, false⟩, [], 0⟩
  port := ⟨.bits16, none, none, [], []⟩
  regs := ⟨0x0020#16, 0#16⟩
  sys := ⟨.running, 0#16, 0, false⟩
  deferred := []
  mem := []
  pending := []

end Sys2Proof.Machine
end

