-- ==== Sys2Proof/Machine/Ops.lean ====
section
/-! DEFINITION. The named operations over bytes, memory, lanes, time, attention, held ranges and the journal's room,
which every meaning is built from. -/

namespace Sys2Proof

/-! ## Per lane -/

def PerLane.get {α : Type} (p : PerLane α) : LaneId → α
  | .lane0 => p.l0
  | .lane1 => p.l1
  | .lane2 => p.l2
  | .lane3 => p.l3

def PerLane.set {α : Type} (p : PerLane α) (l : LaneId) (x : α) : PerLane α :=
  match l with
  | .lane0 => { p with l0 := x }
  | .lane1 => { p with l1 := x }
  | .lane2 => { p with l2 := x }
  | .lane3 => { p with l3 := x }

def LaneId.toNat : LaneId → Nat
  | .lane0 => 0
  | .lane1 => 1
  | .lane2 => 2
  | .lane3 => 3

/-- The lane of that number, if there is one (a lane number above 3 is refused, R135). -/
def LaneId.ofNat? : Nat → Option LaneId
  | 0 => some .lane0
  | 1 => some .lane1
  | 2 => some .lane2
  | 3 => some .lane3
  | _ => none

/-- The lanes in ascending number (R15). -/
def LaneId.all : List LaneId := [.lane0, .lane1, .lane2, .lane3]

end Sys2Proof

namespace Sys2Proof.Machine

open Sys2Proof

/-! ## Bytes: multi-byte fields are little-endian (00 section 3) -/

def leNat : List Byte → Nat
  | [] => 0
  | b :: rest => b.toNat + 256 * leNat rest

def leBytes : Nat → Nat → List Byte
  | 0, _ => []
  | n + 1, v => BitVec.ofNat 8 v :: leBytes n (v / 256)

/-- The `n` bytes of an image from `off` on, as a number. -/
def fieldAt (image : List Byte) (off n : Nat) : Nat := leNat ((image.drop off).take n)

/-- An image with the bytes from `off` on replaced. -/
def patch (image : List Byte) (off : Nat) (bs : List Byte) : List Byte :=
  image.take off ++ bs ++ image.drop (off + bs.length)

/-- A two's complement number of `n` bytes. -/
def signedOf (n v : Nat) : Int := if v < 2 ^ (8 * n - 1) then (v : Int) else (v : Int) - (2 ^ (8 * n) : Nat)

/-- The low `n` bytes of a signed number in two's complement. -/
def signedBytes (n : Nat) (v : Int) : List Byte := leBytes n (v % ((2 ^ (8 * n) : Nat) : Int)).toNat

/-! ## The exchange memory (R187): one canonical list of address and byte pairs -/

/-- What an address that the list does not name reads as: the header and lane status bytes that a power-on start-up
writes (R205: part state RUNNING, readout stamp 1, gain step 16 of each lane), and 0 elsewhere (assumption 5). -/
def Memory.resetByte (a : Nat) : Byte :=
  if a = 0x00 then 3#8
  else if a = 0x0E then 1#8
  else if a = 0x45 ∨ a = 0x65 ∨ a = 0x85 ∨ a = 0xA5 then 16#8
  else 0#8

def Memory.read : List Host.Cell → Nat → Byte
  | [], a => Memory.resetByte a
  | (b, v) :: rest, a => if a = b then v else Memory.read rest a

/-- Put a byte at an address, keeping the list strictly rising and free of entries that say no more than an unlisted
address. -/
def Memory.put : List Host.Cell → Nat → Byte → List Host.Cell
  | [], a, v => if v = Memory.resetByte a then [] else [(a, v)]
  | (b, w) :: rest, a, v =>
    if a < b then (if v = Memory.resetByte a then (b, w) :: rest else (a, v) :: (b, w) :: rest)
    else if a = b then (if v = Memory.resetByte a then rest else (a, v) :: rest)
    else (b, w) :: Memory.put rest a v

/-- Write one byte; the memory has no byte at or above its size. -/
def Memory.write (m : List Host.Cell) (a : Nat) (v : Byte) : List Host.Cell :=
  if a < Config.memorySize then Memory.put m a v else m

def Memory.writeBytes (m : List Host.Cell) (a : Nat) : List Byte → List Host.Cell
  | [] => m
  | b :: rest => Memory.writeBytes (Memory.write m a b) (a + 1) rest

def Memory.readBytes (m : List Host.Cell) (a : Nat) : Nat → List Byte
  | 0 => []
  | n + 1 => Memory.read m a :: Memory.readBytes m (a + 1) n

/-- The little-endian number in `n` bytes from an address. -/
def Memory.readNat (m : List Host.Cell) (a n : Nat) : Nat := leNat (Memory.readBytes m a n)

def Memory.writeNat (m : List Host.Cell) (a n v : Nat) : List Host.Cell := Memory.writeBytes m a (leBytes n v)

/-- Write each pair of a list, in order. -/
def Memory.writeCells (m : List Host.Cell) : List (Nat × BitVec 8) → List Host.Cell
  | [] => m
  | (a, v) :: rest => Memory.writeCells (Memory.write m a v) rest

/-- Every entry lies above `low`, the addresses rise strictly and stay inside the memory, and no entry equals what an
unlisted address reads as. -/
def Memory.wfFrom (low : Nat) : List Host.Cell → Bool
  | [] => true
  | (a, v) :: rest =>
    low ≤ a && a < Config.memorySize && v != Memory.resetByte a && Memory.wfFrom (a + 1) rest

/-- The canonical form of the memory. -/
def Memory.wf (m : List Host.Cell) : Bool := Memory.wfFrom 0 m

/-! ## State access -/

def State.lane (s : State) (l : LaneId) : Lane := s.lanes.get l

def State.setLane (s : State) (l : LaneId) (x : Lane) : State := { s with lanes := s.lanes.set l x }

def State.updLane (s : State) (l : LaneId) (f : Lane → Lane) : State := s.setLane l (f (s.lane l))

def State.writeMem (s : State) (a : Nat) (bs : List Byte) : State :=
  { s with mem := Memory.writeBytes s.mem a bs }

/-- The rows other than the start-ups and the port's accesses do nothing while the reset pin is asserted. R191 says only
that accesses wait meanwhile; that no block takes an event until the pin is released is the model's choice
(assumption 50). -/
def State.running (s : State) (f : State → State) : State := if s.sys.resetPin then s else f s

/-! ## Time (08) -/

def StationTime.instant (t : StationTime) : Int := t.day * 86400000 + t.minute * 60000 + t.ms

/-- The number of milliseconds in the 65,536 days of station time (R164). -/
def daySpan : Int := 65536 * 86400000

/-- The station time of an instant, carried into minutes and days as the fields require (R164). -/
def StationTime.ofInstant (i : Int) : StationTime :=
  let n := (i % daySpan).toNat
  ⟨n / 86400000, n % 86400000 / 60000, n % 60000⟩

def State.now (s : State) : StationTime := ⟨s.clock.day, s.clock.minute, s.clock.ms⟩

def State.instant (s : State) : Int := s.now.instant

/-- Time base units of microseconds and milliseconds (assumption 2). -/
def usec (n : Nat) : Nat := 10 * n

def msec (n : Nat) : Nat := Config.unitsPerMs * n

/-- A timed event may be taken from its end time on, so it is reached when that time comes no later than the next tick
(assumption 2). -/
def State.reached (s : State) (due : Nat) : Bool := due ≤ s.nextTick

/-- Take a timed event: the time base moves to its end time. Before its time it changes nothing (assumption 1). -/
def State.onDue (s : State) (due : Nat) (f : State → State) : State :=
  if s.reached due then f { s with timeBase := max s.timeBase due } else s

/-! ## Attention (R202) -/

def Cause.bit : Cause → Word
  | .order => 0x01#16
  | .journal => 0x02#16
  | .lane => 0x04#16
  | .alert => 0x08#16
  | .held => 0x10#16
  | .clock => 0x20#16

/-- Raising a cause that is already set leaves it set (R202). -/
def State.raise (s : State) (c : Cause) : State :=
  { s with regs := { s.regs with attention := s.regs.attention ||| c.bit } }

/-- The attention line (R203). -/
def State.attentionLine (s : State) : Bool := s.regs.attention &&& s.regs.mask != 0#16

/-- Record the address of a write that was discarded or written back, and raise HELD (R195, R183, R196). -/
def State.recordHeld (s : State) (address : Nat) : State :=
  (State.raise { s with sys := { s.sys with lastHeld := address } } .held).writeMem 0x14 (leBytes 4 address)

/-! ## Areas and held ranges (R194) -/

def Area.overlaps (a b : Area) : Bool := a.base < b.base + b.len && b.base < a.base + a.len

def Area.contains (a : Area) (address : Nat) : Bool := a.base ≤ address && address < a.base + a.len

/-- The area lies wholly in the free region (R187). -/
def Area.inFree (a : Area) : Bool := Config.freeBase ≤ a.base && a.base + a.len ≤ Config.memorySize

def HeldList.places (h : HeldList) : List (Option Area) :=
  [h.fare, h.fareSecond, h.deny, h.denyPending, h.ring, h.staging]

def HeldList.overlaps (h : HeldList) (a : Area) : Bool := h.places.any fun p => p.any (Area.overlaps a)

/-- The address of a slot, and so of its state word (10 section 10.6). -/
def slotBase (k : Fin 8) : Nat := 0x100 + 64 * k.val

def State.setHeld (s : State) (h : HeldList) : State := { s with orders := { s.orders with held := h } }

/-- The address is in a held range: one of the six places, or the state word of a TAKEN slot (R194). -/
def State.heldAt (s : State) (address : Nat) : Bool :=
  (s.orders.held.places.any fun p => p.any fun a => a.contains address) ||
    (List.finRange 8).any fun k =>
      s.orders.slots[k] = .taken && (Area.contains ⟨slotBase k, 2⟩ address)

/-! ## The journal's room (09 section 9.1) -/

/-- The unconsumed count (09 section 9.1). -/
def Journal.unconsumed (j : Journal) : Nat := (j.written - j.consumed).toNat

/-- The open room: the ring's size less the unconsumed count and the reserved count; none without a ring. -/
def Journal.openRoom (j : Journal) : Nat :=
  match j.ring with
  | none => 0
  | some r => r.size - j.unconsumed - j.reserved

/-- Add a record request to the queue; one that finds the queue empty is written from this moment on, 2 µs long
(R177). -/
def State.enqueue (s : State) (r : RecordRequest) : State :=
  { s with journal :=
      { s.journal with
        queue := s.journal.queue ++ [r]
        writeDue := if s.journal.queue.isEmpty then s.timeBase + usec 2 else s.journal.writeDue } }

/-- A record request with that waiter has not been written yet (R177). -/
def State.awaitsRecord (s : State) (w : Waiter) : Bool := s.journal.queue.any fun r => r.waiter = w

/-- The reservation of a dialogue that starts (R21), or the return of places (R58). -/
def State.setReserved (s : State) (n : Nat) : State := { s with journal := { s.journal with reserved := n } }

end Sys2Proof.Machine
end

