-- ==== Sys2Proof/Machine/Flags.lean ====
section
/-! DEFINITION. Every code and flag word the gate computer sees, and the publication of the lane status blocks, the
readiness summary and JOURNAL FULL at the end of a step. -/

namespace Sys2Proof.Machine

open Sys2Proof

/-! ## Codes -/

/-- 09 section 9.6. -/
def ResultCode.code : ResultCode → Nat
  | .none => 0
  | .accept => 1
  | .regrant => 2
  | .uncertain => 3
  | .multiple => 4
  | .format => 5
  | .busy => 6
  | .concurrent => 7
  | .keyUnknown => 8
  | .keyRetired => 9
  | .authFail => 10
  | .checkFail => 11
  | .denied => 12
  | .clone => 13
  | .suspect => 14
  | .passback => 15
  | .expired => 16
  | .lowBalance => 17
  | .cardSpent => 18
  | .lost => 19
  | .tooSlow => 20
  | .aborted => 21
  | .took => 22
  | .void => 23
  | .overtaken => 24
  | .unresolved => 25

/-- 09 section 9.6. -/
def RecordKind.code : RecordKind → Nat
  | .fareEntry => 1
  | .fareExit => 2
  | .regrant => 3
  | .refused => 4
  | .uncertain => 5
  | .resolved => 6
  | .passed => 7
  | .lapsed => 8
  | .dropped => 9
  | .alert => 10

/-- 10 section 10.6.3. -/
def OrderCode.code : OrderCode → Nat
  | .none => 0
  | .found => 1
  | .notFound => 2
  | .argument => 16
  | .kind => 17
  | .busy => 18
  | .notReady => 19
  | .slotInUse => 20
  | .duplicate => 21
  | .tableInvalid => 22
  | .listInvalid => 23
  | .restart => 24

/-- 10 section 10.6, the state word. -/
def SlotState.code : SlotState → Nat
  | .empty => 0
  | .posted => 1
  | .taken => 2
  | .done => 3
  | .refused => 4

/-- The lane status block's mode byte (R189). -/
def LaneMode.code : LaneMode → Nat
  | .out => 0
  | .entry => 1
  | .exit => 2
  | .free => 3

/-- SET LANE MODE's mode argument, coded as in the lane status block (10 section 10.6.2). -/
def LaneMode.ofCode? : Nat → Option LaneMode
  | 0 => some .out
  | 1 => some .entry
  | 2 => some .exit
  | 3 => some .free
  | _ => none

/-- R189. -/
def PcState.code : PcState → Nat
  | .out => 0
  | .closed => 1
  | .opening => 2
  | .opened => 3
  | .closing => 4
  | .free => 5
  | .fault => 6

/-- R189. -/
def FieldState.code : FieldState → Nat
  | .off => 0
  | .sniff => 1
  | .on => 2

/-- R189. -/
def FaultCause.code : FaultCause → Nat
  | .none => 0
  | .obstruction => 1
  | .strokeTimeout => 2

/-- 09 section 9.6, R131. -/
def Direction.code : Direction → Nat
  | .entry => 0
  | .exit => 1

/-- R166. -/
def DayType.code : DayType → Nat
  | .workday => 1
  | .restday => 2

def DayType.ofCode? : Nat → Option DayType
  | 1 => some .workday
  | 2 => some .restday
  | _ => none

/-- 10 section 10.6.3. -/
def KeyState.code : KeyState → Nat
  | .empty => 0
  | .loaded => 1
  | .retired => 2

/-- R131. -/
def CreditMark.code : CreditMark → Nat
  | .none => 0
  | .pending _ _ => 1
  | .used _ _ => 2
  | .unused _ _ => 3

/-- R188. -/
def PartState.code : PartState → Nat
  | .starting => 1
  | .setup => 2
  | .running => 3

/-! ## Flag words -/

def bitOf (b : Bool) (n : Nat) : Nat := if b then 2 ^ n else 0

/-- The stage flags in the flags byte of a record: bits 0 to 4 (09 section 9.6, R103). -/
def StageFlags.bits (f : StageFlags) : Nat :=
  bitOf f.transfer 0 + bitOf f.capped 1 + bitOf f.overstay 2 + bitOf f.penalty 3 + bitOf f.saturated 4

def StageFlags.clear : StageFlags := ⟨false, false, false, false, false⟩

/-- The flags byte of a record (09 section 9.6): stage flags, bit 5 degraded link, bit 6 regrant. -/
def recordFlags (stage : StageFlags) (degraded regrant : Bool) : Byte :=
  BitVec.ofNat 8 (stage.bits + bitOf degraded 5 + bitOf regrant 6)

/-- The readiness summary of the header (R201, 10 section 10.2). -/
def Readiness.summary (r : Readiness) : Nat :=
  bitOf r.clockSet 0 + bitOf r.fareAdopted 1 + bitOf r.denyAdopted 2 + bitOf r.keyLoaded 3 +
    bitOf r.journalConfigured 4

/-- The part is ready when all five inputs hold (R201). -/
def Readiness.all (r : Readiness) : Bool :=
  r.clockSet && r.fareAdopted && r.denyAdopted && r.keyLoaded && r.journalConfigured

/-- A lane's mode and state as result data shows them (10 section 10.6.3). -/
def Lane.modeAndState (x : Lane) : List Byte := leBytes 1 x.mode.code ++ leBytes 1 x.pc.code

/-- The lane flags byte (R189). -/
def laneFlags (x : Lane) (e : Emergency) : Nat :=
  bitOf x.degraded 0 + bitOf x.journalFull 1 + bitOf e.asserted 2

/-! ## The lane status block (R189) -/

/-- Lane n's block stands at 0x00040 + 32 × n. -/
def statusBase (l : LaneId) : Nat := 0x40 + 32 * l.toNat

/-- The fields of a lane's block by offset, without the stamp. -/
def shownFields (x : Lane) (e : Emergency) : List (Nat × List Byte) :=
  [(0, leBytes 1 x.mode.code), (1, leBytes 1 x.pc.code), (2, leBytes 1 x.credits.length),
   (3, leBytes 1 x.field.code), (4, leBytes 1 (laneFlags x e)), (5, leBytes 1 x.gain),
   (6, leBytes 1 x.lastResult.code), (7, leBytes 1 x.faultCause.code), (8, leBytes 2 x.tailgate),
   (10, leBytes 2 x.intrusion), (12, leBytes 2 x.stuck), (14, leBytes 2 x.obstruction)]

/-- Write the fields whose value changed, and those that the step wrote though they end at the value they had. -/
def publishFields (m : List Host.Cell) (base : Nat) (rewritten : List Nat) :
    List (Nat × List Byte) → List (Nat × List Byte) → List Host.Cell
  | (_, old) :: olds, (o, new) :: news =>
    publishFields (if old = new ∧ o ∉ rewritten then m else Memory.writeBytes m (base + o) new) base rewritten olds news
  | _, _ => m

/-- Write a lane's block when a shown value changed in the event, when RELEASE placed a result (R61), when an alarm was
counted (R149), or when the field went OFF and back to SNIFF (R12, R13); then its stamp advances once and is written
(R189, assumption 11). -/
def State.publishLane (before s : State) (l : LaneId) : State :=
  let old := shownFields (before.lane l) before.emergency
  let x := s.lane l
  let new := shownFields x s.emergency
  if old = new ∧ x.rewritten = [] then s
  else
    let m := publishFields s.mem (statusBase l) x.rewritten old new
    let stamp := x.stamp + 1#16
    { s.setLane l { x with stamp := stamp, rewritten := [] } with
      mem := Memory.writeNat m (statusBase l + 16) 2 stamp.toNat }

/-- The readiness summary is written at each change of an input (R201). -/
def State.publishReadiness (before s : State) : State :=
  if before.orders.ready = s.orders.ready then s
  else { s with mem := Memory.writeNat s.mem 0x02 2 s.orders.ready.summary }

/-- JOURNAL FULL is cleared (R181). -/
def Lane.roomAgain (x : Lane) : Lane := { x with journalFull := false }

/-- Every lane's JOURNAL FULL is cleared at the first moment the open room is again 4 or more (R181). -/
def State.settleJournalFull (s : State) : State :=
  if 4 ≤ s.journal.openRoom then
    { s with lanes := ⟨s.lanes.l0.roomAgain, s.lanes.l1.roomAgain, s.lanes.l2.roomAgain, s.lanes.l3.roomAgain⟩ }
  else s

/-- The end of a step that took `before` to `s`: what the blocks show is written. -/
def State.conclude (before s : State) : State :=
  let s := s.settleJournalFull
  let s := State.publishLane before s .lane0
  let s := State.publishLane before s .lane1
  let s := State.publishLane before s .lane2
  let s := State.publishLane before s .lane3
  State.publishReadiness before s

/-- A step of the part: nothing while the reset pin is asserted, else its effect and the publication. -/
def State.event (s : State) (f : State → State) : State := s.running fun s => State.conclude s (f s)

/-! ## Registers (10 section 10.9) -/

/-- The value of a register write as a word, and the bits it acts on. -/
def regBits : RegWrite → Word
  | .word v => v
  | .low v => v.setWidth 16
  | .high v => (v.setWidth 16) <<< 8

def regEnabled : RegWrite → Word
  | .word _ => 0xFFFF#16
  | .low _ => 0x00FF#16
  | .high _ => 0xFF00#16

/-- The causes' bits, 0 to 5. -/
def causeBits : Word := 0x003F#16

/-- CONTROL reads the width in force in bit 1 (R204). -/
def State.controlRead (s : State) : Word := if s.port.width = .bits16 then 0x0002#16 else 0#16

/-- A register as read; a register address of 6 or above reads as zero (R190). Each register is a word at an even
address; an odd address in 8-bit width names its high byte, which the caller gives as the part. -/
def State.registerRead (s : State) (address : Nat) : Word :=
  if address / 2 = 0 then s.regs.attention
  else if address / 2 = 1 then s.regs.mask
  else if address / 2 = 2 then s.controlRead
  else 0#16

/-! ## The indicator (R160) -/

/-- A credit is WAITING. -/
def Credit.isWaiting (c : Credit) : Bool :=
  match c.state with
  | .waiting _ => true
  | .inUse _ _ => false

/-- The first item of R160's list that applies. -/
def Lane.indicator (x : Lane) : Symbol :=
  if x.mode = .out ∨ x.pc = .fault then .cross
  else if x.pc = .free then .arrow
  else
    match x.timedDisplay with
    | some d => d.symbol
    | none =>
      if x.credits.any Credit.isWaiting then .arrow
      else if x.inProgress then .wait
      else if x.waitRequest then .wait
      else .dark

end Sys2Proof.Machine
end

