-- ==== Sys2Proof/Machine/Operands.lean ====
section
/-! DEFINITION. Every operand form: the frames of the card link with their frame check, the card's records, the
journal record's bytes, the fare table and denylist entries, and the arguments of the orders. -/

namespace Sys2Proof.Machine

open Sys2Proof

/-! ## The frame check (01 section 1.2, R1) -/

/-- One bit of the reflected CRC with generator x^16 + x^12 + x^5 + 1. -/
def crcBit (c : Word) : Word := if c.getLsbD 0 then (c >>> 1) ^^^ 0x8408#16 else c >>> 1

def crcBits : Nat → Word → Word
  | 0, c => c
  | n + 1, c => crcBits n (crcBit c)

def crcByte (c : Word) (b : Byte) : Word := crcBits 8 (c ^^^ b.setWidth 16)

/-- The frame check over bytes: initial value all ones, low bit first, not inverted at the end. -/
def frameCheck (bs : List Byte) : Word := bs.foldl crcByte 0xFFFF#16

/-! ## Frames the part sends -/

/-- The length of a command frame after its start pattern: kind byte, fields, frame check (02 section 2.6). -/
def CardCommand.byteLength : CardCommand → Nat
  | .select => 3
  | .identify _ => 11
  | .auth => 11
  | .read _ => 4
  | .writePurse image => 3 + image.length
  | .probe => 3

/-- A command's kind and fields, the challenge being the one the dialogue took for it. -/
def CardCommand.kindAndFields (challenge : BitVec 64) : CardCommand → FrameKind × List Byte
  | .select => (.select, [])
  | .identify card => (.identify, leBytes 8 card.toNat)
  | .auth => (.auth, leBytes 8 challenge.toNat)
  | .read index => (.read, leBytes 1 index)
  | .writePurse image => (.writePurse, image)
  | .probe => (.probe, [])

/-- The bytes of a command frame on the link (01 section 1.2). -/
def CardCommand.wire (challenge : BitVec 64) (c : CardCommand) : List Byte :=
  let kf := c.kindAndFields challenge
  let body := Config.frameCode kf.1 :: kf.2
  body ++ leBytes 2 (frameCheck body).toNat

/-- The downlink's bits: a start pattern of 16 bit periods goes before them, and each byte goes low bit first (R24). -/
def downlinkBits (bs : List Byte) : List Bool := bs.flatMap fun b => (List.range 8).map b.getLsbD

/-- A frame's time on the link in units of 0.1 µs: 16 bits of start pattern and its bytes, 62.5 µs for 8 bits at
128 kbit/s and twice that at half rate (R30). -/
def frameTime (half : Bool) (bytes : Nat) : Nat := (2 + bytes) * 625 * (if half then 2 else 1)

/-! ## Answers (R1, R2) -/

/-- The answer that matches a command (01 section 1.2). -/
def CardCommand.answerKind : CardCommand → FrameKind
  | .select => .selectAnswer
  | .identify _ => .identifyAnswer
  | .auth => .authAnswer
  | .read _ => .readAnswer
  | .writePurse _ => .purseAck
  | .probe => .probeAnswer

/-- The number of field bytes of the matching answer; a READ ANSWER's block is as long as the card's block size. -/
def CardCommand.answerFields (blockSize : Nat) : CardCommand → Nat
  | .select => 10
  | .identify _ => 8
  | .auth => 8
  | .read _ => 1 + blockSize
  | .writePurse _ => 2
  | .probe => 0

/-- The fields of a frame: its bytes without the kind byte and the frame check. -/
def frameFields (f : AnswerFrame) : List Byte := (f.bytes.drop 1).take (f.bytes.length - 3)

/-- The three tests of R1. -/
def goodForm (c : CardCommand) (blockSize : Nat) (f : AnswerFrame) : Bool :=
  f.bytes.length = 3 + c.answerFields blockSize &&
    f.kind = some c.answerKind &&
    leNat (f.bytes.drop (f.bytes.length - 2)) = (frameCheck (f.bytes.take (f.bytes.length - 2))).toNat

/-- The test of a good answer against its command (R2). -/
def matchesCommand (c : CardCommand) (f : AnswerFrame) : Bool :=
  match c with
  | .identify card => fieldAt (frameFields f) 0 8 = card.toNat
  | .read index => fieldAt (frameFields f) 0 1 = index
  | _ => true

def goodAnswer (c : CardCommand) (blockSize : Nat) (f : AnswerFrame) : Bool :=
  goodForm c blockSize f && matchesCommand c f

/-- The identity answer (01 section 1.3). -/
def identityOf (f : AnswerFrame) : Identity :=
  ⟨BitVec.ofNat 64 (fieldAt (frameFields f) 0 8), fieldAt (frameFields f) 8 1, fieldAt (frameFields f) 9 1⟩

/-! ## The card's records (01 sections 1.5 and 1.6) -/

/-- The read product image and the read purse image of a record area (R4). -/
def productImage (area : List Byte) : List Byte := area.take 32

def purseImage (area : List Byte) : List Byte := area.drop 32

def productKind (p : List Byte) : Nat := fieldAt p 0 1

/-- The concession class used: 0 for a STANDARD card whatever it carries (R5). -/
def productClass (p : List Byte) : Nat := if productKind p = 1 then 0 else fieldAt p 1 1

def productExpiry (p : List Byte) : Nat := fieldAt p 2 2

def productCheck (p : List Byte) : CheckValue := BitVec.ofNat 64 (fieldAt p 24 8)

def isStaff (p : List Byte) : Bool := productKind p = 3

def purseBalance (p : List Byte) : Int := signedOf 4 (fieldAt p 0 4)

def purseCounter (p : List Byte) : Nat := fieldAt p 4 2

def purseTripState (p : List Byte) : Nat := fieldAt p 6 1

def purseOpen (p : List Byte) : Bool := purseTripState p = 1

def purseEntryZone (p : List Byte) : Nat := fieldAt p 7 1

def purseEntryStation (p : List Byte) : Nat := fieldAt p 8 2

def purseEntryDay (p : List Byte) : Nat := fieldAt p 10 2

def purseEntryMinute (p : List Byte) : Nat := fieldAt p 12 2

def purseLastExitStation (p : List Byte) : Nat := fieldAt p 14 2

def purseLastExitDay (p : List Byte) : Nat := fieldAt p 16 2

def purseLastExitMinute (p : List Byte) : Nat := fieldAt p 18 2

def purseDailyDay (p : List Byte) : Nat := fieldAt p 20 2

def purseDailySum (p : List Byte) : Nat := fieldAt p 22 2

def purseCheck (p : List Byte) : CheckValue := BitVec.ofNat 64 (fieldAt p 24 8)

/-- R5. -/
def productPasses (p : List Byte) : Bool :=
  (productKind p = 1 || productKind p = 2 || productKind p = 3) && fieldAt p 1 1 ≤ 7

/-- R6. -/
def pursePasses (p : List Byte) : Bool :=
  -65535 ≤ purseBalance p && purseBalance p ≤ 1000000 &&
    (purseTripState p = 0 || purseTripState p = 1) &&
    purseLastExitMinute p ≤ 1439 &&
    (!purseOpen p || (1 ≤ purseEntryZone p && purseEntryZone p ≤ 16 && purseEntryMinute p ≤ 1439))

/-! ## The check function's inputs (01 section 1.7, R7) -/

def productCheckOf (key : Key) (p : List Byte) : CheckValue := Config.checkFunction key (0x01#8 :: p.take 24)

def purseCheckOf (key : Key) (p : List Byte) : CheckValue := Config.checkFunction key (0x02#8 :: p.take 24)

def authAnswerOf (key : Key) (challenge : BitVec 64) (card : CardNumber) : CheckValue :=
  Config.checkFunction key (0x03#8 :: leBytes 8 challenge.toNat ++ leBytes 8 card.toNat)

/-- SEAL: the purse check value over bytes 0 to 23 goes into bytes 24 to 31 (R7). -/
def sealImage (key : Key) (image : List Byte) : List Byte :=
  patch image 24 (leBytes 8 (purseCheckOf key image).toNat)

/-! ## The journal record's 32 bytes (09 section 9.6) -/

/-- A record's 32 bytes by the layout. R5 says that the journal shows class 0 for a STANDARD card, but the layout has no
field for a class, so no class is shown of any card (assumption 47). -/
def Record.bytes (sequence : Word) (r : Record) : List Byte :=
  leBytes 2 sequence.toNat ++
  leBytes 1 (r.kind.code + 16 * r.lane.toNat + 64 * r.direction.code) ++
  leBytes 1 r.result.code ++
  leBytes 8 r.card.toNat ++
  leBytes 2 r.time.day ++ leBytes 2 r.time.minute ++ leBytes 2 r.time.ms ++
  leBytes 2 r.counterBefore ++ leBytes 2 r.counterAfter ++
  leBytes 2 r.charge ++
  signedBytes 3 r.balanceAfter ++
  [r.flags] ++
  leBytes 2 r.dailySum ++
  leBytes 1 r.entryZone ++ leBytes 1 r.exitZone

/-- A record with the fields that every kind fills; the filling rule sets the others, and a field it does not name is 0
(R178). -/
def Record.blank (kind : RecordKind) (lane : LaneId) (direction : Direction) (result : ResultCode)
    (card : CardNumber) (time : StationTime) : Record :=
  ⟨kind, lane, direction, result, card, time, 0, 0, 0, 0, 0#8, 0, 0, 0⟩

/-! ## The fare table (R82) -/

def fareWord (m : List Host.Cell) (t : Area) (off : Nat) : Nat := Memory.readNat m (t.base + off) 2

def fareZones (m : List Host.Cell) (t : Area) : Nat := fareWord m t 0

def bandCountOffset : DayType → Nat
  | .workday => 2
  | .restday => 36

def bandOffset (d : DayType) (i : Nat) : Nat := bandCountOffset d + 2 + 4 * i

def bandCount (m : List Host.Cell) (t : Area) (d : DayType) : Nat := fareWord m t (bandCountOffset d)

def bandStart (m : List Host.Cell) (t : Area) (d : DayType) (i : Nat) : Nat := fareWord m t (bandOffset d i)

def bandMultiplier (m : List Host.Cell) (t : Area) (d : DayType) (i : Nat) : Nat := fareWord m t (bandOffset d i + 2)

def concessionMultiplier (m : List Host.Cell) (t : Area) (k : Nat) : Nat := fareWord m t (70 + 2 * k)

def dailyCap (m : List Host.Cell) (t : Area) (k : Nat) : Nat := fareWord m t (86 + 2 * k)

def roundingStep (m : List Host.Cell) (t : Area) : Nat := fareWord m t 102

def transferWindow (m : List Host.Cell) (t : Area) : Nat := fareWord m t 104

def transferAllowance (m : List Host.Cell) (t : Area) : Nat := fareWord m t 106

def maximumTrip (m : List Host.Cell) (t : Area) : Nat := fareWord m t 108

def overstaySurcharge (m : List Host.Cell) (t : Area) : Nat := fareWord m t 110

def unclosedPenalty (m : List Host.Cell) (t : Area) : Nat := fareWord m t 112

def noEntryPenalty (m : List Host.Cell) (t : Area) : Nat := fareWord m t 114

def entryFloor (m : List Host.Cell) (t : Area) : Nat := fareWord m t 116

def overdraftLimit (m : List Host.Cell) (t : Area) : Nat := fareWord m t 118

def stationCode (m : List Host.Cell) (t : Area) : Nat := fareWord m t 120

def stationZone (m : List Host.Cell) (t : Area) : Nat := fareWord m t 122

/-- The base fare from an entry zone (row) to an exit zone (column), both counted from 1 (R82). -/
def baseFare (m : List Host.Cell) (t : Area) (entryZone exitZone : Nat) : Nat :=
  fareWord m t (128 + 2 * ((entryZone - 1) * fareZones m t + (exitZone - 1)))

/-! ## Denylist entries (R113) -/

structure DenyEntry where
  card : CardNumber
  kind : Nat
  floor : Nat
  deriving DecidableEq, Repr

def denyEntry (m : List Host.Cell) (offset i : Nat) : DenyEntry :=
  let a := offset + 12 * i
  ⟨BitVec.ofNat 64 (Memory.readNat m a 8), Memory.readNat m (a + 8) 2, Memory.readNat m (a + 10) 2⟩

/-! ## Orders (10 section 10.6) -/

/-- The argument at an offset of the argument field. -/
def OrderInService.arg (o : OrderInService) (off n : Nat) : Nat := fieldAt o.args off n

/-- Sixteen bytes of result data: what the result carries, then zeros (10 section 10.6.3). -/
def resultBytes (bs : List Byte) : List Byte := (bs ++ List.replicate 16 0#8).take 16

def noData : ResultData := .bytes []

/-- The order kinds by their codes (10 section 10.6.2). -/
def kindKnown (k : Byte) : Bool := 1 ≤ k.toNat && k.toNat ≤ 13

/-- The bytes that stand in a slot's state word as a state, if they do. -/
def SlotState.ofCode? : Nat → Option SlotState
  | 0 => some .empty
  | 1 => some .posted
  | 2 => some .taken
  | 3 => some .done
  | 4 => some .refused
  | _ => none

end Sys2Proof.Machine
end

