-- ==== Sys2Proof/Machine/Sightings.lean ====
section
/-! DEFINITION. The sighting table: finding, touching, creating, evicting, marking (06 sections 6.1 to 6.3 and 6.7). -/

namespace Sys2Proof.Machine

open Sys2Proof

def findSighting (t : List Sighting) (card : CardNumber) : Option Sighting := t.find? fun e => e.card = card

/-- Change the entry of a card where it stands; the order is left as it is (R106). -/
def changeSighting (t : List Sighting) (card : CardNumber) (f : Sighting → Sighting) : List Sighting :=
  t.map fun e => if e.card = card then { f e with card := e.card } else e

def removeSighting (t : List Sighting) (card : CardNumber) : List Sighting := t.filter fun e => e.card ≠ card

/-- A touch sets the last touched time and moves the entry to the most recently touched end (R106). -/
def touchSighting (t : List Sighting) (card : CardNumber) (now : StationTime) : List Sighting :=
  match findSighting t card with
  | none => t
  | some e => removeSighting t card ++ [{ e with touched := now }]

/-- Protected from eviction: a claim, an uncertainty part, or a mark of PENDING or UNUSED (R108). -/
def Sighting.isProtected (e : Sighting) : Bool :=
  e.claim.isSome || e.uncertainty.isSome ||
    match e.mark with
    | .pending _ _ => true
    | .unused _ _ => true
    | .none => false
    | .used _ _ => false

def Sighting.markNone (e : Sighting) : Bool := e.mark = .none

/-- The entry evicted from a full table, in the order of R108; the table stands least recently touched first. -/
def evictionChoice (t : List Sighting) : Option CardNumber :=
  let free := t.filter fun e => !e.isProtected
  match free.find? (fun e => e.suspect = 0 && e.markNone) with
  | some e => some e.card
  | none =>
    match free.find? (fun e => e.suspect = 0) with
    | some e => some e.card
    | none => (free.find? fun _ => true).map (·.card)

/-- A new entry, last touched at the station time of the claim's request (R108). -/
def newSighting (card : CardNumber) (lane : LaneId) (requested : StationTime) : Sighting :=
  ⟨card, some lane, none, none, .none, 0, requested⟩

/-- The table with a new entry for the card, after an eviction if it is full; none when every entry is protected
(R108). -/
def createSighting (t : List Sighting) (card : CardNumber) (lane : LaneId) (requested : StationTime) :
    Option (List Sighting) :=
  if t.length < Config.sightingLimit then some (t ++ [newSighting card lane requested])
  else
    match evictionChoice t with
    | none => none
    | some old => some (removeSighting t old ++ [newSighting card lane requested])

def State.setTable (s : State) (t : List Sighting) : State := { s with screening := { s.screening with table := t } }

def State.changeEntry (s : State) (card : CardNumber) (f : Sighting → Sighting) : State :=
  s.setTable (changeSighting s.screening.table card f)

/-- The release of a claim sets it absent and changes nothing else (R110). -/
def State.releaseClaim (s : State) (card : CardNumber) : State := s.changeEntry card fun e => { e with claim := none }

/-- A confirmed write sets the last image and touches the entry (R111). -/
def State.confirmImage (s : State) (card : CardNumber) (image : LastImage) : State :=
  (s.changeEntry card fun e => { e with lastImage := some image }).setTable
    (touchSighting (changeSighting s.screening.table card fun e => { e with lastImage := some image }) card s.now)

/-- A credit's handover sets the mark PENDING, whatever it was (R111). -/
def State.markPending (s : State) (card : CardNumber) (lane : LaneId) (sequence : Word) : State :=
  s.changeEntry card fun e => { e with mark := .pending lane sequence }

/-- An uncertainty part is attached (R112). -/
def State.attachPart (s : State) (card : CardNumber) (u : Uncertainty) : State :=
  s.changeEntry card fun e => { e with uncertainty := some u }

/-- What a credit's end makes of its mark (R128). With a passback interval or a grace of 0 s the mark expires as it is
made (R129). -/
def markAfterEnd (p : Parameters) (kind : RecordKind) (direction : Direction) (time : Int) : CreditMark :=
  match kind with
  | .passed => if p.passbackInterval = 0 then .none else .used direction time
  | .lapsed => if p.regrantGrace = 0 then .none else .unused direction (time + 1000 * p.regrantGrace)
  | _ => .none

/-- The report of a credit's end changes the mark when it is PENDING with that grant sequence (R128). -/
def State.reportCreditEnd (s : State) (c : Credit) (kind : RecordKind) : State :=
  s.changeEntry c.card fun e =>
    match e.mark with
    | .pending _ sequence =>
      if sequence = c.sequence then { e with mark := markAfterEnd s.params kind c.direction s.instant } else e
    | _ => e

/-- A credit ends: its record is asked for, into the credit's reservation, and its end is reported (R141). -/
def State.endCredit (s : State) (l : LaneId) (kind : RecordKind) (c : Credit) : State :=
  (s.enqueue ⟨Record.blank kind l c.direction .none c.card s.now, .credit, .nobody⟩).reportCreditEnd c kind

def State.endCredits (s : State) (l : LaneId) (kind : RecordKind) : List Credit → State
  | [] => s
  | c :: rest => (s.endCredit l kind c).endCredits l kind rest

/-- The RESOLVED record of an uncertainty part (R123). -/
def resolvedRecord (card : CardNumber) (u : Uncertainty) (lane : LaneId) (result : ResultCode) (time : StationTime)
    (degraded : Bool) : Record :=
  { Record.blank .resolved lane u.direction result card time with
    counterBefore := u.oldCounter
    counterAfter := u.newCounter
    charge := u.charge
    flags := recordFlags StageFlags.clear degraded false }

/-! ## Expiries (R129, R130) -/

def State.markExpired (s : State) (m : CreditMark) : Bool :=
  match m with
  | .used _ time => time + 1000 * s.params.passbackInterval ≤ s.instant
  | .unused _ until_ => until_ ≤ s.instant
  | _ => false

/-- A USED mark that has expired becomes NONE; any other is kept. -/
def State.expireUsed (s : State) (e : Sighting) : Sighting :=
  match e.mark with
  | .used _ _ => if s.markExpired e.mark then { e with mark := .none } else e
  | _ => e

/-- A part's life has passed. -/
def State.partExpired (s : State) (u : Uncertainty) : Bool :=
  u.created + 1000 * s.params.uncertaintyLife ≤ s.instant

/-- The record of a part that ends UNRESOLVED is asked for (R123). -/
def State.askUnresolved (s : State) (card : CardNumber) (u : Uncertainty) (w : Waiter) : State :=
  s.enqueue ⟨resolvedRecord card u u.lane .unresolved s.now false, .part, w⟩

/-- A part that has expired ends UNRESOLVED: its record is asked for, and the part is removed (R123, R130). -/
def State.expirePart (s : State) (e : Sighting) : State :=
  match e.uncertainty with
  | none => s
  | some u =>
    if s.partExpired u then
      (s.askUnresolved e.card u .nobody).changeEntry e.card fun e => { e with uncertainty := none }
    else s

def State.expireParts (s : State) : List Sighting → State
  | [] => s
  | e :: rest => (s.expirePart e).expireParts rest

/-- The expiries that lowered parameters bring about at once, the entries taken in the order of the table
(R129, R130, assumption 41). -/
def State.expireAtOnce (s : State) : State :=
  let s := s.setTable (s.screening.table.map s.expireUsed)
  s.expireParts s.screening.table

/-- A raise of the suspect count, by one at most and never above 3 (R107, R124). -/
def Sighting.raiseSuspect (e : Sighting) : Sighting := { e with suspect := if e.suspect < 3 then e.suspect + 1 else e.suspect }

/-- The count rose to 3 (R127). -/
def Sighting.alarmed (before after : Sighting) : Bool := before.suspect < 3 && after.suspect = 3

/-- The last counter of an entry, or 0 (R127, R131). -/
def Sighting.lastCounter (e : Sighting) : Nat :=
  match e.lastImage with
  | none => 0
  | some i => i.counter

end Sys2Proof.Machine
end

