-- ==== Sys2Proof/Machine/Leaves.lean ====
section
/-! DEFINITION. A lane's leaves, tones, displays, credits and passages as operations on the lane (07). -/

namespace Sys2Proof.Machine

open Sys2Proof

/-! ## Strokes (R151, R154) -/

/-- A stroke command: BOOST for the boost time (none when it is 0), a limit of 1,000 ms, and the brake time in force;
it stops any stroke or BRAKE in progress (R151, R154). -/
def Lane.command (p : Parameters) (tb : Nat) (toward : Limit) (x : Lane) : Lane :=
  { x with drive := .stroke toward (if p.boost = 0 then none else some (tb + msec p.boost)) (tb + msec 1000) p.brake }

/-- The stroke in progress, if any: BOOST or RUN (R151). -/
def Lane.stroking (x : Lane) : Option Limit :=
  match x.drive with
  | .stroke toward _ _ _ => some toward
  | _ => none

/-- The leaves are at the open limit: held or braking there, or its switch is active with no stroke or BRAKE in progress
(R136, assumption 19). -/
def Lane.leavesOpen (x : Lane) : Bool :=
  match x.drive with
  | .hold .atOpen => true
  | .brake .atOpen _ => true
  | .stroke _ _ _ _ => false
  | .brake .atClosed _ => false
  | .hold .atClosed => x.openLimit
  | .released => x.openLimit

/-- An opening stroke starts and the state becomes OPENING (R139, R150, R153, R156). -/
def Lane.startOpening (p : Parameters) (tb : Nat) (x : Lane) : Lane :=
  { x.command p tb .atOpen with pc := .opening }

def Lane.startClosing (p : Parameters) (tb : Nat) (x : Lane) : Lane :=
  { x.command p tb .atClosed with pc := .closing }

def Lane.inServiceMode (x : Lane) : Bool := x.mode = .entry || x.mode = .exit

/-- The closing test (R150). -/
def Lane.closingTest (p : Parameters) (tb : Nat) (x : Lane) : Lane :=
  if x.pc = .opened ∧ x.credits = [] ∧ x.passage = none ∧ x.beams.middle = .clear then x.startClosing p tb else x

/-- Settling the leaves (R156). -/
def Lane.settle (p : Parameters) (tb : Nat) (x : Lane) : Lane :=
  if x.closedLimit = true ∧ x.stroking = none then
    { x with pc := if x.inServiceMode then .closed else .out, drive := .hold .atClosed }
  else if x.beams.middle = .clear then x.startClosing p tb
  else x.startOpening p tb

/-- What the drive does at the open limit with no stroke commanded: a BRAKE runs its brake time, since no stroke
command stops it (R151); any other drive goes to HOLD there (R134, assumption 19). -/
def Drive.restOpen : Drive → Drive
  | .brake limit due => .brake limit due
  | .hold _ => .hold .atOpen
  | .stroke _ _ _ _ => .hold .atOpen
  | .released => .hold .atOpen

/-- FREE with the leaves at the open limit: no stroke starts (R136, R159). -/
def Lane.restFree (x : Lane) : Lane := { x with pc := .free, drive := x.drive.restOpen }

/-- FREE with an opening stroke (R136, R159). -/
def Lane.openFree (p : Parameters) (tb : Nat) (x : Lane) : Lane := { x.command p tb .atOpen with pc := .free }

/-- FREE: an opening stroke starts unless the leaves are at the open limit or an opening stroke is already in progress
(R136). -/
def Lane.enterFree (p : Parameters) (tb : Nat) (x : Lane) : Lane :=
  if x.leavesOpen then x.restFree
  else if x.stroking = some .atOpen then { x with pc := .free }
  else x.openFree p tb

/-- A lane that leaves FREE is OPEN at the open limit, or OPENING while FREE's opening stroke is in progress (R136). -/
def Lane.leaveFree (x : Lane) : Lane := { x with pc := if x.stroking = some .atOpen then .opening else .opened }

/-! ## Tones and displays (R161, R162) -/

/-- A tone's whole length in milliseconds, with its gaps (`Tone.spans` in Signals.lean). -/
def Tone.length : Tone → Nat
  | .accept => 150
  | .refuse => 400
  | .alarm => 1000

/-- A tone asked for replaces one that sounds, at the pitch in force (R162). -/
def Lane.sound (p : Parameters) (tb : Nat) (t : Tone) (x : Lane) : Lane :=
  { x with tone := some ⟨t, p.tonePitch, tb + msec t.length⟩ }

/-- A timed display replaces one that runs (R161). -/
def Lane.display (tb : Nat) (symbol : Symbol) (ms : Nat) (x : Lane) : Lane :=
  { x with timedDisplay := some ⟨symbol, tb + msec ms⟩ }

/-! ## Beam groups (R138) -/

def PerGroup.get {α : Type} (b : PerGroup α) : BeamGroup → α
  | .entrySide => b.entrySide
  | .middle => b.middle
  | .exitSide => b.exitSide

def PerGroup.set {α : Type} (b : PerGroup α) (g : BeamGroup) (v : α) : PerGroup α :=
  match g with
  | .entrySide => { b with entrySide := v }
  | .middle => { b with middle := v }
  | .exitSide => { b with exitSide := v }

def Beams.allClear (b : Beams) : Bool := b.entrySide = .clear && b.middle = .clear && b.exitSide = .clear

/-- The approach side (R138): none in OUT and FREE. -/
def LaneMode.approach : LaneMode → Option BeamGroup
  | .entry => some .entrySide
  | .exit => some .exitSide
  | .out => none
  | .free => none

/-- The far side: the other end group (R138). -/
def LaneMode.farSide : LaneMode → Option BeamGroup
  | .entry => some .exitSide
  | .exit => some .entrySide
  | .out => none
  | .free => none

def Lane.approachBlocked (x : Lane) : Bool :=
  match x.mode.approach with
  | none => false
  | some g => x.beams.get g = .blocked

/-! ## Credits and passages (R139 to R146) -/

/-- A WAITING credit becomes IN USE: its expiry is cancelled and its remaining life kept (R142). -/
def Credit.use (now : Int) (far : Bool) (c : Credit) : Credit :=
  match c.state with
  | .waiting expiry => { c with state := .inUse (expiry - now) far }
  | .inUse _ _ => c

/-- The oldest WAITING credit becomes IN USE (R142, R144). -/
def useOldestWaiting (now : Int) (far : Bool) : List Credit → List Credit
  | [] => []
  | c :: rest => if c.isWaiting then c.use now far :: rest else c :: useOldestWaiting now far rest

/-- The credit is IN USE and has not reached the far side (R144). -/
def Credit.onTheWay (c : Credit) : Bool :=
  match c.state with
  | .waiting _ => false
  | .inUse _ far => !far

def Credit.reachedFar (c : Credit) : Bool :=
  match c.state with
  | .waiting _ => false
  | .inUse _ far => far

/-- The oldest credit on its way is marked as having reached the far side (R144). -/
def markOldestFar : List Credit → List Credit
  | [] => []
  | c :: rest =>
    match c.state with
    | .inUse remaining false => { c with state := .inUse remaining true } :: rest
    | _ => c :: markOldestFar rest

/-- A withdrawal: back to WAITING, with a new expiry of now plus the larger of the kept life and 2 s (R145). -/
def Credit.withdraw (now : Int) (c : Credit) : Credit :=
  match c.state with
  | .inUse remaining _ => { c with state := .waiting (now + max remaining 2000) }
  | .waiting _ => c

/-- A passage starts, with its STUCK timer, or goes on (R142, R146). -/
def Lane.startPassage (p : Parameters) (now : Int) (x : Lane) : Lane :=
  { x with passage := match x.passage with | none => some ⟨some (now + 1000 * p.maxPassage)⟩ | some q => some q }

/-- A credit arrives (R139) and meets a passenger already in the approach beam (R143). -/
def Lane.arrive (p : Parameters) (tb : Nat) (now : Int) (sequence : Word) (card : CardNumber) (direction : Direction)
    (x : Lane) : Lane :=
  let credit : Credit := ⟨sequence, card, direction, .waiting (now + 1000 * p.creditLife)⟩
  let atOnce := x.approachBlocked && x.passage.isNone
  let x := { x with credits := x.credits ++ [if atOnce then credit.use now false else credit] }
  let x := if x.pc = .closed ∨ x.pc = .closing then x.startOpening p tb else x
  if atOnce then x.startPassage p now else x

/-! ## Alarms (R149) -/

inductive Alarm where
  | tailgate
  | intrusion
  | stuck
  | obstruction
  deriving DecidableEq, Repr

/-- A count rises by one, unless it is at 65535 (R149). -/
def countUp (n : Nat) : Nat := if n < 65535 then n + 1 else n

/-- An alarm's count rises, and the lane status block is updated with it, at 65535 too (R149). -/
def Lane.countAlarm (a : Alarm) (x : Lane) : Lane :=
  match a with
  | .tailgate => { x with tailgate := countUp x.tailgate, rewritten := 8 :: x.rewritten }
  | .intrusion => { x with intrusion := countUp x.intrusion, rewritten := 10 :: x.rewritten }
  | .stuck => { x with stuck := countUp x.stuck, rewritten := 12 :: x.rewritten }
  | .obstruction => { x with obstruction := countUp x.obstruction, rewritten := 14 :: x.rewritten }

/-- A lane's parameters and time base at hand. -/
def State.onLane (s : State) (l : LaneId) (f : Parameters → Nat → Lane → Lane) : State :=
  s.updLane l (f s.params s.timeBase)

/-- An alarm: its count, LANE attention and the ALARM tone (R149). -/
def State.alarm (s : State) (l : LaneId) (a : Alarm) : State :=
  State.raise (s.onLane l fun p tb x => (x.countAlarm a).sound p tb .alarm) .lane

/-- Every credit of the lane ends DROPPED, the oldest first (R137, R141). -/
def State.dropCredits (s : State) (l : LaneId) : State :=
  (s.updLane l fun x => { x with credits := [] }).endCredits l .dropped (s.lane l).credits

/-! ## The field's return to SNIFF (R13, R19) -/

/-- The field enters SNIFF: the learning flag is set (R19). -/
def Lane.enterSniff (x : Lane) : Lane := { x with field := .sniff, learning := true, carrier := none }

/-- A lane in service whose field is OFF goes to SNIFF (R13). -/
def Lane.serviceField (x : Lane) : Lane :=
  if x.field = .off ∧ x.inServiceMode = true ∧
      (x.pc = .closed ∨ x.pc = .opening ∨ x.pc = .opened ∨ x.pc = .closing) then x.enterSniff
  else x

end Sys2Proof.Machine
end

