-- ==== Sys2Proof/Machine/Release.lean ====
section
/-! DEFINITION. The end of a dialogue: its records, RELEASE, GRANT (03 sections 3.6 to 3.8), and the steps of writing a
journal record, which they wait for (09 section 9.2). -/

namespace Sys2Proof.Machine

open Sys2Proof

def State.updDialogue (s : State) (l : LaneId) (f : Dialogue → Dialogue) : State :=
  s.updLane l fun x => { x with dialogue := x.dialogue.map f }

/-- The card number of a dialogue's identity. -/
def Dialogue.card (d : Dialogue) : CardNumber :=
  match d.identity with
  | none => 0#64
  | some i => i.card

/-! ## The dialogue's records (R60) -/

/-- The purse image read in READ. -/
def Dialogue.purse (d : Dialogue) : List Byte := purseImage d.recordArea

/-- The transaction time once PRICE has started, and before that the time the outcome was decided. -/
def Dialogue.recordTime (d : Dialogue) (now : StationTime) : StationTime :=
  match d.transaction with
  | some t => t.time
  | none => d.decidedAt.getD now

/-- FARE ENTRY, FARE EXIT and UNCERTAIN, from the pricing and the sealed image. -/
def Dialogue.fareRecord (d : Dialogue) (l : LaneId) (kind : RecordKind) (result : ResultCode) (now : StationTime) :
    Record :=
  let image := d.image.getD []
  let r := Record.blank kind l d.direction result d.card (d.recordTime now)
  match d.pricing with
  | none => r
  | some p =>
    { r with
      counterBefore := purseCounter d.purse
      counterAfter := d.expected.getD 0
      charge := p.charge
      balanceAfter := p.newBalance
      flags := recordFlags p.flags d.degradedNote false
      dailySum := purseDailySum image
      entryZone := p.entryZone
      exitZone := p.exitZone }

def Direction.fareKind : Direction → RecordKind
  | .entry => .fareEntry
  | .exit => .fareExit

/-- REGRANT, at the time of R55. -/
def Dialogue.regrantRecord (d : Dialogue) (l : LaneId) (now : StationTime) : Record :=
  { Record.blank .regrant l d.direction .regrant d.card now with
    counterBefore := purseCounter d.purse
    counterAfter := purseCounter d.purse
    balanceAfter := purseBalance d.purse
    flags := recordFlags StageFlags.clear d.degradedNote true }

/-- REFUSED, with the verified counter and balance if VERIFY has passed, and the charge and stage flags at LOW
BALANCE. -/
def Dialogue.refusedRecord (d : Dialogue) (l : LaneId) (code : ResultCode) (now : StationTime) : Record :=
  let r := Record.blank .refused l d.direction code d.card (d.recordTime now)
  let low := if code = .lowBalance then d.pricing else none
  { r with
    counterBefore := if d.verified then purseCounter d.purse else 0
    balanceAfter := if d.verified then purseBalance d.purse else 0
    charge := match low with | none => 0 | some p => p.charge
    flags := recordFlags (match low with | none => StageFlags.clear | some p => p.flags) d.degradedNote false }

/-- The uncertainty part of R54. -/
def Dialogue.part (d : Dialogue) (l : LaneId) (now : StationTime) : Uncertainty where
  oldCounter := purseCounter d.purse
  oldCheck := purseCheck d.purse
  newCounter := d.expected.getD 0
  newCheck := purseCheck (d.image.getD [])
  charge := match d.pricing with | none => 0 | some p => p.charge
  lane := l
  direction := d.direction
  created := (d.decidedAt.getD now).instant

/-! ## RELEASE, steps 2 to 6 (R56) -/

/-- The places a dialogue keeps (R58). -/
def ResultCode.keptPlaces : ResultCode → Nat
  | .accept => 1
  | .regrant => 1
  | .uncertain => 1
  | _ => 0

/-- The display of the outcome (R62). -/
def Lane.showOutcome (p : Parameters) (tb : Nat) (outcome : ResultCode) (byAbort : Bool) (x : Lane) : Lane :=
  if byAbort then x
  else
    match outcome with
    | .accept => x.sound p tb .accept
    | .regrant => x.sound p tb .accept
    | .uncertain => (x.sound p tb .refuse).display tb .wait 2000
    | _ => (x.sound p tb .refuse).display tb .cross 1500

/-- The removal watch starts when the field is still ON (R32). -/
def Lane.startWatch (now : Int) (x : Lane) : Lane :=
  if x.field = .on then { x with watch := some ⟨0, some (now + 20), false⟩, link := .idle } else x

/-- RELEASE after its records: the claim, the room, the last result, the display, the context (R56 to R62). -/
def State.finishRelease (s : State) (l : LaneId) : State :=
  match (s.lane l).dialogue with
  | none => s
  | some d =>
    let outcome := d.outcome.getD .none
    let s := if d.claimHeld then s.releaseClaim d.card else s
    let s := s.setReserved (s.journal.reserved - d.reserved + outcome.keptPlaces)
    s.onLane l fun p tb x =>
      Lane.startWatch s.instant
        (Lane.showOutcome p tb outcome d.byAbort
          { x with lastResult := outcome, rewritten := 6 :: x.rewritten, inProgress := false, dialogue := none })

/-! ## GRANT (R53, R55, R139) -/

/-- The credit is handed over with the sequence of its record, the mark becomes PENDING, and RELEASE follows. -/
def State.grant (s : State) (l : LaneId) (sequence : Word) : State :=
  match (s.lane l).dialogue with
  | none => s
  | some d =>
    let now := s.instant
    let outcome := if d.screen = some .regrant then ResultCode.regrant else ResultCode.accept
    let s := s.onLane l fun p tb x => x.arrive p tb now sequence d.card d.direction
    let s := s.markPending d.card l sequence
    (s.updDialogue l fun d => { d with phase := .release, outcome := some outcome, outstanding := none }).finishRelease l

/-! ## Writing a record (R177) -/

/-- The notify timer starts with its full delay; a delay of 0 runs out as it starts (R185). -/
def State.startNotify (s : State) (delay : Nat) : State :=
  if delay = 0 then State.raise { s with journal := { s.journal with notifyDue := none } } .journal
  else { s with journal := { s.journal with notifyDue := some (s.timeBase + msec delay) } }

/-- The request's reservation falls by one (R177, step 4). -/
def State.useReservation (s : State) (h : Holder) : State :=
  let s := s.setReserved (s.journal.reserved - 1)
  match h with
  | .dialogue l => s.updDialogue l fun d => { d with reserved := d.reserved - 1 }
  | .credit => s
  | .part => s

/-- The tests of R184 and R185 after a record, `first` telling that the ring had no unconsumed record. -/
def State.notifyTests (s : State) (r : Ring) (first : Bool) : State :=
  let s := if first then s.startNotify r.delay else s
  if r.level ≤ s.journal.unconsumed then s.raise .journal else s

/-- Steps 1 to 3: the record's bytes at the write position, the position and the written tally (R177). -/
def State.placeRecord (s : State) (r : Ring) (record : Record) : State :=
  let j := s.journal
  let s := s.writeMem (r.base + 32 * j.position) (record.bytes j.written)
  let written := j.written + 1#16
  let s := s.writeMem 0x10 (leBytes 2 written.toNat)
  { s with journal := { j with position := if j.position + 1 < r.size then j.position + 1 else 0, written := written } }

/-! ## Ending a dialogue (R38, R56) -/

/-- RELEASE begins: step 1, the uncertainty part and the result record; without a record RELEASE goes on at once
(R54, R56, R59). -/
def State.beginRelease (s : State) (l : LaneId) : State :=
  match (s.lane l).dialogue with
  | none => s
  | some d =>
    let code := d.outcome.getD .none
    let now := s.now
    let s := s.updDialogue l fun d => { d with phase := .release, outstanding := none }
    if code = .uncertain then
      let s := s.attachPart d.card (d.part l now)
      (s.updDialogue l fun d => { d with outstanding := some .journal }).enqueue
        ⟨d.fareRecord l .uncertain .uncertain now, .dialogue l, .release l⟩
    else if d.known then
      (s.updDialogue l fun d => { d with outstanding := some .journal }).enqueue
        ⟨d.refusedRecord l code now, .dialogue l, .release l⟩
    else s.finishRelease l

/-- The request waits for its answer at the Screening Unit (R38). -/
def Outstanding.atScreening : Outstanding → Bool
  | .claim _ _ => true
  | .lookupWaiting => true
  | .lookup _ _ => true
  | .screened _ _ => true
  | .engine => false
  | .price => false
  | .journal => false

/-- A dialogue's outcome is decided: its waiting AE request is withdrawn, its link work stops, and RELEASE begins, or
waits for the Screening Unit's answer (R38, R56, R78). A noise measurement under way then is dropped and does not count:
neither run moves (R38 and R40 do not say; assumption 48). -/
def State.endDialogue (s : State) (l : LaneId) (code : ResultCode) (byAbort : Bool) : State :=
  match (s.lane l).dialogue with
  | none => s
  | some d =>
    let now := s.now
    let s := { s with engine := { s.engine with requests := s.engine.requests.filter fun r => r.lane ≠ l } }
    let s := s.updLane l fun x =>
      { x with
        link := .idle
        dialogue := some { d with outcome := some code, decidedAt := some now, byAbort := byAbort, command := none } }
    if d.outstanding.any Outstanding.atScreening then s else s.beginRelease l

/-! ## The field going OFF (R14, R18) and leaving service (R137) -/

/-- The steps of R53 or R55 are being carried out: no abort is taken before they are complete. -/
def Dialogue.granting (d : Dialogue) : Bool := d.phase = .confirm || d.phase = .grant

def State.granting (s : State) (l : LaneId) : Bool := (s.lane l).dialogue.any Dialogue.granting

/-- The row is taken once the grants in progress are complete (R53, R55, assumption 10). -/
def State.defer (s : State) (row : Deferred) : State := { s with deferred := s.deferred ++ [row] }

/-- What every field going OFF does to the lane (R12, R14, R161, R181). The field state is written, whatever the step
makes of it afterwards (R12, R189). -/
def Lane.dark (x : Lane) : Lane :=
  { x with
    field := .off
    rewritten := 3 :: x.rewritten
    carrier := none
    link := .idle
    watch := none
    waitRequest := false
    inProgress := false
    journalFull := false }

/-- The Presence Scanner passes over the lane and discards a reading in hand (R15, R18). -/
def Scanner.leave (sc : Scanner) (l : LaneId) : Scanner :=
  { sc with
    rest := sc.rest.filter fun k => k ≠ l
    measuring := sc.measuring.map fun m => if m.lane = l then { m with left := true } else m }

/-- The lane's field goes OFF, and a dialogue whose outcome is open ends by it (R14, R63). -/
def State.fieldOff (s : State) (l : LaneId) : State :=
  match (s.lane l).field with
  | .off => s
  | .sniff => { s.updLane l Lane.dark with scanner := s.scanner.leave l }
  | .on =>
    let s := s.updLane l Lane.dark
    match (s.lane l).dialogue with
    | none => s
    | some d =>
      if d.outcome.isSome then s else s.endDialogue l (if d.writeSent then .uncertain else .aborted) true

/-- A lane leaves service: field, passage, credits (R137), and its timed display (R161). -/
def State.leaveService (s : State) (l : LaneId) : State :=
  let s := s.fieldOff l
  let s := s.updLane l fun x => { x with passage := none, timedDisplay := none }
  s.dropCredits l

/-- The lane enters FAULT (R154). -/
def State.enterFault (s : State) (l : LaneId) (cause : FaultCause) : State :=
  let s := s.updLane l fun x => { x with drive := .released, pc := .fault }
  let s := s.leaveService l
  State.raise (s.onLane l fun p tb x => { x.sound p tb .alarm with faultCause := cause }) .lane

end Sys2Proof.Machine
end

