-- ==== Sys2Proof/Machine/Board.lean ====
section
/-! DEFINITION. The order board: the write-watch events of the slots, taking an order, ending an order (10 section
10.6). -/

namespace Sys2Proof.Machine

open Sys2Proof

/-! ## An order in the hands of its owner -/

/-- An order of that kind has been handed to its owner (R197); otherwise the order's row changes nothing
(assumption 1). -/
def State.withOrder (s : State) (kind : Nat) (f : OrderInService → State) : State :=
  match s.orders.service with
  | none => s
  | some o => if o.stage = .handed ∧ o.kind.toNat = kind then f o else s

def State.setStage (s : State) (stage : OrderStage) : State :=
  { s with orders := { s.orders with service := s.orders.service.map fun o => { o with stage := stage } } }

/-- The owner gives its result; ORDER_END writes it from `due` on (R198). -/
def State.answerAt (s : State) (due : Nat) (done : Bool) (code : OrderCode) (data : ResultData) : State :=
  s.setStage (.ended done code data due)

/-- The order ends 2 µs after its take (R197). -/
def State.answer (s : State) (o : OrderInService) (done : Bool) (code : OrderCode) (data : ResultData) : State :=
  s.answerAt (o.takenAt + usec 2) done code data

def State.setReady (s : State) (f : Readiness → Readiness) : State :=
  { s with orders := { s.orders with ready := f s.orders.ready } }

/-! ## Write-watch events of the state words (R193, R196) -/

def State.setSlot (s : State) (k : Fin 8) (v : SlotState) : State :=
  { s with orders := { s.orders with slots := s.orders.slots.set k v } }

/-- The word is rewritten with the state kept, its address recorded, HELD raised (R196). -/
def State.rewriteSlot (s : State) (k : Fin 8) : State :=
  (s.writeMem (slotBase k) (leBytes 2 s.orders.slots[k].code)).recordHeld (slotBase k)

/-- The judgement of R196 on the value the word holds. -/
def State.judgeSlot (s : State) (k : Fin 8) : State :=
  match s.orders.slots[k], SlotState.ofCode? (Memory.readNat s.mem (slotBase k) 2) with
  | .taken, _ => s
  | .empty, some .empty => s
  | .empty, some .posted => s.setSlot k .posted
  | .posted, some .posted => s
  | .posted, some .empty => s.setSlot k .empty
  | .done, some .done => s
  | .refused, some .refused => s
  | .done, some .empty => s.setSlot k .empty
  | .refused, some .empty => s.setSlot k .empty
  | .done, some .posted => s.setSlot k .posted
  | .refused, some .posted => s.setSlot k .posted
  | _, _ => s.rewriteSlot k

/-- R196: one waiting event of the slot is taken. -/
def execOrderSlotStateWordEvent (k : Fin 8) (s : State) : Host.Outcome State Fault Refusal :=
  .next (s.event fun s =>
    if k ∈ s.orders.watchEvents then
      State.judgeSlot { s with orders := { s.orders with watchEvents := s.orders.watchEvents.erase k } } k
    else s)

/-! ## Taking an order (R197) -/

/-- The slot `n` places after another, wrapping from 7 to 0. -/
def slotAfter (k : Fin 8) (n : Nat) : Fin 8 := Fin.ofNat 8 (k.val + n)

/-- The first POSTED slot from the one after the last taken. -/
def Orders.nextPosted (o : Orders) : Option (Fin 8) :=
  ((List.range 8).map fun n => slotAfter o.lastTaken (n + 1)).find? fun k => o.slots[k] = .posted

/-- Steps 1 to 3 of R197; the owner's row runs next. -/
def State.takeSlot (s : State) (k : Fin 8) : State :=
  let s := (s.setSlot k .taken).writeMem (slotBase k) (leBytes 2 SlotState.taken.code)
  let order : OrderInService :=
    { slot := k
      kind := Memory.read s.mem (slotBase k + 2)
      ticket := BitVec.ofNat 16 (Memory.readNat s.mem (slotBase k + 4) 2)
      args := Memory.readBytes s.mem (slotBase k + 8) 40
      takenAt := s.timeBase
      stage := .handed }
  { s with orders := { s.orders with lastTaken := k, service := some order } }

def execOrderTake (s : State) : Host.Outcome State Fault Refusal :=
  .next (s.event fun s =>
    match s.orders.service, s.orders.nextPosted with
    | none, some k => s.takeSlot k
    | _, _ => s)

/-- R197, step 3: a kind that names no order ends at once. -/
def execUnknownOrderKind (s : State) : Host.Outcome State Fault Refusal :=
  .next (s.event fun s =>
    match s.orders.service with
    | none => s
    | some o =>
      if o.stage = .handed ∧ kindKnown o.kind = false then s.answerAt s.timeBase false .kind noData else s)

/-! ## Ending an order (R198) -/

/-- The bytes of a result, a lane's mode and state as they stand now (R135). -/
def State.resultData (s : State) : ResultData → List Byte
  | .bytes data => resultBytes data
  | .laneNow l => resultBytes (s.lane l).modeAndState

/-- Result data, result code, echoed ticket, state word last; then the hold, the slot's state, ORDER (R198). -/
def State.endOrder (s : State) (o : OrderInService) (done : Bool) (code : OrderCode) (data : ResultData) : State :=
  let a := slotBase o.slot
  let final := if done then SlotState.done else SlotState.refused
  let s := s.writeMem (a + 48) (s.resultData data)
  let s := s.writeMem (a + 3) (leBytes 1 code.code)
  let s := s.writeMem (a + 6) (leBytes 2 o.ticket.toNat)
  let s := s.writeMem a (leBytes 2 final.code)
  let s := s.setSlot o.slot final
  State.raise { s with orders := { s.orders with service := none } } .order

/-- The result is written from its time on. -/
def execOrderEnd (s : State) : Host.Outcome State Fault Refusal :=
  .next (s.event fun s =>
    match s.orders.service with
    | none => s
    | some o =>
      match o.stage with
      | .ended done code data due =>
        s.onDue due fun s => s.endOrder o done code data
      | _ => s)

end Sys2Proof.Machine
end

