-- ==== Sys2Proof/Machine/Clock.lean ====
section
/-! DEFINITION. The Station Clock: its tick, steps of station time, the service day, the readout, SET TIME (08). -/

namespace Sys2Proof.Machine

open Sys2Proof

/-! ## Steps of station time (R168) -/

def Credit.shift (step : Int) (c : Credit) : Credit :=
  match c.state with
  | .waiting expiry => { c with state := .waiting (expiry + step) }
  | .inUse _ _ => c

/-- The timers of a lane held as station times (R173). -/
def Lane.shift (step : Int) (x : Lane) : Lane :=
  { x with
    dialogue := x.dialogue.map fun d => { d with deadline := d.deadline + step }
    watch := x.watch.map fun w => { w with probeAt := w.probeAt.map (· + step) }
    credits := x.credits.map (Credit.shift step)
    passage := x.passage.map fun p => { p with stuckAt := p.stuckAt.map (· + step) } }

def CreditMark.shift (step : Int) : CreditMark → CreditMark
  | .none => .none
  | .pending l sequence => .pending l sequence
  | .used d t => .used d (t + step)
  | .unused d t => .unused d (t + step)

/-- The timers of a sighting entry held as station times (R173). -/
def Sighting.shift (step : Int) (e : Sighting) : Sighting :=
  { e with
    mark := e.mark.shift step
    uncertainty := e.uncertainty.map fun u => { u with created := u.created + step } }

/-- Every timer held as a station time moves by the step, the deadlines of waiting AE requests with them (R168). -/
def State.shiftTimers (s : State) (step : Int) : State :=
  { s with
    lanes := ⟨s.lanes.l0.shift step, s.lanes.l1.shift step, s.lanes.l2.shift step, s.lanes.l3.shift step⟩
    engine := { s.engine with requests := s.engine.requests.map fun r => { r with deadline := r.deadline + step } }
    screening := { s.screening with table := s.screening.table.map (Sighting.shift step) } }

/-! ## The readout (R172) -/

/-- The three time words, then the stamp. The millisecond then owes no readout, after SET TIME too (assumption 51). -/
def State.writeReadout (s : State) : State :=
  let stamp := s.clock.stamp + 1#16
  let s := s.writeMem 0x08 (leBytes 2 s.clock.day ++ leBytes 2 s.clock.minute ++ leBytes 2 s.clock.ms)
  let s := s.writeMem 0x0E (leBytes 2 stamp.toNat)
  { s with clock := { s.clock with stamp := stamp, readoutDue := false } }

/-- A readout that the last tick owes is written (assumption 15). -/
def State.settleReadout (s : State) : State := if s.clock.readoutDue then s.writeReadout else s

/-! ## The service day (R170, R171) -/

/-- The service day of a station time. -/
def serviceDayOf (start : Nat) (t : StationTime) : Nat := if start ≤ t.minute then t.day else (t.day + 65535) % 65536

/-- The current service day; a rollover that is still owed has not been taken, so the day before stands
(assumption 15). -/
def StationClock.serviceDay (c : StationClock) : Nat :=
  let d := serviceDayOf c.serviceStart ⟨c.day, c.minute, c.ms⟩
  if c.rolloverDue then (d + 65535) % 65536 else d

/-- A rollover (R171). -/
def State.rollover (s : State) : State :=
  State.raise { s with clock := { s.clock with today := s.clock.nextDay, rolloverDue := false } } .clock

def State.settleRollover (s : State) : State := if s.clock.rolloverDue then s.rollover else s

/-! ## The tick (R164) -/

/-- One millisecond of station time, with the step at the end of day 65535. -/
def State.advance (s : State) : State :=
  let c := s.clock
  if c.ms + 1 < 60000 then { s with clock := { c with ms := c.ms + 1 } }
  else if c.minute + 1 < 1440 then { s with clock := { c with ms := 0, minute := c.minute + 1 } }
  else if c.day + 1 < 65536 then { s with clock := { c with ms := 0, minute := 0, day := c.day + 1 } }
  else State.shiftTimers { s with clock := { c with ms := 0, minute := 0, day := 0 } } (-daySpan)

/-- What the new millisecond owes: a rollover at the service-day start minute, a readout at each full second. -/
def State.owe (s : State) : State :=
  let c := s.clock
  { s with clock :=
      { c with
        rolloverDue := c.ms = 0 && c.minute = c.serviceStart
        readoutDue := c.ms % 1000 = 0 } }

/-- The next millisecond, after what the last one owes (assumption 15). -/
def State.tick (s : State) : State :=
  let s := s.settleRollover.settleReadout
  let s := { s with timeBase := s.nextTick, nextTick := s.nextTick + Config.unitsPerMs }
  s.advance.owe

/-- R164. -/
def execClockTick (s : State) : Host.Outcome State Fault Refusal := .next (s.event State.tick)

/-- The clock stands at the last millisecond of day 65535. -/
def StationClock.last (c : StationClock) : Bool := c.day = 65535 && c.minute = 1439 && c.ms = 59999

/-- R164: the millisecond that takes the day number past 65535. -/
def execDayNumberWrap (s : State) : Host.Outcome State Fault Refusal :=
  .next (s.event fun s => if s.clock.last then s.tick else s)

/-- R171. -/
def execServiceDayRollover (s : State) : Host.Outcome State Fault Refusal := .next (s.event State.settleRollover)

/-- R172. -/
def execClockReadout (s : State) : Host.Outcome State Fault Refusal := .next (s.event State.settleReadout)

/-! ## SET TIME (R166, R167) -/

/-- The arguments of SET TIME, when none is refused (R166). -/
def OrderInService.timeArgs (o : OrderInService) : Option (StationTime × DayType × DayType × Nat) :=
  match DayType.ofCode? (o.arg 6 1), DayType.ofCode? (o.arg 7 1) with
  | some today, some next =>
    if o.arg 2 2 < 1440 ∧ o.arg 4 2 < 60000 ∧ o.arg 8 2 < 1440 then
      some (⟨o.arg 0 2, o.arg 2 2, o.arg 4 2⟩, today, next, o.arg 8 2)
    else none
  | _, _ => none

/-- Steps 1 to 5 of R167, after what the last tick owes (assumption 15). DESIGN CHOICE, unsafe: a SET TIME that names a
full second writes the one readout of R167, and that second's own readout of R172 is not written besides it
(assumption 51). -/
def State.setTime (s : State) (t : StationTime) (today next : DayType) (start : Nat) : State :=
  let s := s.settleRollover.settleReadout
  let step := t.instant - s.instant
  let s := { s with clock :=
      { s.clock with
        day := t.day
        minute := t.minute
        ms := t.ms
        today := today
        nextDay := next
        serviceStart := start
        setFlag := true } }
  ((s.shiftTimers step).setReady fun r => { r with clockSet := true }).writeReadout

/-- The result data of SET TIME (10 section 10.6.3). -/
def timeResult (t : StationTime) (today next : DayType) (start : Nat) : List Byte :=
  leBytes 2 t.day ++ leBytes 2 t.minute ++ leBytes 2 t.ms ++ leBytes 2 (serviceDayOf start t) ++
    leBytes 1 today.code ++ leBytes 1 next.code

/-- R166, R167. -/
def execSetTime (s : State) : Host.Outcome State Fault Refusal :=
  .next (s.event fun s => s.withOrder 1 fun o =>
    match o.timeArgs with
    | none => s.answer o false .argument noData
    | some (t, today, next, start) =>
      (s.setTime t today next start).answer o true .none (.bytes (timeResult t today next start)))

end Sys2Proof.Machine
end

