-- ==== Sys2Proof/Machine/Engine.lean ====
section
/-! DEFINITION. The Authentication Engine: slot selection, the request list, the operations, the key orders (04). -/

namespace Sys2Proof.Machine

open Sys2Proof

/-! ## Slots (R67, R68) -/

def KeySlot.blank : KeySlot := ⟨.empty, 0, 0#128⟩

def KeySlot.holds (state : KeyState) (version : Nat) (k : KeySlot) : Bool := k.state = state && k.version = version

/-- The selection a DERIVE makes as it enters service (R68). -/
def selectSlot (slots : Vector KeySlot 8) (version : Nat) : WorkingStore :=
  match slots.toList.find? (KeySlot.holds .loaded version) with
  | some k => .key k.key
  | none => if slots.toList.any (KeySlot.holds .retired version) then .keyRetired else .keyUnknown

/-! ## The operations (R75) -/

/-- Durations in microseconds. -/
def AeOperation.duration : AeOperation → Nat
  | .derive _ _ => 180
  | .authCheck _ _ _ => 120
  | .verify _ _ => 200
  | .seal _ => 120

/-- What is copied into the working store: the master key selected for DERIVE, else the dialogue's card key. -/
def State.loadStore (s : State) (r : AeRequest) : WorkingStore :=
  match r.operation with
  | .derive _ version => selectSlot s.engine.slots version
  | _ =>
    match (s.lane r.lane).dialogue with
    | none => .keyUnknown
    | some d =>
      match d.cardKey with
      | none => .keyUnknown
      | some k => .key k

/-! ## The request list (R77) -/

/-- The request goes before the other: an earlier deadline, or the same deadline and a lower lane. -/
def AeRequest.goesBefore (a b : AeRequest) : Bool :=
  a.deadline < b.deadline || (a.deadline = b.deadline && a.lane.toNat < b.lane.toNat)

/-- The request that is granted next. -/
def nextRequest : List AeRequest → Option AeRequest
  | [] => none
  | r :: rest =>
    match nextRequest rest with
    | none => some r
    | some q => if q.goesBefore r then some q else some r

/-- A granted request leaves the list and enters service. -/
def State.enterService (s : State) (r : AeRequest) : State :=
  { s with engine :=
      { s.engine with
        requests := s.engine.requests.filter fun q => q.lane ≠ r.lane
        service := some ⟨r.lane, r.tag, r.operation, s.timeBase + usec r.operation.duration, s.loadStore r⟩ } }

/-- The engine, when free, grants the next request of its list. -/
def State.grantNext (s : State) : State :=
  match s.engine.service, nextRequest s.engine.requests with
  | none, some r => s.enterService r
  | _, _ => s

/-- A dialogue's request joins the list, and is granted at once when the engine is free (R77). -/
def State.askEngine (s : State) (l : LaneId) (op : AeOperation) : State :=
  match (s.lane l).dialogue with
  | none => s
  | some d =>
    let s := s.updDialogue l fun d => { d with outstanding := some .engine }
    State.grantNext
      { s with engine := { s.engine with requests := s.engine.requests ++ [⟨l, d.tag, op, d.deadline⟩] } }

/-! ## Challenges (R76) -/

/-- The value given: the first draw as it is, a later one kept apart from the last value given (assumption 7). -/
def challengeFrom (draw : BitVec 64) (last : Option (BitVec 64)) : BitVec 64 :=
  match last with
  | none => draw
  | some v => v + 1#64 + BitVec.ofNat 64 (draw.toNat % (2 ^ 64 - 1))

/-- A lane takes a challenge into its dialogue context. -/
def State.takeChallenge (s : State) (l : LaneId) : State :=
  let v := challengeFrom (Config.randomDraw s.engine.draws) s.engine.lastChallenge
  { s.updDialogue l fun d => { d with challenge := some v } with
    engine := { s.engine with draws := s.engine.draws + 1, lastChallenge := some v } }

/-! ## The key orders (R69 to R74) -/

/-- The summary of the eight slots (R74). -/
def keySummary (slots : Vector KeySlot 8) : List Byte :=
  slots.toList.flatMap fun k => leBytes 1 k.state.code ++ leBytes 1 k.version

def State.setKeySlot (s : State) (i : Fin 8) (k : KeySlot) : State :=
  { s with engine := { s.engine with slots := s.engine.slots.set i k } }

/-- A key order ends: the summary, and the key input to readiness (R74). -/
def State.answerKey (s : State) (due : Nat) (done : Bool) (code : OrderCode) : State :=
  (s.setReady fun r => { r with keyLoaded := s.engine.slots.toList.any fun k => k.state = .loaded }).answerAt due done
    code (.bytes (keySummary s.engine.slots))

/-- The slot an order names, if there is one. -/
def OrderInService.keySlot (o : OrderInService) : Option (Fin 8) :=
  if h : o.arg 0 1 < 8 then some ⟨o.arg 0 1, h⟩ else none

/-- The staging area an order names (R69). -/
def OrderInService.staging (o : OrderInService) : Area := ⟨o.arg 2 4, 16⟩

/-- Zero into the 16 staging bytes (R69, R70, R71). -/
def State.zeroStaging (s : State) (a : Area) : State := s.writeMem a.base (List.replicate 16 0#8)

/-- R69: the examination, in its order; step 1 of R70 follows a pass. -/
def execLoadKey (s : State) : Host.Outcome State Fault Refusal :=
  .next (s.event fun s => s.withOrder 6 fun o =>
    let due := o.takenAt + usec 2
    match o.keySlot with
    | none => s.answerKey due false .argument
    | some i =>
      if o.staging.inFree = false ∨ s.orders.held.overlaps o.staging = true then s.answerKey due false .argument
      else if s.engine.slots[i].state ≠ .empty then (s.zeroStaging o.staging).answerKey due false .slotInUse
      else if s.engine.slots.toList.any (KeySlot.holds .loaded (o.arg 1 1)) then
        (s.zeroStaging o.staging).answerKey due false .duplicate
      else (s.setHeld { s.orders.held with staging := some o.staging }).setStage .loadingKey)

/-- Steps 2 to 6 of R70. -/
def State.finishLoad (s : State) (o : OrderInService) (i : Fin 8) : State :=
  let key : Key := BitVec.ofNat 128 (Memory.readNat s.mem o.staging.base 16)
  let s := s.zeroStaging o.staging
  let s := s.setHeld { s.orders.held with staging := none }
  if key = 0#128 then s.answerKey s.timeBase false .argument
  else (s.setKeySlot i ⟨.loaded, o.arg 1 1, key⟩).answerKey s.timeBase true .none

/-- R70: 2 µs after the order's take. -/
def execLoadKeyComplete (s : State) : Host.Outcome State Fault Refusal :=
  .next (s.event fun s =>
    match s.orders.service with
    | none => s
    | some o =>
      match o.keySlot with
      | none => s
      | some i =>
        if o.stage = .loadingKey then s.onDue (o.takenAt + usec 2) fun s => s.finishLoad o i else s)

/-- R72. -/
def execRetireKey (s : State) : Host.Outcome State Fault Refusal :=
  .next (s.event fun s => s.withOrder 7 fun o =>
    let due := o.takenAt + usec 2
    match o.keySlot with
    | none => s.answerKey due false .argument
    | some i =>
      let k := s.engine.slots[i]
      match k.state with
      | .empty => s.answerKey due false .argument
      | .loaded => (s.setKeySlot i { k with state := .retired }).answerKey due true .none
      | .retired => s.answerKey due true .none)

/-- R73. -/
def execEraseKey (s : State) : Host.Outcome State Fault Refusal :=
  .next (s.event fun s => s.withOrder 8 fun o =>
    let due := o.takenAt + usec 2
    match o.keySlot with
    | none => s.answerKey due false .argument
    | some i => (s.setKeySlot i KeySlot.blank).answerKey due true .none)

end Sys2Proof.Machine
end

