-- ==== Sys2Proof/Machine/Fare.lean ====
section
/-! DEFINITION. The Fare Unit: the adoption of a fare table and the pricing of entries and exits (05). -/

namespace Sys2Proof.Machine

open Sys2Proof

/-! ## Adoption (R83 to R85) -/

def State.setFare (s : State) (f : FareUnit) : State := { s with fare := f }

/-- The area an adoption names. -/
def OrderInService.fareArea (o : OrderInService) : Area := ⟨o.arg 0 4, o.arg 4 2⟩

/-- The area tests of R83. -/
def State.fareAreaPasses (s : State) (a : Area) : Bool :=
  a.base % 2 = 0 && 130 ≤ a.len && a.len ≤ 640 && a.inFree && !s.orders.held.overlaps a

/-- A refusal's result data: offending field, day type, band index. -/
def tableInvalid (field day index : Nat) : ResultData :=
  .bytes (leBytes 1 field ++ leBytes 1 day ++ leBytes 1 index)

/-- R83: an area that passes is held as the pending table and its validation starts. -/
def execAdoptFareTable (s : State) : Host.Outcome State Fault Refusal :=
  .next (s.event fun s => s.withOrder 4 fun o =>
    let a := o.fareArea
    if s.fareAreaPasses a then
      ((s.setFare { s.fare with pending := some a }).setHeld { s.orders.held with fareSecond := some a }).setStage
        (.validatingTable s.timeBase)
    else s.answer o false .tableInvalid (tableInvalid 1 0 0))

/-- The band place does not start as it must (R84, step 4). -/
def badBand (m : List Host.Cell) (t : Area) (d : DayType) (i : Nat) : Bool :=
  let start := bandStart m t d i
  1439 < start || (if i = 0 then start ≠ 0 else start ≤ bandStart m t d (i - 1))

/-- The first bad band of a day type. -/
def firstBadBand (m : List Host.Cell) (t : Area) (d : DayType) : Option Nat :=
  (List.range (bandCount m t d)).find? (badBand m t d)

def countInRange (m : List Host.Cell) (t : Area) (d : DayType) : Bool := 1 ≤ bandCount m t d && bandCount m t d ≤ 8

def roundingSteps : List Nat := [1, 2, 5, 10, 20, 50, 100]

/-- The first check of R84 that fails: field, day type and band index of the result data. -/
def tableFailure (m : List Host.Cell) (t : Area) : Option (Nat × Nat × Nat) :=
  let z := fareZones m t
  if z < 1 ∨ 16 < z then some (2, 0, 0)
  else if t.len ≠ 128 + 2 * z * z then some (3, 0, 0)
  else if countInRange m t .workday = false then some (4, DayType.workday.code, 0)
  else if countInRange m t .restday = false then some (4, DayType.restday.code, 0)
  else
    match firstBadBand m t .workday, firstBadBand m t .restday with
    | some i, _ => some (5, DayType.workday.code, i)
    | none, some i => some (5, DayType.restday.code, i)
    | none, none =>
      if roundingStep m t ∉ roundingSteps then some (6, 0, 0)
      else if stationZone m t < 1 ∨ z < stationZone m t then some (7, 0, 0)
      else none

/-- A pricing in progress is bound to that table (R85). -/
def FareUnit.bound (f : FareUnit) (t : Area) : Bool :=
  [f.pricings.l0, f.pricings.l1, f.pricings.l2, f.pricings.l3].any fun p => p.any fun q => q.table = t

/-- The result data of DONE (R85). -/
def adopted (m : List Host.Cell) (t : Area) : ResultData :=
  .bytes (leBytes 1 (fareZones m t) ++ leBytes 1 (stationZone m t) ++ leBytes 2 (stationCode m t))

/-- The previous table, when no pricing is bound to it any more, is released and the adoption ends DONE (R85). -/
def State.releasePrevious (s : State) : State :=
  match s.fare.active with
  | none => s
  | some t =>
    if s.fare.previous.any s.fare.bound then s
    else
      let s := (s.setFare { s.fare with previous := none }).setHeld { s.orders.held with fareSecond := none }
      (s.setReady fun r => { r with fareAdopted := true }).answerAt s.timeBase true .none (adopted s.mem t)

/-- The switch of R85. -/
def State.switchTable (s : State) (t : Area) : State :=
  let old := s.fare.active
  let s := s.setFare { s.fare with active := some t, pending := none, previous := old }
  ((s.setHeld { s.orders.held with fare := some t, fareSecond := old }).setStage .awaitingPricings).releasePrevious

/-- R84, R85: 0.1 µs for each byte after the validation's start. -/
def execFareTableValidationEnd (s : State) : Host.Outcome State Fault Refusal :=
  .next (s.event fun s =>
    match s.orders.service, s.fare.pending with
    | some o, some t =>
      match o.stage with
      | .validatingTable start =>
        s.onDue (start + t.len) fun s =>
          match tableFailure s.mem t with
          | none => s.switchTable t
          | some (field, day, index) =>
            let s := (s.setFare { s.fare with pending := none }).setHeld { s.orders.held with fareSecond := none }
            s.answerAt s.timeBase false .tableInvalid (tableInvalid field day index)
      | _ => s
    | _, _ => s)

/-! ## Pricing (R88 to R103) -/

/-- What a pricing answers (R50). -/
inductive PriceAnswer where
  | cardSpent
  | expired
  | lowBalance (charge : Nat) (flags : StageFlags)
  | priced (result : PricingResult) (image : List Byte)
  deriving DecidableEq, Repr

/-- A value held at 65535. -/
def saturate (n : Nat) : Nat := min 65535 n

/-- The multiplier of the band that contains a minute: the last band read whose start is not above it (R81). -/
def bandFor (m : List Host.Cell) (t : Area) (d : DayType) (minute : Nat) : Nat :=
  match (List.range (bandCount m t d)).reverse.find? fun i => bandStart m t d i ≤ minute with
  | none => 0
  | some i => bandMultiplier m t d i

/-- A stage's product in 1/256ths, rounded to the nearest, halves up (R94, R95). -/
def scaled (fare multiplier : Nat) : Nat := (fare * multiplier + 128) / 256

/-- The rounding stage before saturation (R96). -/
def rounded (q step : Nat) : Nat := (q + step / 2) / step * step

/-- Minutes from one day and minute to another (R97, R99). -/
def minutesBetween (day minute day' minute' : Nat) : Int :=
  ((day' : Int) - (day : Int)) * 1440 + (minute' : Int) - (minute : Int)

/-- The transfer conditions of R97. -/
def transferHolds (m : List Host.Cell) (t : Area) (purse : List Byte) : Bool :=
  let gap :=
    minutesBetween (purseLastExitDay purse) (purseLastExitMinute purse) (purseEntryDay purse) (purseEntryMinute purse)
  0 ≤ gap && gap ≤ transferWindow m t && purseLastExitStation purse ≠ purseEntryStation purse

/-- D of R98. -/
def dailySoFar (purse : List Byte) (serviceDay : Nat) : Nat :=
  if purseDailyDay purse = serviceDay then purseDailySum purse else 0

/-- The overstay condition of R99; a negative duration counts as 0. -/
def overstays (m : List Host.Cell) (t : Area) (purse : List Byte) (time : StationTime) : Bool :=
  (maximumTrip m t : Int) <
    max 0 (minutesBetween (purseEntryDay purse) (purseEntryMinute purse) time.day time.minute)

/-- A charge, its flags and the new daily sum, where one is written. -/
structure Charge where
  charge : Nat
  flags : StageFlags
  daily : Option Nat
  deriving DecidableEq, Repr

/-- The six stages of an exit with an open trip (R94 to R99). -/
def exitStages (m : List Host.Cell) (p : Pricing) : Charge :=
  let t := p.table
  let cls := productClass p.product
  let purse := p.purse
  let base := baseFare m t (min (purseEntryZone purse) (fareZones m t)) (stationZone m t)
  let a := scaled base (bandFor m t p.transaction.dayType (purseEntryMinute purse))
  let b := scaled (saturate a) (concessionMultiplier m t cls)
  let c := rounded (saturate b) (roundingStep m t)
  let p2 := saturate c
  let transfer := transferHolds m t purse
  let p3 := p2 - (if transfer then min p2 (transferAllowance m t) else 0)
  let d := dailySoFar purse p.transaction.serviceDay
  let capped := min p3 (dailyCap m t cls - d)
  let late := overstays m t purse p.transaction.time
  let f := capped + (if late then overstaySurcharge m t else 0)
  { charge := saturate f
    flags :=
      { transfer := transfer
        capped := capped < p3
        overstay := late
        penalty := false
        saturated := 65535 < a || 65535 < b || 65535 < c || 65535 < f }
    daily := some (d + capped) }

/-- The charge of an exit: STAFF (R100), no open trip (R93), or the stages. -/
def exitCharge (m : List Host.Cell) (p : Pricing) : Charge :=
  let isOpen := purseOpen p.purse
  if isStaff p.product then
    ⟨0, StageFlags.clear, if isOpen then some (dailySoFar p.purse p.transaction.serviceDay) else none⟩
  else if isOpen then exitStages m p
  else ⟨noEntryPenalty m p.table, { StageFlags.clear with penalty := true }, none⟩

/-- The charge of an entry (R90, R92). -/
def entryCharge (m : List Host.Cell) (p : Pricing) : Charge :=
  if purseOpen p.purse ∧ isStaff p.product = false then
    ⟨unclosedPenalty m p.table, { StageFlags.clear with penalty := true }, none⟩
  else ⟨0, StageFlags.clear, none⟩

/-- The fields every priced image takes: balance and counter (R92, R102). -/
def payImage (purse : List Byte) (balance : Int) : List Byte :=
  patch (patch purse 0 (signedBytes 4 balance)) 4 (leBytes 2 (purseCounter purse + 1))

/-- The new values at ENTRY (R92). -/
def entryImage (m : List Host.Cell) (p : Pricing) (balance : Int) : List Byte :=
  patch (payImage p.purse balance) 6
    (leBytes 1 1 ++ leBytes 1 (stationZone m p.table) ++ leBytes 2 (stationCode m p.table) ++
      leBytes 2 p.transaction.time.day ++ leBytes 2 p.transaction.time.minute)

/-- The new values at EXIT (R102). -/
def exitImage (m : List Host.Cell) (p : Pricing) (balance : Int) (daily : Option Nat) : List Byte :=
  let image := patch (payImage p.purse balance) 6 (leBytes 1 0)
  let image := patch image 14
    (leBytes 2 (stationCode m p.table) ++ leBytes 2 p.transaction.time.day ++ leBytes 2 p.transaction.time.minute)
  match daily with
  | none => image
  | some sum => patch image 20 (leBytes 2 p.transaction.serviceDay ++ leBytes 2 sum)

/-- The overdraft floor and the answer priced (R101). -/
def settlePrice (m : List Host.Cell) (p : Pricing) (c : Charge) (image : Int → List Byte) (entryZone exitZone : Nat) :
    PriceAnswer :=
  let balance := purseBalance p.purse - c.charge
  if balance < -(overdraftLimit m p.table : Int) then .lowBalance c.charge c.flags
  else .priced ⟨c.charge, balance, c.flags, entryZone, exitZone⟩ (image balance)

/-- The entry path (R90 to R92). -/
def priceEntry (m : List Host.Cell) (p : Pricing) : PriceAnswer :=
  let c := entryCharge m p
  if isStaff p.product = false ∧ purseBalance p.purse - c.charge < entryFloor m p.table then
    .lowBalance c.charge c.flags
  else settlePrice m p c (entryImage m p) (stationZone m p.table) 0

/-- The exit path (R93 to R102); a card without an open trip shows an entry zone of 0 (R60). -/
def priceExit (m : List Host.Cell) (p : Pricing) : PriceAnswer :=
  let c := exitCharge m p
  settlePrice m p c (fun balance => exitImage m p balance c.daily)
    (if purseOpen p.purse then purseEntryZone p.purse else 0) (stationZone m p.table)

/-- The tests of R88 in their order. -/
def price (m : List Host.Cell) (p : Pricing) : PriceAnswer :=
  if purseCounter p.purse = 65535 then .cardSpent
  else if productExpiry p.product < p.transaction.serviceDay then .expired
  else
    match p.direction with
    | .entry => priceEntry m p
    | .exit => priceExit m p

/-! ## PRICE at the dialogue (R49, R50) -/

/-- The start of PRICE: the transaction time is taken, the pricing bound to the active table (R49, R87). -/
def State.startPrice (s : State) (l : LaneId) : State :=
  match (s.lane l).dialogue, s.fare.active with
  | some d, some t =>
    let transaction : Transaction := ⟨s.now, s.clock.serviceDay, s.clock.today⟩
    let pricing : Pricing :=
      ⟨d.tag, t, d.direction, productImage d.recordArea, d.purse, transaction, s.timeBase + usec 4⟩
    let s := s.updDialogue l fun d =>
      { d with phase := .price, transaction := some transaction, outstanding := some .price }
    s.setFare { s.fare with pricings := s.fare.pricings.set l (some pricing) }
  | _, _ => s

/-- The dialogue takes the answer of its pricing (R50). -/
def State.takePrice (s : State) (l : LaneId) (a : PriceAnswer) : State :=
  match a with
  | .cardSpent => s.endDialogue l .cardSpent false
  | .expired => s.endDialogue l .expired false
  | .lowBalance charge flags =>
    (s.updDialogue l fun d => { d with pricing := some ⟨charge, 0, flags, 0, 0⟩ }).endDialogue l .lowBalance false
  | .priced result image =>
    let s := s.updDialogue l fun d =>
      { d with
        phase := .seal
        pricing := some result
        image := some image
        expected := some (purseCounter image) }
    s.askEngine l (.seal image)

/-- The dialogue waits for the answer of the pricing with that tag. -/
def Dialogue.awaitsPrice (d : Dialogue) (tag : Nat) : Bool :=
  d.tag = tag && d.outcome.isNone && d.outstanding = some .price

/-- A pricing answers: its binding ends, the dialogue that waits for it takes the answer, and a previous table that no
pricing is bound to any more is released (R85, R87). -/
def State.answerPrice (s : State) (l : LaneId) (p : Pricing) : State :=
  let a := price s.mem p
  let s := s.setFare { s.fare with pricings := s.fare.pricings.set l none }
  let s := if (s.lane l).dialogue.any fun d => d.awaitsPrice p.tag then s.takePrice l a else s
  if s.orders.service.any fun o => o.stage = .awaitingPricings then s.releasePrevious else s

/-- R50, R87: 4 µs after the request. -/
def execPriceAnswer (l : LaneId) (s : State) : Host.Outcome State Fault Refusal :=
  .next (s.event fun s =>
    match s.fare.pricings.get l with
    | none => s
    | some p => s.onDue p.due fun s => s.answerPrice l p)

end Sys2Proof.Machine
end

