-- ==== Sys2Proof/Machine/Screening.lean ====
section
/-! DEFINITION. The Screening Unit: claims, lookups, screens, the expiries of its entries, the denylist's adoption and
the orders on sightings (06). -/

namespace Sys2Proof.Machine

open Sys2Proof

def State.setOutstanding (s : State) (l : LaneId) (o : Option Outstanding) : State :=
  s.updDialogue l fun d => { d with outstanding := o }

/-! ## ALERT (R127) -/

/-- The ALERT record of a dialogue and ALERT attention. -/
def State.alert (s : State) (l : LaneId) (d : Dialogue) (result : ResultCode) (counter : Nat) (e : Sighting) :
    State :=
  let r : Record :=
    { Record.blank .alert l d.direction result d.card s.now with
      counterBefore := counter
      counterAfter := e.lastCounter
      flags := recordFlags StageFlags.clear d.degradedNote false }
  State.raise (s.enqueue ⟨r, .dialogue l, .nobody⟩) .alert

/-! ## Claims (R107 to R109) -/

/-- What a claim finds. -/
inductive ClaimResult where
  | held
  | concurrent
  | busy
  deriving DecidableEq, Repr

/-- The Screening Unit's work on a claim, and its answer (R107). A new entry takes the station time of the request
(R108); an entry that stands is touched as the claim is taken (R106), which is at the answer (assumption 39). -/
def State.claimEntry (s : State) (l : LaneId) (d : Dialogue) (requested : StationTime) : State × ClaimResult :=
  match findSighting s.screening.table d.card with
  | none =>
    match createSighting s.screening.table d.card l requested with
    | none => (s, .busy)
    | some t => (s.setTable t, .held)
  | some e =>
    if e.claim.any fun k => k ≠ l then
      let e' := e.raiseSuspect
      let s := s.changeEntry d.card fun _ => e'
      (if e.alarmed e' then s.alert l d .concurrent 0 e' else s, .concurrent)
    else
      let s := s.changeEntry d.card fun e => { e with claim := some l }
      (s.setTable (touchSighting s.screening.table d.card s.now), .held)

/-- The dialogue takes the answer of its claim; one whose outcome is decided goes on to RELEASE (R43, R56). -/
def State.takeClaim (s : State) (l : LaneId) (d : Dialogue) (r : ClaimResult) : State :=
  let s := s.updDialogue l fun d => { d with outstanding := none, claimHeld := r = .held }
  if d.outcome.isSome then s.beginRelease l
  else
    match r with
    | .concurrent => s.endDialogue l .concurrent false
    | .busy => s.endDialogue l .busy false
    | .held =>
      match d.identity with
      | none => s
      | some i => (s.updDialogue l fun d => { d with phase := .auth }).askEngine l (.derive i.card i.keyVersion)

/-- FORGET CARD is taking the card's entry away and waits for its record (R132). -/
def State.forgets (s : State) (card : CardNumber) : Bool := s.orders.service.any fun o => o.stage = .forgetting card

/-- R107: 2 µs after the request, and after a FORGET CARD of the card that was taken first (R132). -/
def execClaimAnswer (l : LaneId) (s : State) : Host.Outcome State Fault Refusal :=
  .next (s.event fun s =>
    match (s.lane l).dialogue with
    | none => s
    | some d =>
      match d.outstanding with
      | some (.claim due requested) =>
        if s.forgets d.card then s
        else
          s.onDue due fun s =>
            let sr := s.claimEntry l d requested
            sr.1.takeClaim l d sr.2
      | _ => s)

/-! ## Lookups (R118) -/

/-- Binary search between two indices: the probes made and the entry found (assumption 23). -/
def searchDeny (m : List Host.Cell) (offset : Nat) (card : CardNumber) : Nat → Nat → Nat → Nat × Option DenyEntry
  | 0, _, _ => (0, none)
  | fuel + 1, lo, hi =>
    if lo < hi then
      let mid := (lo + hi) / 2
      let e := denyEntry m offset mid
      let r :=
        if e.card = card then (0, some e)
        else if e.card < card then searchDeny m offset card fuel (mid + 1) hi
        else searchDeny m offset card fuel lo mid
      (r.1 + 1, r.2)
    else (0, none)

/-- A lookup of a card in a list, if there is one. -/
def lookupDeny (m : List Host.Cell) (list : Option Denylist) (card : CardNumber) : Nat × Option DenyEntry :=
  match list with
  | none => (0, none)
  | some d => searchDeny m d.offset card 14 0 d.count

/-- A lookup begins on the active list, 1 µs a probe. -/
def State.startLookup (s : State) (l : LaneId) : State :=
  match (s.lane l).dialogue with
  | none => s
  | some d =>
    let probes := (lookupDeny s.mem s.screening.active d.card).1
    s.setOutstanding l (some (.lookup s.screening.active (s.timeBase + usec probes)))

/-- A switch waits to be made (R116). -/
def State.switchWaits (s : State) : Bool := s.orders.service.any fun o => o.stage = .awaitingSwitch

/-- SCREEN begins: its lookup begins, or waits for the switch (R48, R116). -/
def State.askScreen (s : State) (l : LaneId) : State :=
  let s := s.updDialogue l fun d => { d with phase := .screen }
  if s.switchWaits then s.setOutstanding l (some .lookupWaiting) else s.startLookup l

/-! ## The screen (R119 to R126) -/

/-- What a screen makes: its answer, the entry after it, the resolution of check 3 and whether check 4 raised the
suspect count to 3. -/
structure Screened where
  answer : ScreenAnswer
  entry : Sighting
  resolved : Option ResultCode
  alarmed : Bool
  deriving DecidableEq, Repr

/-- Check 1 (R120). -/
def denyAnswer (found : Option DenyEntry) (c : Nat) : Option ScreenAnswer :=
  match found with
  | none => none
  | some e => if e.kind = 1 then some .denied else if e.kind = 2 ∧ c < e.floor then some .clone else none

/-- Check 3: the outcome, and the last image after it (R122). -/
def resolveAs (u : Uncertainty) (c : Nat) (v : CheckValue) (image : Option LastImage) :
    ResultCode × Option LastImage :=
  if c = u.newCounter ∧ v = u.newCheck then (.took, some ⟨u.newCounter, u.newCheck⟩)
  else if c = u.oldCounter ∧ v = u.oldCheck then (.void, image)
  else if c < u.oldCounter then (.overtaken, image)
  else (.overtaken, some ⟨c, v⟩)

/-- Check 4 finds a copy (R124). -/
def Sighting.copied (e : Sighting) (c : Nat) (v : CheckValue) : Bool :=
  e.lastImage.any fun i => c < i.counter || (c = i.counter && v ≠ i.check)

/-- Check 5: an UNUSED mark of the direction and an unchanged counter (R125). -/
def Sighting.unusedFor (e : Sighting) (dir : Direction) (c : Nat) : Bool :=
  match e.mark with
  | .unused d _ => d = dir && e.lastImage.any fun i => c = i.counter
  | _ => false

/-- Check 6: a USED mark of an entry at an entry lane (R126). -/
def Sighting.usedEntry (e : Sighting) (dir : Direction) : Bool :=
  match e.mark with
  | .used d _ => d = .entry && dir = .entry
  | _ => false

/-- The last image is updated before an answer that is not CLONE, DENIED or SUSPECT (R119). -/
def Sighting.takeImage (c : Nat) (v : CheckValue) (e : Sighting) : Sighting :=
  if e.lastImage.all fun i => i.counter < c then { e with lastImage := some ⟨c, v⟩ } else e

/-- Checks 4 to 7. -/
def laterChecks (e : Sighting) (dir : Direction) (c : Nat) (v : CheckValue) (resolved : Option ResultCode) : Screened :=
  if e.copied c v then ⟨.clone, e.raiseSuspect, resolved, e.alarmed e.raiseSuspect⟩
  else if e.unusedFor dir c then ⟨.regrant, e.takeImage c v, resolved, false⟩
  else if e.usedEntry dir then ⟨.passback, e.takeImage c v, resolved, false⟩
  else ⟨.pass, e.takeImage c v, resolved, false⟩

/-- Checks 2 to 7. -/
def entryChecks (e : Sighting) (dir : Direction) (c : Nat) (v : CheckValue) : Screened :=
  if e.suspect = 3 then ⟨.suspect, e, none, false⟩
  else
    match e.uncertainty with
    | none => laterChecks e dir c v none
    | some u =>
      let r := resolveAs u c v e.lastImage
      let e := { e with uncertainty := none, lastImage := r.2 }
      if r.1 = .took ∧ u.direction = dir then ⟨.regrant, e.takeImage c v, some r.1, false⟩
      else laterChecks e dir c v (some r.1)

/-- The checks of a screen in their order. -/
def screenChecks (found : Option DenyEntry) (e : Sighting) (dir : Direction) (c : Nat) (v : CheckValue) : Screened :=
  match denyAnswer found c with
  | some a => ⟨a, e, none, false⟩
  | none => entryChecks e dir c v

/-- The RESOLVED record of check 3 is asked for, into the part's reservation (R123). It is asked for before an ALERT
record of the same screen; 09 R177 allows either order (assumption 41). -/
def State.recordResolution (s : State) (l : LaneId) (d : Dialogue) (e : Sighting) (r : Option ResultCode) : State :=
  match r, e.uncertainty with
  | some code, some u => s.enqueue ⟨resolvedRecord e.card u l code s.now d.degradedNote, .part, .screen l⟩
  | _, _ => s

/-- The moment at which a screen reads and changes its entry (R119). -/
def State.screenEntry (s : State) (l : LaneId) (d : Dialogue) (list : Option Denylist) : State :=
  match findSighting s.screening.table d.card with
  | none => s
  | some e =>
    let c := purseCounter d.purse
    let r := screenChecks (lookupDeny s.mem list d.card).2 e d.direction c (purseCheck d.purse)
    let s := s.changeEntry d.card fun _ => r.entry
    let s := s.setTable (touchSighting s.screening.table d.card s.now)
    let s := s.recordResolution l d e r.resolved
    let s := if r.alarmed then s.alert l d .clone c r.entry else s
    s.setOutstanding l (some (.screened r.answer (s.timeBase + usec 2)))

/-- R119: the end of the lookup. -/
def execScreenLookupEnd (l : LaneId) (s : State) : Host.Outcome State Fault Refusal :=
  .next (s.event fun s =>
    match (s.lane l).dialogue with
    | none => s
    | some d =>
      match d.outstanding with
      | some (.lookup list due) => s.onDue due fun s => s.screenEntry l d list
      | _ => s)

/-! ## The expiries of an entry (R129, R130) -/

/-- R129, a USED mark. -/
def execPassbackExpiry (card : CardNumber) (s : State) : Host.Outcome State Fault Refusal :=
  .next (s.event fun s =>
    s.changeEntry card s.expireUsed)

/-- R129, an UNUSED mark. -/
def execRegrantGraceExpiry (card : CardNumber) (s : State) : Host.Outcome State Fault Refusal :=
  .next (s.event fun s =>
    s.changeEntry card fun e =>
      match e.mark with
      | .unused _ _ => if s.markExpired e.mark then { e with mark := .none } else e
      | _ => e)

/-- R130; a FORGET CARD of the card that was taken first has the part in hand (R132). -/
def execUncertaintyExpiry (card : CardNumber) (s : State) : Host.Outcome State Fault Refusal :=
  .next (s.event fun s =>
    match findSighting s.screening.table card with
    | none => s
    | some e => if s.forgets card then s else s.expirePart e)

/-! ## READ SIGHTING and FORGET CARD (R131, R132) -/

def timeBytes (t : StationTime) : List Byte := leBytes 2 t.day ++ leBytes 2 t.minute ++ leBytes 2 t.ms

def claimByte (c : Option LaneId) : List Byte :=
  match c with
  | none => [255#8]
  | some l => leBytes 1 l.toNat

def imageBytes (i : Option LastImage) : List Byte :=
  match i with
  | none => List.replicate 11 0#8
  | some i => [1#8] ++ leBytes 2 i.counter ++ leBytes 8 i.check.toNat

def partBytes (u : Option Uncertainty) : List Byte :=
  match u with
  | none => List.replicate 31 0#8
  | some u =>
    [1#8] ++ leBytes 2 u.oldCounter ++ leBytes 2 u.newCounter ++ leBytes 8 u.oldCheck.toNat ++
      leBytes 8 u.newCheck.toNat ++ leBytes 2 u.charge ++ leBytes 1 u.lane.toNat ++ leBytes 1 u.direction.code ++
      timeBytes (StationTime.ofInstant u.created)

def markBytes (m : CreditMark) : List Byte :=
  leBytes 1 m.code ++
    match m with
    | .none => List.replicate 10 0#8
    | .pending l sequence => leBytes 1 l.toNat ++ leBytes 2 sequence.toNat ++ List.replicate 7 0#8
    | .used d time => List.replicate 3 0#8 ++ leBytes 1 d.code ++ timeBytes (StationTime.ofInstant time)
    | .unused d time => List.replicate 3 0#8 ++ leBytes 1 d.code ++ timeBytes (StationTime.ofInstant time)

/-- The 80 bytes of a READ SIGHTING copy (R131). -/
def Sighting.copyBytes (e : Sighting) : List Byte :=
  leBytes 8 e.card.toNat ++ claimByte e.claim ++ imageBytes e.lastImage ++ partBytes e.uncertainty ++
    markBytes e.mark ++ leBytes 1 e.suspect ++ timeBytes e.touched ++ List.replicate 11 0#8

/-- The summary in the result data (R131). -/
def Sighting.summary (e : Sighting) : List Byte :=
  claimByte e.claim ++ leBytes 1 e.suspect ++ leBytes 1 e.mark.code ++ leBytes 1 (bitOf e.uncertainty.isSome 0) ++
    leBytes 2 e.lastCounter

/-- A copy offset of 0, or one that names a good area (R131). -/
def State.copyOffsetPasses (s : State) (offset : Nat) : Bool :=
  offset = 0 || (offset % 2 = 0 && Area.inFree ⟨offset, 80⟩ && !s.orders.held.overlaps ⟨offset, 80⟩)

def OrderInService.cardArg (o : OrderInService) : CardNumber := BitVec.ofNat 64 (o.arg 0 8)

/-- R131. -/
def execReadSighting (s : State) : Host.Outcome State Fault Refusal :=
  .next (s.event fun s => s.withOrder 12 fun o =>
    let offset := o.arg 8 4
    if s.copyOffsetPasses offset = false then s.answer o false .argument noData
    else
      match findSighting s.screening.table o.cardArg with
      | none => s.answer o true .notFound noData
      | some e =>
        let s := if offset = 0 then s else s.writeMem offset e.copyBytes
        s.answer o true .found (.bytes e.summary))

/-- The entry is removed and the order ends DONE (R132). -/
def State.forget (s : State) (o : OrderInService) (card : CardNumber) : State :=
  (s.setTable (removeSighting s.screening.table card)).answer o true .none noData

/-- The UNRESOLVED record is written: the removal follows (R132). -/
def State.finishForget (s : State) : State :=
  match s.orders.service with
  | none => s
  | some o =>
    match o.stage with
    | .forgetting card => s.forget o card
    | _ => s

/-- R132: with an uncertainty part its record is asked for, and the removal waits until it is written. -/
def execForgetCard (s : State) : Host.Outcome State Fault Refusal :=
  .next (s.event fun s => s.withOrder 13 fun o =>
    match findSighting s.screening.table o.cardArg with
    | none => s.answer o true .notFound noData
    | some e =>
      if e.claim.isSome then s.answer o false .busy noData
      else
        match e.uncertainty with
        | none => s.forget o e.card
        | some u => (s.askUnresolved e.card u .order).setStage (.forgetting e.card))

/-! ## The denylist's adoption (R114 to R116) -/

def OrderInService.denylist (o : OrderInService) : Denylist := ⟨o.arg 0 4, o.arg 4 2⟩

def Denylist.area (d : Denylist) : Area := ⟨d.offset, 12 * d.count⟩

/-- A refusal's result data: the part and the entry index. -/
def listInvalid (part index : Nat) : ResultData := .bytes (leBytes 2 part ++ leBytes 2 index)

def State.setLists (s : State) (active pending : Option Denylist) : State :=
  { s with screening := { s.screening with active := active, pending := pending } }

/-- R114. -/
def execAdoptDenylist (s : State) : Host.Outcome State Fault Refusal :=
  .next (s.event fun s => s.withOrder 5 fun o =>
    let d := o.denylist
    if 8192 < d.count then s.answer o false .listInvalid (listInvalid 1 0)
    else if d.count = 0 then (s.setLists s.screening.active (some d)).setStage .awaitingSwitch
    else if d.offset % 2 = 1 ∨ d.area.inFree = false ∨ s.orders.held.overlaps d.area = true then
      s.answer o false .listInvalid (listInvalid 2 0)
    else
      ((s.setLists s.screening.active (some d)).setHeld { s.orders.held with denyPending := some d.area }).setStage
        (.scanningDenylist s.timeBase))

/-- The part of the first check an entry fails, if it fails one (R115): 3 KIND, 4 ORDER. -/
def badEntry (m : List Host.Cell) (offset i : Nat) : Option Nat :=
  let e := denyEntry m offset i
  if e.kind ≠ 1 ∧ e.kind ≠ 2 then some 3
  else if i ≠ 0 ∧ ¬ (denyEntry m offset (i - 1)).card < e.card then some 4
  else none

/-- The first bad entry of a list: its part and its index. -/
def firstBadEntry (m : List Host.Cell) (d : Denylist) : Option (Nat × Nat) :=
  (List.range d.count).findSome? fun i => (badEntry m d.offset i).map fun part => (part, i)

/-- The scan's length in units of 0.1 µs: 0.5 µs for each entry read. -/
def scanTime (d : Denylist) (bad : Option (Nat × Nat)) : Nat :=
  match bad with
  | none => 5 * d.count
  | some (_, i) => 5 * (i + 1)

/-- R115. -/
def execDenylistScanEnd (s : State) : Host.Outcome State Fault Refusal :=
  .next (s.event fun s =>
    match s.orders.service, s.screening.pending with
    | some o, some d =>
      match o.stage with
      | .scanningDenylist start =>
        let bad := firstBadEntry s.mem d
        s.onDue (start + scanTime d bad) fun s =>
          match bad with
          | none => s.setStage .awaitingSwitch
          | some (part, i) =>
            let s := (s.setLists s.screening.active none).setHeld { s.orders.held with denyPending := none }
            s.answerAt s.timeBase false .listInvalid (listInvalid part i)
      | _ => s
    | _, _ => s)

/-- The lane's lookup is in progress. -/
def Lane.lookingUp (x : Lane) : Bool :=
  x.dialogue.any fun d =>
    match d.outstanding with
    | some (.lookup _ _) => true
    | _ => false

/-- The lane's lookup waits for the switch. -/
def Lane.waitsForList (x : Lane) : Bool := x.dialogue.any fun d => d.outstanding = some .lookupWaiting

def State.lookupsInProgress (s : State) : Bool :=
  s.lanes.l0.lookingUp || s.lanes.l1.lookingUp || s.lanes.l2.lookingUp || s.lanes.l3.lookingUp

/-- A waiting lookup begins on the new list (R116). -/
def State.resumeLookup (s : State) (l : LaneId) : State := if (s.lane l).waitsForList then s.startLookup l else s

/-- The switch (R116). -/
def State.switchList (s : State) (d : Denylist) : State :=
  let area := if d.count = 0 then none else some d.area
  let s := (s.setLists (some d) none).setHeld { s.orders.held with deny := area, denyPending := none }
  let s := (((s.resumeLookup .lane0).resumeLookup .lane1).resumeLookup .lane2).resumeLookup .lane3
  (s.setReady fun r => { r with denyAdopted := true }).answerAt s.timeBase true .none (.bytes (leBytes 2 d.count))

/-- R116: between lookups. -/
def execDenylistSwitch (s : State) : Host.Outcome State Fault Refusal :=
  .next (s.event fun s =>
    match s.screening.pending with
    | none => s
    | some d => if s.switchWaits ∧ s.lookupsInProgress = false then s.switchList d else s)

end Sys2Proof.Machine
end

