-- ==== Sys2Proof/Machine/Signals.lean ====
section
/-! DEFINITION. What the lanes' antenna and sounder outputs carry at a moment of the time base, as functions of the
state: the carrier, the gaps of a frame, the drive level, the tones (02 section 2.5, 07 section 7.10). -/

namespace Sys2Proof.Machine

open Sys2Proof

/-! ## The carrier (R23) -/

/-- The clocks of 54 MHz since the carrier started, at a time base of 0.1 µs. -/
def Carrier.clocks (c : Carrier) (now : Nat) : Nat := (now - c.start) * 54 / 10

/-- The 28-bit phase accumulator, which starts from zero with the carrier and adds the increment at every clock. -/
def Carrier.accumulator (c : Carrier) (now : Nat) : BitVec 28 := BitVec.ofNat 28 (c.increment * c.clocks now)

/-- The carrier follows the accumulator's top bit. -/
def Carrier.level (c : Carrier) (now : Nat) : Bool := (c.accumulator now).getLsbD 27

/-! ## The gaps of a frame and the antenna drive (R12, R24) -/

/-- A frame's bits: the start pattern (assumption 40), then its bytes with the frame check, each low bit first. -/
def frameBits (wire : List Byte) : List Bool := (List.range 16).map Config.startPattern.getLsbD ++ downlinkBits wire

/-- In the gap of a 0 bit, `t` after the frame began and with 625/8 of 0.1 µs to a bit period at full rate: the first
quarter of the bit's period. -/
def inGapAt (bits : List Bool) (half : Bool) (t : Nat) : Bool :=
  let eightPeriods := 625 * (if half then 2 else 1)
  bits[8 * t / eightPeriods]? = some false && 4 * (8 * t % eightPeriods) < eightPeriods

/-- The lane sends a frame and stands in a gap of it. The frame began its time on the link before its end. -/
def Lane.inGap (x : Lane) (now : Nat) : Bool :=
  match x.link with
  | .sending due command half _ =>
    let challenge := (x.dialogue.bind Dialogue.challenge).getD 0#64
    let began := due - frameTime half command.byteLength
    began ≤ now && now < due && inGapAt (frameBits (command.wire challenge)) half (now - began)
  | _ => false

/-- The drive output's level for a carrier that is on, or is off or in a gap. -/
def Polarity.level (p : Polarity) (on : Bool) : Bool :=
  match p with
  | .normal => on
  | .inverted => !on

/-- The antenna drive output: the carrier runs under the polarity it started with. Without one it stands at the
carrier-off level of the polarity in force. -/
def State.antennaHigh (s : State) (l : LaneId) (now : Nat) : Bool :=
  match (s.lane l).carrier with
  | none => (s.params.polarity.get l).level false
  | some c => c.polarity.level (!(s.lane l).inGap now)

/-! ## The sounder (R162) -/

/-- The parts of a tone that sound, from the first millisecond of each to its end: REFUSE is three tones with gaps. -/
def Tone.spans : Tone → List (Nat × Nat)
  | .accept => [(0, 150)]
  | .refuse => [(0, 80), (160, 240), (320, 400)]
  | .alarm => [(0, 1000)]

/-- How long ago the tone began. -/
def Sounding.elapsed (q : Sounding) (now : Nat) : Nat := now + msec q.tone.length - q.due

/-- The tone sounds at that moment, and is not in a gap of it. -/
def Sounding.sounds (q : Sounding) (now : Nat) : Bool :=
  q.tone.spans.any fun p => msec p.1 ≤ q.elapsed now && q.elapsed now < msec p.2

/-- The sounder's drive: the square wave of the tone's pitch while the tone sounds, its first half period high
(assumption 45). -/
def Sounding.level (q : Sounding) (now : Nat) : Bool :=
  q.sounds now && q.elapsed now * 2 * q.pitch / (1000 * Config.unitsPerMs) % 2 = 0

end Sys2Proof.Machine
end

