-- ==== Sys2Proof/Machine/Link.lean ====
section
/-! DEFINITION. The Presence Scanner and the Lane Readers' card link: rounds, measurements, the start of a dialogue,
frames, answers, waits, the removal watch (02), and the dialogue's phases between them (03). -/

namespace Sys2Proof.Machine

open Sys2Proof

/-! ## The Presence Scanner (R15 to R22) -/

/-- The carrier started now, with the increment and polarity in force (R17, R23, R24). -/
def State.carrierNow (s : State) (l : LaneId) : Carrier := ⟨s.params.increment.get l, s.params.polarity.get l, s.timeBase⟩

/-- The measurement of the next lane of the round begins (R15, R17). -/
def State.measureNext (s : State) : State :=
  match s.scanner.rest with
  | [] => { s with scanner := { s.scanner with measuring := none } }
  | l :: rest =>
    let s := s.updLane l fun x => { x with carrier := some (s.carrierNow l) }
    { s with scanner :=
        { s.scanner with rest := rest, measuring := some ⟨l, false, s.timeBase + usec 60, false⟩ } }

/-- A round starts at that time, with the period in force from then on (R15, R16). -/
def State.startRound (s : State) (start : Nat) : State :=
  State.measureNext
    { s with scanner :=
        { round := some ⟨start, msec s.params.scanPeriod⟩
          rest := LaneId.all.filter fun l => (s.lane l).field = .sniff
          measuring := none } }

/-- R15: the first round at once, each later one a period after the last. -/
def execScanRoundStart (s : State) : Host.Outcome State Fault Refusal :=
  .next (s.event fun s =>
    if s.scanner.measuring.isSome then s
    else
      match s.scanner.round with
      | none => s.startRound s.timeBase
      | some r => s.onDue (r.start + r.period) fun s => s.startRound (r.start + r.period))

/-- R17: the settle time ends and the conversion begins. -/
def execSettleEnd (s : State) : Host.Outcome State Fault Refusal :=
  .next (s.event fun s =>
    match s.scanner.measuring with
    | none => s
    | some m =>
      if m.converting then s
      else
        s.onDue m.due fun s =>
          { s with scanner :=
              { s.scanner with measuring := some { m with converting := true, due := s.timeBase + usec 40 } } })

/-- The reading of a load given in 1/256ths of a step: the nearest whole step, halves up, held at 1023 (R17). -/
def readingOf (load : Nat) : Nat := min 1023 ((load + 128) / 256)

/-- A lane may start a dialogue (R21). -/
def State.mayStart (s : State) (l : LaneId) : Bool :=
  let x := s.lane l
  (x.pc = .closed || x.pc = .opened) && x.dialogue.isNone && x.credits.length < Config.creditLimit &&
    Config.dialogueReservation ≤ s.journal.openRoom

/-- The context of a dialogue that starts now (R35, R37). -/
def State.newDialogue (s : State) (l : LaneId) : Dialogue :=
  let x := s.lane l
  { direction := if x.mode = .exit then .exit else .entry
    deadline := s.instant + s.params.dialogueWindow
    phase := .select
    command := none
    sendings := 0
    outstanding := none
    identity := none
    known := false
    claimHeld := false
    cardKey := none
    challenge := none
    recordArea := []
    screen := none
    transaction := none
    pricing := none
    image := none
    expected := none
    writeSent := false
    degradedNote := x.degraded
    outcome := none
    verified := false
    isSealed := false
    decidedAt := none
    byAbort := false
    reserved := Config.dialogueReservation
    tag := x.nextTag }

/-- A dialogue starts: 4 places reserved, the field ON, the context made, the power-up hold of 2 ms (R21). The noise
measurement in the hold begins with it (assumption 46). -/
def State.startDialogue (s : State) (l : LaneId) : State :=
  let d := s.newDialogue l
  let carrier := s.carrierNow l
  let s := s.setReserved (s.journal.reserved + Config.dialogueReservation)
  s.onLane l fun p tb x =>
    { x with
      field := .on
      carrier := some carrier
      link := .hold (tb + msec 2) p.noiseThreshold
      dialogue := some d
      nextTag := x.nextTag + 1
      watch := none
      waitRequest := false
      inProgress := true }

/-- Presence detected (R21, R22, R181). -/
def State.detect (s : State) (l : LaneId) : State :=
  if s.mayStart l then s.startDialogue l
  else
    let short := s.journal.openRoom < Config.dialogueReservation
    s.updLane l fun x => { x with waitRequest := true, journalFull := if short then true else x.journalFull }

/-- The baseline moves toward the reading by a sixteenth of the difference, truncated toward zero (R20). -/
def track (baseline reading : Nat) : Nat :=
  ((baseline : Int) + Int.tdiv ((reading : Int) - (baseline : Int)) 16).toNat

/-- What a completed reading does (R19, R20). -/
def State.takeReading (s : State) (l : LaneId) (reading : Nat) : State :=
  let x := s.lane l
  if x.learning then s.updLane l fun x => { x with baseline := reading, learning := false, waitRequest := false }
  else if s.params.detectDelta ≤ ((reading : Int) - (x.baseline : Int)).natAbs then s.detect l
  else s.updLane l fun x => { x with baseline := track x.baseline reading, waitRequest := false }

/-- R17, R18: the pulse's carrier stops, the reading is taken or discarded, the next lane is measured. -/
def execConversionEnd (load : Nat) (s : State) : Host.Outcome State Fault Refusal :=
  .next (s.event fun s =>
    match s.scanner.measuring with
    | none => s
    | some m =>
      if m.converting then
        s.onDue m.due fun s =>
          let s :=
            if m.left then s
            else (s.updLane m.lane fun x => { x with carrier := none }).takeReading m.lane (readingOf load)
          s.measureNext
      else s)

/-! ## Noise (R29) -/

/-- The runs and the DEGRADED flag after a measurement. -/
def Lane.noise (threshold : Nat) (level : Byte) (x : Lane) : Lane :=
  let noisy := threshold < level.toNat
  if x.degraded then
    if noisy then { x with quietRun := 0 }
    else if x.quietRun + 1 < 16 then { x with quietRun := x.quietRun + 1 }
    else { x with degraded := false, noisyRun := 0, quietRun := 0 }
  else if noisy then
    if x.noisyRun + 1 < 4 then { x with noisyRun := x.noisyRun + 1 }
    else { x with degraded := true, noisyRun := 0, quietRun := 0 }
  else { x with noisyRun := 0 }

/-- A measurement is taken, under the threshold in force as it began: a change of DEGRADED raises LANE (R29), a DEGRADED
lane sets its dialogue's note (R30). -/
def State.takeNoise (s : State) (l : LaneId) (threshold : Nat) (level : Byte) : State :=
  let before := s.lane l
  let after := before.noise threshold level
  let s := s.setLane l after
  let s := if before.degraded = after.degraded then s else s.raise .lane
  if after.degraded then s.updDialogue l fun d => { d with degradedNote := true } else s

/-! ## Frames (R24 to R26, R30, R40) -/

/-- A noise measurement of 200 µs begins, with the threshold in force (R29). -/
def Lane.measureNoise (p : Parameters) (tb : Nat) (c : CardCommand) (x : Lane) : Lane :=
  { x with link := .noise (tb + usec 200) c p.noiseThreshold }

/-- A command of the dialogue is sent for the first time, after its noise measurement (R26). -/
def State.sendCommand (s : State) (l : LaneId) (c : CardCommand) : State :=
  let s := s.updDialogue l fun d => { d with command := some c, sendings := 1 }
  s.onLane l fun p tb x => x.measureNoise p tb c

/-- A frame begins at the rate in force, and the response wait that follows it is fixed with it (R25, R30). -/
def State.beginFrame (s : State) (l : LaneId) (c : CardCommand) : State :=
  let x := s.lane l
  let wait := s.params.responseWait * (if x.degraded then 2 else 1)
  s.onLane l fun _ tb x =>
    { x with link := .sending (tb + frameTime x.degraded c.byteLength) c x.degraded (msec wait) }

/-- What the first bit of a command's frame does besides: an AUTH takes a challenge (R8, R76), a WRITE PURSE counts as
sent (R40), a PROBE sets the time of the next one (R32). -/
def State.firstBit (s : State) (l : LaneId) (c : CardCommand) : State :=
  match c with
  | .auth => s.takeChallenge l
  | .writePurse _ => s.updDialogue l fun d => { d with writeSent := true }
  | .probe =>
    s.updLane l fun x => { x with watch := x.watch.map fun w => { w with probeAt := some (s.instant + 20) } }
  | _ => s

/-- R21, R29: the hold ends with its noise measurement, and the first SELECT is sent. -/
def execPowerUpHoldEnd (l : LaneId) (level : Byte) (s : State) : Host.Outcome State Fault Refusal :=
  .next (s.event fun s =>
    match (s.lane l).link with
    | .hold due threshold =>
      s.onDue due fun s =>
        let s := (s.takeNoise l threshold level).updDialogue l fun d => { d with command := some .select, sendings := 1 }
        s.beginFrame l .select
    | _ => s)

/-- R29, R40: the measurement ends and its frame begins. -/
def execNoiseMeasurementEnd (l : LaneId) (level : Byte) (s : State) : Host.Outcome State Fault Refusal :=
  .next (s.event fun s =>
    match (s.lane l).link with
    | .noise due c threshold =>
      s.onDue due fun s => ((s.takeNoise l threshold level).firstBit l c).beginFrame l c
    | _ => s)

/-- R25: the last bit is sent and the response wait opens. -/
def execFrameSent (l : LaneId) (s : State) : Host.Outcome State Fault Refusal :=
  .next (s.event fun s =>
    match (s.lane l).link with
    | .sending due _ half wait =>
      s.onDue due fun s => s.onLane l fun _ tb x => { x with link := .waiting (tb + wait) half }
    | _ => s)

/-- R25: a start pattern within the wait; in the removal watch it answers the PROBE (R32). The row falls on the answer's
first bit (assumption 42). -/
def execAnswerStart (l : LaneId) (s : State) : Host.Outcome State Fault Refusal :=
  .next (s.event fun s =>
    match (s.lane l).link with
    | .waiting due half =>
      if s.timeBase ≤ due then
        s.onLane l fun _ tb x =>
          { x with link := .receiving tb half, watch := x.watch.map fun w => { w with misses := 0 } }
      else s
    | _ => s)

/-! ## Answers of the dialogue (R1 to R11, R41 to R46, R52, R53) -/

/-- The command has failed (R27): LOST, or UNCERTAIN once the write was sent. -/
def State.commandFailed (s : State) (l : LaneId) (d : Dialogue) : State :=
  s.endDialogue l (if d.writeSent then .uncertain else .lost) false

/-- No answer, or a bad one: the command is sent again, at most three times in all (R26). -/
def State.noAnswer (s : State) (l : LaneId) (d : Dialogue) (c : CardCommand) : State :=
  if d.sendings < 3 then
    let s := s.updDialogue l fun d => { d with sendings := d.sendings + 1 }
    s.onLane l fun p tb x => x.measureNoise p tb c
  else s.commandFailed l d

/-- The identity examination (R3): IDENTIFY follows, or FORMAT; a valid number with a bad block size is known
(R42). -/
def State.examineIdentity (s : State) (l : LaneId) (i : Identity) : State :=
  let sized := i.blockSize = 16 || i.blockSize = 32
  let s := s.updDialogue l fun d =>
    { d with phase := .identify, identity := some i, known := validCard i.card && !sized }
  if validCard i.card && sized then s.sendCommand l (.identify i.card) else s.endDialogue l .format false

/-- The card is bound, and CLAIM follows (R42, R43, R107). -/
def State.bindCard (s : State) (l : LaneId) : State :=
  s.updDialogue l fun d =>
    { d with
      phase := .claim
      known := true
      command := none
      outstanding := some (.claim (s.timeBase + usec 2) s.now) }

/-- An AUTH ANSWER goes to the engine with the challenge as last sent (R8, R45). -/
def State.checkAnswer (s : State) (l : LaneId) (d : Dialogue) (f : AnswerFrame) : State :=
  s.askEngine l (.authCheck (BitVec.ofNat 64 (fieldAt (frameFields f) 0 8)) (d.challenge.getD 0#64) d.card)

/-- A block arrives: the next one is asked for, or the images are examined (R4 to R6, R46). -/
def State.takeBlock (s : State) (l : LaneId) (d : Dialogue) (index : Nat) (f : AnswerFrame) : State :=
  let size := match d.identity with | none => 16 | some i => i.blockSize
  let area := patch d.recordArea (index * size) ((frameFields f).drop 1)
  let s := s.updDialogue l fun d => { d with recordArea := area, command := none }
  if (index + 1) * size < 64 then s.sendCommand l (.read (index + 1))
  else if productPasses (productImage area) && pursePasses (purseImage area) then
    (s.updDialogue l fun d => { d with phase := .verify }).askEngine l (.verify (productImage area) (purseImage area))
  else s.endDialogue l .format false

/-- A PURSE ACK: CONFIRM with the expected counter, UNCERTAIN with any other (R11, R52, R53). -/
def State.takeAck (s : State) (l : LaneId) (d : Dialogue) (f : AnswerFrame) : State :=
  if d.expected = some (fieldAt (frameFields f) 0 2) then
    let image := d.image.getD []
    let s := s.confirmImage d.card ⟨purseCounter image, purseCheck image⟩
    let s := s.updDialogue l fun d => { d with phase := .confirm, command := none, outstanding := some .journal }
    s.enqueue ⟨d.fareRecord l d.direction.fareKind .accept s.now, .dialogue l, .grant l⟩
  else s.endDialogue l .uncertain false

/-- A good answer is taken by the phase it belongs to. -/
def State.takeAnswer (s : State) (l : LaneId) (d : Dialogue) (c : CardCommand) (f : AnswerFrame) : State :=
  match c with
  | .select => s.examineIdentity l (identityOf f)
  | .identify _ => s.bindCard l
  | .auth => (s.updDialogue l fun d => { d with command := none }).checkAnswer l d f
  | .read index => s.takeBlock l d index f
  | .writePurse _ => s.takeAck l d f
  | .probe => s

/-- The card's block size, which fixes the length of a READ ANSWER (R1). -/
def Dialogue.blockSize (d : Dialogue) : Nat :=
  match d.identity with
  | none => 0
  | some i => i.blockSize

/-- What was received is a collision, a bad answer or a good one (R1, R31). -/
def State.judgeAnswer (s : State) (l : LaneId) (d : Dialogue) (a : Reception) : State :=
  match d.command with
  | none => s
  | some c =>
    match a with
    | .overlapped _ => if d.phase = .select then s.endDialogue l .multiple false else s.noAnswer l d c
    | .single f => if goodAnswer c d.blockSize f then s.takeAnswer l d c f else s.noAnswer l d c

/-! ## The removal watch (R32, R33) -/

/-- A PROBE goes out, after its noise measurement. -/
def Lane.probe (p : Parameters) (tb : Nat) (x : Lane) : Lane :=
  { x.measureNoise p tb .probe with
    watch := x.watch.map fun w => { w with probeAt := none, owed := false } }

/-- The end of a PROBE's wait or answer: a PROBE that is owed goes out. -/
def Lane.probeDone (p : Parameters) (tb : Nat) (x : Lane) : Lane :=
  let x := { x with link := .idle }
  if x.watch.any RemovalWatch.owed then x.probe p tb else x

/-- R32: the timer runs out; while the last PROBE's wait is still open the PROBE is owed, and so it is while the link is
busy in any other way, which R32 does not name (DEDUCED, unsafe: assumption 14). R32 and R29 do not say whether
the PROBE or its noise measurement begins then: the model begins the measurement, and the PROBE's first bit follows
0.2 ms later (assumption 49). -/
def execProbeTimerExpiry (l : LaneId) (s : State) : Host.Outcome State Fault Refusal :=
  .next (s.event fun s =>
    match (s.lane l).watch with
    | none => s
    | some w =>
      if w.probeAt.any fun t => t ≤ s.instant then
        if (s.lane l).link = .idle then s.onLane l fun p tb x => x.probe p tb
        else s.updLane l fun x => { x with watch := some { w with probeAt := none, owed := true } }
      else s)

/-- An unanswered PROBE: a miss, and removal is confirmed at the third (R33). -/
def Lane.miss (p : Parameters) (tb : Nat) (w : RemovalWatch) (x : Lane) : Lane :=
  if w.misses + 1 < 3 then Lane.probeDone p tb { x with watch := some { w with misses := w.misses + 1 } }
  else Lane.enterSniff { x with watch := none, link := .idle }

/-- R32. -/
def execProbeWaitExpiry (l : LaneId) (s : State) : Host.Outcome State Fault Refusal :=
  .next (s.event fun s =>
    match (s.lane l).watch, (s.lane l).link with
    | some w, .waiting due _ => s.onDue due fun s => s.onLane l fun p tb x => x.miss p tb w
    | _, _ => s)

/-! ## Rows of the answers -/

/-- The gain step moves one step toward the target (R28). -/
def Lane.adjustGain (target : Nat) (peak : Byte) (x : Lane) : Lane :=
  if target + 8 < peak.toNat then { x with gain := x.gain - 1 }
  else if peak.toNat + 8 < target then { x with gain := min 31 (x.gain + 1) }
  else x

/-- The bytes received until the answer, or the last of several, ended. -/
def receptionLength : Reception → Nat
  | .single f => f.bytes.length
  | .overlapped bytes => bytes

/-- An answer received whole moves the gain step, and goes to the dialogue or the removal watch (R1, R28, R32). -/
def State.takeReception (s : State) (l : LaneId) (peak : Byte) (a : Reception) : State :=
  let s := s.onLane l fun p _ x => { x.adjustGain p.gainTarget peak with link := .idle }
  match (s.lane l).dialogue with
  | some d => s.judgeAnswer l d a
  | none => s.onLane l fun p tb x => x.probeDone p tb

/-- R1, R28: the last bit comes a frame time after the first, at the rate of the command (R30). -/
def execAnswerReceived (l : LaneId) (peak : Byte) (a : Reception) (s : State) : Host.Outcome State Fault Refusal :=
  .next (s.event fun s =>
    match (s.lane l).link with
    | .receiving start half => s.onDue (start + frameTime half (receptionLength a)) fun s => s.takeReception l peak a
    | _ => s)

/-- R26: no start pattern within the wait. -/
def execResponseWaitExpiry (l : LaneId) (s : State) : Host.Outcome State Fault Refusal :=
  .next (s.event fun s =>
    match (s.lane l).link, (s.lane l).dialogue with
    | .waiting due _, some d =>
      match d.command with
      | none => s
      | some c => s.onDue due fun s => (s.updLane l fun x => { x with link := .idle }).noAnswer l d c
    | _, _ => s)

/-- R39: the deadline has come and no WRITE PURSE has been sent. -/
def Dialogue.overdue (d : Dialogue) (now : Int) : Bool :=
  d.outcome.isNone && !d.writeSent && !d.granting && d.deadline ≤ now

def execDialogueDeadlineExpiry (l : LaneId) (s : State) : Host.Outcome State Fault Refusal :=
  .next (s.event fun s =>
    match (s.lane l).dialogue with
    | none => s
    | some d => if d.overdue s.instant then s.endDialogue l .tooSlow false else s)

/-! ## Answers of the shared blocks (R44, R45, R47, R48, R51, R55, R79) -/

/-- The result of an operation at its completion goes to its dialogue (R75). -/
def State.deliver (s : State) (l : LaneId) (op : AeOperation) (store : WorkingStore) : State :=
  let s := s.setOutstanding l none
  match op, store with
  | .derive card _, .key k =>
    (s.updDialogue l fun d => { d with cardKey := some (Config.deriveKey k card) }).sendCommand l .auth
  | .derive _ _, .keyRetired => s.endDialogue l .keyRetired false
  | .derive _ _, .keyUnknown => s.endDialogue l .keyUnknown false
  | .authCheck answer challenge card, .key k =>
    if answer = authAnswerOf k challenge card then
      (s.updDialogue l fun d => { d with phase := .read }).sendCommand l (.read 0)
    else s.endDialogue l .authFail false
  | .verify product purse, .key k =>
    if productCheckOf k product = productCheck product ∧ purseCheckOf k purse = purseCheck purse then
      (s.updDialogue l fun d => { d with verified := true }).askScreen l
    else s.endDialogue l .checkFail false
  | .seal image, .key k =>
    let image := sealImage k image
    (s.updDialogue l fun d => { d with phase := .write, image := some image, isSealed := true }).sendCommand l
      (.writePurse image)
  | _, _ => s

/-- The dialogue with that tag still waits for the engine (R79). -/
def Dialogue.awaitsEngine (d : Dialogue) (tag : Nat) : Bool :=
  d.tag = tag && d.outcome.isNone && d.outstanding = some .engine

/-- The operation completes: the engine is free and grants the next request, and the result is delivered or
discarded (R77, R79). -/
def State.completeOperation (s : State) (v : AeService) : State :=
  let s := State.grantNext { s with engine := { s.engine with service := none } }
  if (s.lane v.lane).dialogue.any fun d => d.awaitsEngine v.tag then s.deliver v.lane v.operation v.store else s

/-- R79. -/
def execAeOperationComplete (s : State) : Host.Outcome State Fault Refusal :=
  .next (s.event fun s =>
    match s.engine.service with
    | none => s
    | some v => s.onDue v.completes fun s => s.completeOperation v)

/-- The regrant path: the REGRANT record, then GRANT (R55). -/
def State.regrantPath (s : State) (l : LaneId) (d : Dialogue) : State :=
  let s := s.updDialogue l fun d =>
    { d with phase := .grant, screen := some .regrant, outstanding := some .journal }
  s.enqueue ⟨d.regrantRecord l s.now, .dialogue l, .grant l⟩

/-- The dialogue takes the answer of its screen; one whose outcome is decided goes on to RELEASE (R48, R56). -/
def State.takeScreen (s : State) (l : LaneId) (d : Dialogue) (a : ScreenAnswer) : State :=
  let s := s.setOutstanding l none
  if d.outcome.isSome then s.beginRelease l
  else
    match a with
    | .pass => (s.updDialogue l fun d => { d with screen := some .pass }).startPrice l
    | .regrant => s.regrantPath l d
    | .denied => s.endDialogue l .denied false
    | .clone => s.endDialogue l .clone false
    | .suspect => s.endDialogue l .suspect false
    | .passback => s.endDialogue l .passback false

/-- R48, R119: 2 µs after the checks, and not before a RESOLVED record of the screen is written (R123). -/
def execScreenAnswer (l : LaneId) (s : State) : Host.Outcome State Fault Refusal :=
  .next (s.event fun s =>
    match (s.lane l).dialogue with
    | none => s
    | some d =>
      match d.outstanding with
      | some (.screened a due) =>
        if s.awaitsRecord (.screen l) then s else s.onDue due fun s => s.takeScreen l d a
      | _ => s)

end Sys2Proof.Machine
end

