-- ==== Sys2Proof/Machine/Passage.lean ====
section
/-! DEFINITION. The Passage Controllers' rows: lane modes and lane orders, beam events, credits' expiries, strokes, the
emergency input, displays and tones (07). -/

namespace Sys2Proof.Machine

open Sys2Proof

/-! ## Lane modes (R135, R136) -/

/-- An in-service mode: the leaves are settled from OUT, FREE is left, any other state is kept; the field returns to
SNIFF and the closing test is made (R136, R13). -/
def Lane.intoService (p : Parameters) (tb : Nat) (x : Lane) : Lane :=
  let x :=
    match x.pc with
    | .out => x.settle p tb
    | .free => x.leaveFree
    | _ => x
  x.serviceField.closingTest p tb

/-- The state after a lane left service for mode OUT (R136). -/
def Lane.intoOut (p : Parameters) (tb : Nat) (x : Lane) : Lane :=
  let x :=
    match x.pc with
    | .closed => { x with pc := .out }
    | .free => x.leaveFree
    | _ => x
  x.closingTest p tb

/-- Setting the mode takes the lane out of service while its dialogue is in CONFIRM or GRANT. -/
def State.modeCutsGrant (s : State) (l : LaneId) (mode : LaneMode) : Bool :=
  (s.lane l).mode ≠ mode && (s.lane l).pc ≠ .fault && (mode = .out || mode = .free) && s.granting l

/-- A mode that passed R135 is set and acted on (R136); a mode the lane already has changes nothing. -/
def State.applyMode (s : State) (l : LaneId) (mode : LaneMode) : State :=
  if (s.lane l).mode = mode then s
  else if (s.lane l).pc = .fault then s.updLane l fun x => { x with mode := mode }
  else
    match mode with
    | .out =>
      let s := s.updLane l fun x => { x with mode := .out }
      (s.leaveService l).onLane l Lane.intoOut
    | .free =>
      let s := s.updLane l fun x => { x with mode := .free }
      (s.leaveService l).onLane l Lane.enterFree
    | .entry => (s.updLane l fun x => { x with mode := .entry }).onLane l Lane.intoService
    | .exit => (s.updLane l fun x => { x with mode := .exit }).onLane l Lane.intoService

/-- A change between ENTRY and EXIT (R135, check 4). -/
def Lane.changesDirection (x : Lane) (mode : LaneMode) : Bool :=
  (x.mode = .entry && mode = .exit) || (x.mode = .exit && mode = .entry)

/-- The first failing check of R135, if any. -/
def State.modeRefusal (s : State) (l : LaneId) (mode : LaneMode) : Option OrderCode :=
  let x := s.lane l
  if x.mode = mode then none
  else if s.emergency.asserted ∧ mode ≠ .free then some .busy
  else if (mode = .entry ∨ mode = .exit) ∧ s.orders.ready.all = false then some .notReady
  else if x.changesDirection mode ∧ (x.credits ≠ [] ∨ x.passage.isSome ∨ x.dialogue.isSome) then some .busy
  else none

/-- The order's checks, and its effect, which waits for a grant that it would cut (R53, R135, R136). -/
def State.setLaneMode (s : State) : State :=
  s.withOrder 9 fun o =>
    match LaneId.ofNat? (o.arg 0 1), LaneMode.ofCode? (o.arg 1 1) with
    | some l, some mode =>
      match s.modeRefusal l mode with
      | some code => s.answer o false code noData
      | none =>
        if s.modeCutsGrant l mode then s.defer .setLaneMode
        else (s.applyMode l mode).answer o true .none (.laneNow l)
    | _, _ => s.answer o false .argument noData

/-- R135, R136. -/
def execSetLaneMode (s : State) : Host.Outcome State Fault Refusal := .next (s.event State.setLaneMode)

/-! ## RESET LANE and CLEAR LANE COUNTS (R159, R149) -/

/-- Step 3 of R159 and R34: fault cause, obstruction run, gain, noise runs, DEGRADED. -/
def Lane.clearFault (x : Lane) : Lane :=
  { x with
    faultCause := .none
    obstructionRun := 0
    gain := 16
    noisyRun := 0
    quietRun := 0
    degraded := false }

/-- Step 4 of R159. A BRAKE that runs when the open limit is active in mode FREE runs on (R151). -/
def Lane.restore (p : Parameters) (tb : Nat) (x : Lane) : Lane :=
  if x.mode = .free then
    if x.openLimit then x.restFree else x.openFree p tb
  else (x.settle p tb).serviceField

/-- The four steps of R159. -/
def State.resetLane (s : State) (l : LaneId) : State :=
  let s := s.leaveService l
  let s := if (s.lane l).degraded then s.raise .lane else s
  (s.updLane l Lane.clearFault).onLane l Lane.restore

/-- The order's check, and its effect, which waits for a grant at the lane; the result data gives the state after
step 4 (R53, R159). -/
def State.resetLaneOrder (s : State) : State :=
  s.withOrder 10 fun o =>
    match LaneId.ofNat? (o.arg 0 1) with
    | none => s.answer o false .argument noData
    | some l =>
      if s.granting l then s.defer .resetLane
      else
        let s := s.resetLane l
        s.answer o true .none (.bytes (s.lane l).modeAndState)

/-- R159. -/
def execResetLane (s : State) : Host.Outcome State Fault Refusal := .next (s.event State.resetLaneOrder)

/-- R149. -/
def execClearLaneCounts (s : State) : Host.Outcome State Fault Refusal :=
  .next (s.event fun s => s.withOrder 11 fun o =>
    match LaneId.ofNat? (o.arg 0 1) with
    | none => s.answer o false .argument noData
    | some l =>
      (s.updLane l fun x => { x with tailgate := 0, intrusion := 0, stuck := 0, obstruction := 0 }).answer o true
        .none noData)

/-! ## Beam events (R138, R142 to R148, R150) -/

/-- The debounce time in force for an input change that began at that moment: the last one taken before it (R138). -/
def State.debounceAt (s : State) (began : Nat) : Nat :=
  match s.debounceLog.find? fun e => e.1 < began with
  | none => Parameters.default.debounce
  | some e => e.2

/-- Passages are followed in OPENING and OPEN with mode ENTRY or EXIT (07 section 7.5). -/
def Lane.follows (x : Lane) : Bool := (x.pc = .opening || x.pc = .opened) && x.inServiceMode

/-- The approach side becoming BLOCKED (R142, R147). -/
def State.approach (s : State) (l : LaneId) : State :=
  let x := s.lane l
  if x.credits.any Credit.isWaiting then
    s.updLane l fun x =>
      Lane.startPassage s.params s.instant { x with credits := useOldestWaiting s.instant false x.credits }
  else if (x.credits.any fun c => !c.isWaiting) ∧ x.beams.middle = .blocked then s.alarm l .tailgate
  else s

/-- The far side becoming BLOCKED (R144, R148). -/
def State.farReached (s : State) (l : LaneId) : State :=
  let x := s.lane l
  if x.passage = none then s.alarm l .intrusion
  else if x.credits.any Credit.onTheWay then s.updLane l fun x => { x with credits := markOldestFar x.credits }
  else s.updLane l fun x => { x with credits := useOldestWaiting s.instant true x.credits }

/-- The middle group becoming BLOCKED (R148, R150). -/
def State.middleBlocked (s : State) (l : LaneId) : State :=
  match (s.lane l).pc with
  | .closed => s.alarm l .intrusion
  | .closing => s.onLane l Lane.startOpening
  | _ => s

/-- All three groups CLEAR end a passage: those at the far side end PASSED, the others are withdrawn (R145). -/
def State.endPassage (s : State) (l : LaneId) : State :=
  let x := s.lane l
  if x.passage.isSome ∧ x.beams.allClear = true then
    let passed := x.credits.filter Credit.reachedFar
    let kept := (x.credits.filter fun c => !c.reachedFar).map (Credit.withdraw s.instant)
    ((s.updLane l fun x => { x with credits := kept, passage := none }).endCredits l .passed passed).onLane l
      Lane.closingTest
  else s

/-- A group's change of state and what it does. -/
def State.beamChange (s : State) (l : LaneId) (g : BeamGroup) (v : Beam) : State :=
  let s := s.onLane l fun _ tb x => { x with beams := x.beams.set g v, beamSince := x.beamSince.set g tb }
  let x := s.lane l
  match v with
  | .blocked =>
    if g = .middle then s.middleBlocked l
    else if x.follows then
      if x.mode.approach = some g then s.approach l
      else if x.mode.farSide = some g then s.farReached l
      else s
    else s
  | .clear =>
    let s := s.endPassage l
    if g = .middle then s.onLane l Lane.closingTest else s

/-- R138: the input has read the other value for the debounce time in force when the change began. It began no earlier
than the group's last change, so the event falls `held` ms after that at the earliest (R165, assumption 21). -/
def execBeamEvent (l : LaneId) (g : BeamGroup) (v : Beam) (held : Nat) (s : State) :
    Host.Outcome State Fault Refusal :=
  .next (s.event fun s =>
    let due := (s.lane l).beamSince.get g + msec held
    if (s.lane l).beams.get g ≠ v ∧ s.debounceAt (max s.timeBase due - msec held) ≤ held then
      s.onDue due fun s => s.beamChange l g v
    else s)

/-! ## Timers of the lane (R140, R146) -/

/-- The credit is WAITING with that sequence and its expiry has come. -/
def Credit.expired (now : Int) (sequence : Word) (c : Credit) : Bool :=
  match c.state with
  | .waiting expiry => c.sequence = sequence && expiry ≤ now
  | .inUse _ _ => false

/-- R140. -/
def execCreditExpiry (l : LaneId) (sequence : Word) (s : State) : Host.Outcome State Fault Refusal :=
  .next (s.event fun s =>
    match (s.lane l).credits.find? (Credit.expired s.instant sequence) with
    | none => s
    | some c =>
      ((s.updLane l fun x => { x with credits := x.credits.erase c }).endCredit l .lapsed c).onLane l
        Lane.closingTest)

/-- R146. -/
def execStuckTimerExpiry (l : LaneId) (s : State) : Host.Outcome State Fault Refusal :=
  .next (s.event fun s =>
    match (s.lane l).passage with
    | some ⟨some due⟩ =>
      if due ≤ s.instant then (s.updLane l fun x => { x with passage := some ⟨none⟩ }).alarm l .stuck else s
    | _ => s)

/-! ## Strokes (R151 to R154) -/

/-- R151: BOOST ends and RUN follows. -/
def execBoostEnd (l : LaneId) (s : State) : Host.Outcome State Fault Refusal :=
  .next (s.event fun s =>
    match (s.lane l).drive with
    | .stroke toward (some due) timeout brakeMs =>
      s.onDue due fun s => s.updLane l fun x => { x with drive := .stroke toward none timeout brakeMs }
    | _ => s)

/-- The stroke is at its limit: BRAKE, or HOLD at once with a brake time of 0 (R151). -/
def brakeAt (tb : Nat) (limit : Limit) (brakeMs : Nat) : Drive :=
  if brakeMs = 0 then .hold limit else .brake limit (tb + msec brakeMs)

/-- What a completed stroke makes of the state (R152), with the closing test at the entry to OPEN (R150). -/
def Lane.strokeDone (p : Parameters) (tb : Nat) (limit : Limit) (x : Lane) : Lane :=
  match limit with
  | .atOpen => if x.pc = .free then x else Lane.closingTest p tb { x with pc := .opened }
  | .atClosed => { x with pc := if x.inServiceMode then .closed else .out, obstructionRun := 0 }

def Lane.setLimit (limit : Limit) (active : Bool) (x : Lane) : Lane :=
  match limit with
  | .atOpen => { x with openLimit := active }
  | .atClosed => { x with closedLimit := active }

/-- R151, R152: the input takes its level, and a stroke toward that limit is complete when it is active. -/
def execLimitSwitchEvent (l : LaneId) (limit : Limit) (active : Bool) (s : State) :
    Host.Outcome State Fault Refusal :=
  .next (s.event fun s =>
    let s := s.updLane l (Lane.setLimit limit active)
    match (s.lane l).drive with
    | .stroke toward _ _ brakeMs =>
      if active = true ∧ toward = limit then
        s.onLane l fun p tb x => Lane.strokeDone p tb limit { x with drive := brakeAt tb limit brakeMs }
      else s
    | _ => s)

/-- R151: BRAKE ends and HOLD follows. -/
def execBrakeEnd (l : LaneId) (s : State) : Host.Outcome State Fault Refusal :=
  .next (s.event fun s =>
    match (s.lane l).drive with
    | .brake limit due => s.onDue due fun s => s.updLane l fun x => { x with drive := .hold limit }
    | _ => s)

/-- An obstruction: the run rises, the alarm is raised, and the leaves reverse or the lane enters FAULT at 3 (R153). -/
def State.obstruct (s : State) (l : LaneId) : State :=
  let run := (s.lane l).obstructionRun + 1
  let s := (s.updLane l fun x => { x with obstructionRun := run }).alarm l .obstruction
  if run < 3 then s.onLane l Lane.startOpening else s.enterFault l .obstruction

/-- An overload of a closing stroke is an obstruction; one that brings a FAULT waits for a grant at the lane
(R53, R153). -/
def State.overload (s : State) (l : LaneId) : State :=
  if (s.lane l).stroking ≠ some .atClosed then s
  else if 2 ≤ (s.lane l).obstructionRun ∧ s.granting l = true then s.defer (.leafOverload l)
  else s.obstruct l

/-- R153. -/
def execLeafOverload (l : LaneId) (s : State) : Host.Outcome State Fault Refusal :=
  .next (s.event fun s => s.overload l)

/-- The lane's stroke has not reached its limit by its 1,000 ms; the FAULT waits for a grant at the lane (R53, R154). -/
def State.strokeOver (s : State) (l : LaneId) : State :=
  match (s.lane l).drive with
  | .stroke _ _ due _ =>
    s.onDue due fun s => if s.granting l then s.defer (.strokeTimeout l) else s.enterFault l .strokeTimeout
  | _ => s

/-- R154. -/
def execStrokeTimeout (l : LaneId) (s : State) : Host.Outcome State Fault Refusal :=
  .next (s.event fun s => s.strokeOver l)

/-! ## The emergency input (R157, R158) -/

/-- The debounce of the emergency input, in milliseconds. -/
def emergencyHold : Nat := 20

/-- Every lane's mode becomes FREE as by SET LANE MODE FREE. R157 gives the lanes no order, and 09 R177 lets records
that are asked for together be taken in either order: the model takes lane 0 first, then 1, 2, 3 (assumption 41). -/
def State.freeEveryLane (s : State) : State :=
  let s := { s with emergency := ⟨true, true, s.timeBase⟩ }
  let s := s.applyMode .lane0 .free
  let s := s.applyMode .lane1 .free
  let s := s.applyMode .lane2 .free
  let s := s.applyMode .lane3 .free
  s.raise .lane

/-- The input has read asserted for 20 ms, measured by the time base (R157, R165); it waits for the grants that it
would cut (R53). -/
def State.emergencyTaken (s : State) (held : Nat) : State :=
  if emergencyHold ≤ held ∧ s.emergency.asserted = false then
    s.onDue (s.emergency.since + msec held) fun s =>
      if LaneId.all.any fun l => s.modeCutsGrant l .free then s.defer (.emergencyAsserted held) else s.freeEveryLane
  else s

/-- R157. -/
def execEmergencyAsserted (held : Nat) (s : State) : Host.Outcome State Fault Refusal :=
  .next (s.event fun s => s.emergencyTaken held)

/-- R158; a first stable reading of released changes nothing the gate computer sees (R157). -/
def execEmergencyReleased (held : Nat) (s : State) : Host.Outcome State Fault Refusal :=
  .next (s.event fun s =>
    if emergencyHold ≤ held ∧ (s.emergency.asserted = true ∨ s.emergency.seen = false) then
      s.onDue (s.emergency.since + msec held) fun s =>
        let released := { s with emergency := ⟨false, true, s.timeBase⟩ }
        if s.emergency.asserted then released.raise .lane else released
    else s)

/-! ## Rows that waited for a grant (R53, R55) -/

def State.takeDeferred (s : State) (row : Deferred) : State :=
  match row with
  | .setLaneMode => s.setLaneMode
  | .resetLane => s.resetLaneOrder
  | .leafOverload l => s.overload l
  | .strokeTimeout l => s.strokeOver l
  | .emergencyAsserted held => s.emergencyTaken held

/-- The rows that waited are taken in their order, each as an event of its own, with its own write of the lane status
blocks (R189); one that still meets a grant waits again. -/
def State.settleDeferred (s : State) : State :=
  s.deferred.foldl (fun s row => s.event fun s => s.takeDeferred row) { s with deferred := [] }

/-! ## Displays and tones (R161, R162) -/

def execTimedDisplayEnd (l : LaneId) (s : State) : Host.Outcome State Fault Refusal :=
  .next (s.event fun s =>
    match (s.lane l).timedDisplay with
    | none => s
    | some d => s.onDue d.due fun s => s.updLane l fun x => { x with timedDisplay := none })

def execToneEnd (l : LaneId) (s : State) : Host.Outcome State Fault Refusal :=
  .next (s.event fun s =>
    match (s.lane l).tone with
    | none => s
    | some t => s.onDue t.due fun s => s.updLane l fun x => { x with tone := none })

end Sys2Proof.Machine
end

