-- ==== Sys2Proof/Machine/Journal.lean ====
section
/-! DEFINITION. The Journal Writer's rows (09), and SET PARAMETERS (10 section 10.7). -/

namespace Sys2Proof.Machine

open Sys2Proof

/-! ## The journal (R175 to R185) -/

/-- What goes on when the record with that sequence is written (R53, R55, R56, R132). -/
def State.afterRecord (s : State) (w : Waiter) (sequence : Word) : State :=
  match w with
  | .grant l => s.grant l sequence
  | .release l => s.finishRelease l
  | .order => s.finishForget
  | .nobody => s
  | .screen _ => s

/-- Write the request at the front of the queue; without a ring no request can be written (assumption 34). -/
def State.writeFront (s : State) : State :=
  match s.journal.queue, s.journal.ring with
  | q :: rest, some r =>
    let sequence := s.journal.written
    let first := s.journal.unconsumed = 0
    let s := s.placeRecord r q.record
    let s := s.useReservation q.holder
    let s := { s with journal := { s.journal with queue := rest, writeDue := s.timeBase + usec 2 } }
    (s.notifyTests r first).afterRecord q.waiter sequence
  | _, _ => s

/-- A grant waits for the request at the front (R53, R55). -/
def Journal.frontGrants (j : Journal) : Bool :=
  match j.queue with
  | [] => false
  | q :: _ =>
    match q.waiter with
    | .grant _ => true
    | _ => false

/-- R177: the request at the front is written, 2 µs after it could begin. Once a grant is complete the rows that waited
for it are taken, each as an event of its own (R53, R55, assumption 10). -/
def execJournalRecordWrite (s : State) : Host.Outcome State Fault Refusal :=
  let t := s.event fun s => if s.journal.queue.isEmpty then s else s.onDue s.journal.writeDue State.writeFront
  .next (if s.journal.frontGrants && t.journal.written != s.journal.written then t.settleDeferred else t)

/-- R185. -/
def execNotifyTimerExpiry (s : State) : Host.Outcome State Fault Refusal :=
  .next (s.event fun s =>
    match s.journal.notifyDue with
    | none => s
    | some due =>
      s.onDue due fun s => State.raise { s with journal := { s.journal with notifyDue := none } } .journal)

/-- An accepted advance: the tally, then the notify timer (R182, R185). -/
def State.acceptTally (s : State) (v : Word) : State :=
  let s := { s with journal := { s.journal with consumed := v } }
  match s.journal.ring with
  | none => s
  | some r =>
    if s.journal.unconsumed = 0 then { s with journal := { s.journal with notifyDue := none } }
    else s.startNotify r.delay

/-- The value the word holds is accepted, or the accepted value is written back (R182, R183). -/
def State.judgeTally (s : State) : State :=
  let v : Word := BitVec.ofNat 16 (Memory.readNat s.mem 0x12 2)
  if (v - s.journal.consumed).toNat ≤ s.journal.unconsumed then s.acceptTally v
  else (s.writeMem 0x12 (leBytes 2 s.journal.consumed.toNat)).recordHeld 0x12

/-- R182: one waiting event of the consumed tally is taken. -/
def execConsumedTallyEvent (s : State) : Host.Outcome State Fault Refusal :=
  .next (s.event fun s =>
    if s.orders.tallyEvents = 0 then s
    else State.judgeTally { s with orders := { s.orders with tallyEvents := s.orders.tallyEvents - 1 } })

/-- The ring an order asks for. -/
def OrderInService.ring (o : OrderInService) : Ring := ⟨o.arg 0 4, o.arg 4 2, o.arg 6 2, o.arg 8 2⟩

def Ring.area (r : Ring) : Area := ⟨r.base, 32 * r.size⟩

/-- The failing argument of R175's first two checks: 1 base, 2 size, 3 notify level, 4 notify delay. An area outside the
free region or over a held range may be due to base or size; the model names base (assumption 43). -/
def State.ringFailure (s : State) (r : Ring) : Option Nat :=
  if r.size < 64 ∨ 4096 < r.size then some 2
  else if r.level < 1 ∨ r.size < r.level then some 3
  else if 10000 < r.delay then some 4
  else if r.base % 32 ≠ 0 ∨ r.area.inFree = false ∨ { s.orders.held with ring := none }.overlaps r.area = true then
    some 1
  else none

/-- Steps 1 to 5 of R176. -/
def State.configure (s : State) (r : Ring) : State :=
  let s := s.setHeld { s.orders.held with ring := some r.area }
  let s := { s with journal :=
      { s.journal with ring := some r, position := 0, written := 0#16, consumed := 0#16, notifyDue := none } }
  let s := s.writeMem 0x10 (leBytes 4 0)
  s.setReady fun q => { q with journalConfigured := true }

/-- R175, R176; the open room of the new ring clears JOURNAL FULL as the step is concluded (R181). -/
def execConfigureJournal (s : State) : Host.Outcome State Fault Refusal :=
  .next (s.event fun s => s.withOrder 3 fun o =>
    let r := o.ring
    match s.ringFailure r with
    | some k => s.answer o false .argument (.bytes (leBytes 1 k))
    | none =>
      if s.journal.unconsumed ≠ 0 ∨ s.journal.reserved ≠ 0 then
        s.answer o false .busy (.bytes (leBytes 2 s.journal.unconsumed ++ leBytes 2 s.journal.reserved))
      else (s.configure r).answer o true .none (.bytes (leBytes 4 r.base ++ leBytes 2 r.size)))

/-! ## SET PARAMETERS (R199, R200) -/

/-- R199: the block's place is examined and its reading starts. No word of it is read yet (assumption 52). -/
def execSetParameters (s : State) : Host.Outcome State Fault Refusal :=
  .next (s.event fun s => s.withOrder 2 fun o =>
    let offset := o.arg 0 4
    if offset % 2 = 1 ∨ Area.inFree ⟨offset, 52⟩ = false then s.answer o false .argument noData
    else s.setStage (.readingParameters offset))

/-- A value brought into its range (R200). -/
def clampTo (lo hi v : Nat) : Nat := if v < lo then lo else if hi < v then hi else v

/-- A response wait is raised to the next of its choices (R200). -/
def waitChoice (v : Nat) : Nat := if v ≤ 2 then 2 else if v ≤ 4 then 4 else if v ≤ 8 then 8 else 16

/-- The 23 fields in their order: offset, size, and the value taken for one written (10 section 10.7). -/
def parameterFields : List (Nat × Nat × (Nat → Nat)) :=
  [(0, 2, clampTo 20 500), (2, 2, clampTo 1 255), (4, 2, clampTo 8 247), (6, 2, clampTo 0 255), (8, 2, waitChoice),
   (10, 2, clampTo 150 600), (12, 2, clampTo 0 600), (14, 2, clampTo 0 1800), (16, 4, clampTo 600 86400),
   (20, 2, clampTo 10 100), (22, 2, clampTo 2 30), (24, 2, clampTo 2 30), (26, 2, clampTo 0 255),
   (28, 2, clampTo 0 255), (30, 2, clampTo 1000 4000), (32, 4, clampTo 65617556 69097274),
   (36, 4, clampTo 65617556 69097274), (40, 4, clampTo 65617556 69097274), (44, 4, clampTo 65617556 69097274),
   (48, 1, clampTo 0 1), (49, 1, clampTo 0 1), (50, 1, clampTo 0 1), (51, 1, clampTo 0 1)]

/-- The value written and the value taken of every field of a block. -/
def readParameters (m : List Host.Cell) (base : Nat) : List (Nat × Nat) :=
  parameterFields.map fun f =>
    let v := Memory.readNat m (base + f.1) f.2.1
    (v, f.2.2 v)

def polarityOf (v : Nat) : Polarity := if v = 0 then .normal else .inverted

/-- The parameters from the values taken, by field number. -/
def parametersOf (v : Nat → Nat) : Parameters where
  scanPeriod := v 0
  detectDelta := v 1
  gainTarget := v 2
  noiseThreshold := v 3
  responseWait := v 4
  dialogueWindow := v 5
  regrantGrace := v 6
  passbackInterval := v 7
  uncertaintyLife := v 8
  debounce := v 9
  creditLife := v 10
  maxPassage := v 11
  boost := v 12
  brake := v 13
  tonePitch := v 14
  increment := ⟨v 15, v 16, v 17, v 18⟩
  polarity := ⟨polarityOf (v 19), polarityOf (v 20), polarityOf (v 21), polarityOf (v 22)⟩

/-- The count of clamped fields and the first of them, 255 if none (R200). -/
def clampSummary (fields : List (Nat × Nat)) : List Byte :=
  leBytes 2 (fields.countP fun f => f.1 ≠ f.2) ++
    leBytes 1 ((fields.findIdx? fun f => f.1 ≠ f.2).getD 255)

/-- Every value is handed over at one moment, with the expiries that lowered lives bring about at once (R129, R130,
R200). DESIGN CHOICE, unsafe: all 26 words are read here, at the block's end, so a write between the two rows is always
seen; R199 leaves open when each word is read (assumption 52). -/
def State.takeParameters (s : State) (base : Nat) : State :=
  let fields := readParameters s.mem base
  let p := parametersOf fun i => (fields.getD i (0, 0)).2
  let s := { s with params := p, debounceLog := (s.timeBase, p.debounce) :: s.debounceLog }
  s.expireAtOnce.answerAt s.timeBase true .none (.bytes (clampSummary fields))

/-- R200: the block is read, 2 µs after the order's take. -/
def execParameterBlockReadEnd (s : State) : Host.Outcome State Fault Refusal :=
  .next (s.event fun s =>
    match s.orders.service with
    | none => s
    | some o =>
      match o.stage with
      | .readingParameters base => s.onDue (o.takenAt + usec 2) fun s => s.takeParameters base
      | _ => s)

end Sys2Proof.Machine
end

