-- ==== Sys2Proof/Machine/StartUp.lean ====
section
/-! DEFINITION. Start-up (10 section 10.10), the reset pin, and the gate-computer port with the three registers
(10 sections 10.3, 10.4, 10.5, 10.9). -/

namespace Sys2Proof.Machine

open Sys2Proof

/-! ## Port accesses (R187, R188, R190 to R195) -/

/-- The words that read as zero and are not stored (R188). -/
def zeroAt (a : Nat) : Bool :=
  a = 0x06 || a = 0x07 || (0x18 ≤ a && a ≤ 0x3F) || (0xC0 ≤ a && a ≤ 0xFF)

/-- The byte a gate-computer read is served with (R187). -/
def State.portByte (s : State) (a : Nat) : Byte := if zeroAt a then 0#8 else Memory.read s.mem a

/-- The slot whose state word stands at an even address, if one does. -/
def slotOfWord (a : Nat) : Option (Fin 8) := (List.finRange 8).find? fun k => slotBase k = a

/-- A gate-computer write that reached a watched word raises one event at the word's owner (R193). -/
def State.watch (s : State) (a : Nat) : State :=
  if a = 0x12 then { s with orders := { s.orders with tallyEvents := s.orders.tallyEvents + 1 } }
  else
    match slotOfWord a with
    | none => s
    | some k => { s with orders := { s.orders with watchEvents := s.orders.watchEvents ++ [k] } }

/-- A whole-word write at an even address: not served, discarded, or served and watched (R188, R193, R195). -/
def State.serveWord (s : State) (a : Nat) (v : Word) : State :=
  if zeroAt a then s
  else if s.heldAt a ∨ s.heldAt (a + 1) then s.recordHeld a
  else (s.writeMem a (leBytes 2 v.toNat)).watch a

/-- A single-byte write in 16-bit width (R190, R195). -/
def State.serveByte (s : State) (a : Nat) (v : Byte) : State :=
  if zeroAt a then s
  else if s.heldAt a then s.recordHeld a
  else (s.writeMem a [v]).watch (2 * (a / 2))

def State.setPort (s : State) (f : Port → Port) : State := { s with port := f s.port }

/-- Any access empties the latches, but for the one it completes (R192). -/
def State.clearLatches (s : State) : State := s.setPort fun p => { p with byteLatch := none, readLatch := none }

/-- The byte of a word at an even or odd address. -/
def wordOf (low high : Byte) : Word := high ++ low

/-- A byte write in 8-bit width: a low byte is latched, a high byte completes its word (R192). -/
def State.narrowWrite (s : State) (address : BitVec 18) (v : Byte) : State :=
  let a := address.toNat
  let w : BitVec 17 := BitVec.ofNat 17 (a / 2)
  if a % 2 = 0 then s.setPort fun p => { p with byteLatch := some ⟨w, v⟩, readLatch := none }
  else
    let low :=
      match s.port.byteLatch with
      | some q => if q.word = w then q.byte else s.portByte (a - 1)
      | none => s.portByte (a - 1)
    s.clearLatches.serveWord (a - 1) (wordOf low v)

/-- A word access on the 8-bit port is its low byte and then its high byte (assumption 9). -/
def lowAddress (wordAddress : BitVec 17) : BitVec 18 := BitVec.ofNat 18 (2 * wordAddress.toNat)

def highAddress (wordAddress : BitVec 17) : BitVec 18 := BitVec.ofNat 18 (2 * wordAddress.toNat + 1)

/-- A memory write at the port. -/
def State.portWrite (s : State) (w : PortWrite) : State :=
  match s.port.width, w with
  | .bits16, .word wa v => s.clearLatches.serveWord (2 * wa.toNat) v
  | .bits16, .byte a v => s.clearLatches.serveByte a.toNat v
  | .bits8, .word wa v =>
    (s.narrowWrite (lowAddress wa) (v.setWidth 8)).narrowWrite (highAddress wa) ((v >>> 8).setWidth 8)
  | .bits8, .byte a v => s.narrowWrite a v

/-- A byte read in 8-bit width: a low byte's read keeps the high byte, which the next access may take (R192). -/
def State.narrowRead (s : State) (address : BitVec 18) : State × Byte :=
  let a := address.toNat
  let w : BitVec 17 := BitVec.ofNat 17 (a / 2)
  if a % 2 = 0 then
    (s.setPort fun p => { p with byteLatch := none, readLatch := some ⟨w, s.portByte (a + 1)⟩ }, s.portByte a)
  else
    let v :=
      match s.port.readLatch with
      | some q => if q.word = w then q.byte else s.portByte a
      | none => s.portByte a
    (s.clearLatches, v)

def State.drive (s : State) (data : List Byte) : State := s.setPort fun p => { p with dataOut := data }

/-- The bytes of a register that a read takes. -/
def registerBytes (v : Word) : RegPart → List Byte
  | .word => leBytes 2 v.toNat
  | .low => [v.setWidth 8]
  | .high => [(v >>> 8).setWidth 8]

/-- A read at the port: its bytes stand on the data lines. -/
def State.portRead (s : State) (r : PortRead) : State :=
  match s.port.width, r with
  | _, .register address part => s.clearLatches.drive (registerBytes (s.registerRead address) part)
  | .bits16, .word wa => s.clearLatches.drive [s.portByte (2 * wa.toNat), s.portByte (2 * wa.toNat + 1)]
  | .bits16, .byte a => s.clearLatches.drive [s.portByte a.toNat]
  | .bits8, .word wa =>
    let low := s.narrowRead (lowAddress wa)
    let high := low.1.narrowRead (highAddress wa)
    high.1.drive [low.2, high.2]
  | .bits8, .byte a =>
    let r := s.narrowRead a
    r.1.drive [r.2]

/-- A write to ATTENTION clears each cause whose bit is one (R202). -/
def State.writeAttention (s : State) (w : RegWrite) : State :=
  let kept := s.regs.attention &&& ~~~regBits w
  { s.clearLatches with regs := { s.regs with attention := kept } }

/-- A write to ATTENTION MASK sets the bits it reaches; bits 6 to 15 are not stored (10 section 10.9). -/
def State.writeMask (s : State) (w : RegWrite) : State :=
  let mask := ((s.regs.mask &&& ~~~regEnabled w) ||| regBits w) &&& causeBits
  { s.clearLatches with regs := { s.regs with mask := mask } }

/-- An access begun while the reset pin is asserted waits for the start-up (R191). -/
def State.access (s : State) (a : PortAccess) (f : State → State) : State :=
  if s.sys.resetPin then s.setPort fun p => { p with waiting := p.waiting ++ [a] } else f s

def execGcMemoryWrite (w : PortWrite) (s : State) : Host.Outcome State Fault Refusal :=
  .next (s.access (.write w) fun s => s.portWrite w)

def execGcMemoryRead (r : PortRead) (s : State) : Host.Outcome State Fault Refusal :=
  .next (s.access (.read r) fun s => s.portRead r)

def execAttentionWrite (w : RegWrite) (s : State) : Host.Outcome State Fault Refusal :=
  .next (s.access (.attention w) fun s => s.writeAttention w)

def execAttentionMaskWrite (w : RegWrite) (s : State) : Host.Outcome State Fault Refusal :=
  .next (s.access (.mask w) fun s => s.writeMask w)

/-- A write to a register address of 6 or above is not served (R190); as an access it empties the latches (R192). A
lower address is another register's, and the row changes nothing. -/
def execUnusedRegisterWrite (address : Nat) (_w : RegWrite) (s : State) : Host.Outcome State Fault Refusal :=
  .next (if address < 6 then s else s.access .unused State.clearLatches)

/-! ## A record cut short (R208) -/

/-- The offsets of a record's words in the order they are written. -/
def recordWords : List Nat := [2, 4, 6, 8, 10, 12, 14, 16, 18, 20, 22, 24, 26, 28, 30, 0]

/-- The words of a record at those offsets are written. -/
def writeRecordWords (m : List Host.Cell) (base : Nat) (record : List Byte) : List Nat → List Host.Cell
  | [] => m
  | off :: rest => writeRecordWords (Memory.writeBytes m (base + off) ((record.drop off).take 2)) base record rest

/-- The record being written is cut short after that many word writes; the requests are lost (R186, R208). -/
def State.cutRecord (s : State) (cut : Nat) : State :=
  let s' :=
    match s.journal.queue, s.journal.ring with
    | q :: _, some r =>
      let record := q.record.bytes s.journal.written
      { s with mem := writeRecordWords s.mem (r.base + 32 * s.journal.position) record (recordWords.take cut) }
    | _, _ => s
  { s' with journal := { s'.journal with queue := [] } }

/-! ## Start-up (R205, R206) -/

/-- Which start-up it is: power-on, or the reset pin or a restart. -/
inductive StartKind where
  | powerOn
  | restart
  deriving DecidableEq, Repr

/-- Step 1: every block at its values after a reset; what lies outside the part's blocks is kept: the memory, the
waiting commands and accesses, the limit switch inputs, the index of the free draws. Write-watch events raised before
the start-up and not yet taken are dropped (assumption 44). -/
def State.resetBlocks (s : State) (kind : StartKind) (strap : PortWidth) : State :=
  let r := State.reset
  let pins (x : Lane) : Lane := { Lane.reset with openLimit := x.openLimit, closedLimit := x.closedLimit }
  { r with
    lanes := ⟨pins s.lanes.l0, pins s.lanes.l1, pins s.lanes.l2, pins s.lanes.l3⟩
    engine := { r.engine with draws := s.engine.draws }
    port := { r.port with width := strap, waiting := s.port.waiting, dataOut := s.port.dataOut }
    sys :=
      { partState := .starting
        restartCount := match kind with | .powerOn => 0#16 | .restart => s.sys.restartCount + 1#16
        lastHeld := 0
        resetPin := false }
    mem := s.mem
    pending := s.pending }

def State.setPartState (s : State) (p : PartState) : State :=
  { s with sys := { s.sys with partState := p } }.writeMem 0x00 (leBytes 2 p.code)

/-- Step 3: the header after the part state, and the lane status blocks (R205, R189). -/
def State.writeHeader (s : State) : State :=
  let header :=
    leBytes 2 0 ++ leBytes 2 s.sys.restartCount.toNat ++ List.replicate 8 0#8 ++ leBytes 2 s.clock.stamp.toNat ++
      List.replicate 48 0#8
  let block := [0#8, 0#8, 0#8, 0#8, 0#8, 16#8] ++ List.replicate 26 0#8
  (s.writeMem 0x02 header).writeMem 0x40 (block ++ block ++ block ++ block)

/-- The staging area of a LOAD KEY slot as the slot's bytes name it (R71). -/
def slotStaging (m : List Host.Cell) (k : Fin 8) : Area := ⟨Memory.readNat m (slotBase k + 10) 4, 16⟩

/-- A slot is refused RESTART (R205 step 4). -/
def State.refuseSlot (s : State) (k : Fin 8) : State :=
  let a := slotBase k
  let s := s.writeMem (a + 48) (List.replicate 16 0#8)
  let s := s.writeMem (a + 3) (leBytes 1 OrderCode.restart.code)
  let s := s.writeMem (a + 6) (Memory.readBytes s.mem (a + 4) 2)
  let s := s.writeMem a (leBytes 2 SlotState.refused.code)
  State.raise (s.setSlot k .refused) .order

/-- The staging bytes of a LOAD KEY slot that is refused RESTART are zeroed when they lie in the free region (R71,
R206). -/
def State.zeroSlotStaging (s : State) (k : Fin 8) : State :=
  let a := slotStaging s.mem k
  if (Memory.read s.mem (slotBase k + 2)).toNat = 6 ∧ a.inFree = true then s.zeroStaging a else s

/-- Step 4 for one slot (R205, R206). -/
def State.examineSlot (kind : StartKind) (s : State) (k : Fin 8) : State :=
  match SlotState.ofCode? (Memory.readNat s.mem (slotBase k) 2), kind with
  | some .taken, _ => (s.zeroSlotStaging k).refuseSlot k
  | some .posted, .powerOn => (s.zeroSlotStaging k).refuseSlot k
  | some v, .restart => s.setSlot k v
  | _, _ => (s.setSlot k .empty).writeMem (slotBase k) (leBytes 2 SlotState.empty.code)

/-- The reads that wait before any write or register access: they are served once STARTING is written (R191). -/
def leadingReads : List PortAccess → List PortRead × List PortAccess
  | .read (.register a p) :: rest => ([], .read (.register a p) :: rest)
  | .read r :: rest => (r :: (leadingReads rest).1, (leadingReads rest).2)
  | rest => ([], rest)

def State.serveReads (s : State) : List PortRead → State
  | [] => s
  | r :: rest => (s.portRead r).serveReads rest

def memoryAccess : MemoryRead → PortRead
  | .word wa => .word wa
  | .byte a => .byte a

/-- Memory reads begun in the start-up are served, unless an access before them waits for RUNNING (R191). -/
def State.startReads (s : State) : List MemoryRead → State
  | [] => s
  | r :: rest =>
    let s :=
      if s.port.waiting.isEmpty then s.portRead (memoryAccess r)
      else s.setPort fun p => { p with waiting := p.waiting ++ [.read (memoryAccess r)] }
    s.startReads rest

/-- The six steps, without the accesses that wait for RUNNING: reads see STARTING once it is written, and SETUP once it
is (R191). ATTENTION already holds CLOCK and the mask zero from step 1; step 4 raises ORDER for a refused slot. -/
def State.startSteps (s : State) (kind : StartKind) (inputs : StartInputs) : State :=
  let s := (s.resetBlocks kind inputs.strap).setPartState .starting
  let reads := leadingReads s.port.waiting
  let s := (s.serveReads reads.1).setPort fun p => { p with waiting := reads.2 }
  let s := (s.startReads inputs.starting).writeHeader.setPartState .setup
  let s := s.startReads inputs.setup
  let s := (List.finRange 8).foldl (State.examineSlot kind) s
  s.setPartState .running

/-- A write to CONTROL with bit 0 set starts a restart at its end; any other changes nothing (R204). -/
def State.writeControl (s : State) (w : RegWrite) (inputs : StartInputs) (cut : Nat) : State :=
  let s := s.clearLatches
  if (regBits w).getLsbD 0 then (s.cutRecord cut).startSteps .restart inputs else s

/-- The waiting accesses are served in order once the part is RUNNING (R191). -/
def State.serveWaiting (s : State) : List PortAccess → State
  | [] => s
  | .read r :: rest => (s.portRead r).serveWaiting rest
  | .write w :: rest => (s.portWrite w).serveWaiting rest
  | .attention w :: rest => (s.writeAttention w).serveWaiting rest
  | .mask w :: rest => (s.writeMask w).serveWaiting rest
  | .control w inputs cut :: rest => (s.writeControl w inputs cut).serveWaiting rest
  | .unused :: rest => s.clearLatches.serveWaiting rest

/-- A whole start-up. -/
def State.startUp (s : State) (kind : StartKind) (inputs : StartInputs) : State :=
  let s := s.startSteps kind inputs
  let waiting := s.port.waiting
  (s.setPort fun p => { p with waiting := [] }).serveWaiting waiting

/-- The first address of the list that lies outside the exchange memory. -/
def outsideMemory (contents : List (Nat × BitVec 8)) : Option Nat :=
  (contents.find? fun c => Config.memorySize ≤ c.1).map (·.1)

/-- R206: over the memory that power-on left. -/
def execPowerOn (inputs : StartInputs) (contents : List (Nat × BitVec 8)) (s : State) :
    Host.Outcome State Fault Refusal :=
  match outsideMemory contents with
  | some a => .fault (.noSuchAddress a)
  | none =>
    .next (State.startUp
      { s with mem := Memory.writeCells [] contents, port := { s.port with waiting := [], dataOut := [] } } .powerOn
      inputs)

/-- R205: the release of the reset pin. -/
def execResetPinRelease (inputs : StartInputs) (cut : Nat) (s : State) : Host.Outcome State Fault Refusal :=
  .next ((s.cutRecord cut).startUp .restart inputs)

/-- R204. -/
def execRestart (w : RegWrite) (inputs : StartInputs) (cut : Nat) (s : State) : Host.Outcome State Fault Refusal :=
  .next (s.access (.control w inputs cut) fun s => s.writeControl w inputs cut)

/-- R191: asserting the reset pin stops the part, and cuts short a record being written (R208). -/
def execResetPinAsserted (cut : Nat) (s : State) : Host.Outcome State Fault Refusal :=
  .next (s.running fun s =>
    let s := s.cutRecord cut
    { s with sys := { s.sys with resetPin := true } })

end Sys2Proof.Machine
end

