-- ==== Sys2Proof/Machine/Dispatch.lean ====
section
/-! DEFINITION. The meaning of every command: one arm for each row of the table. -/

namespace Sys2Proof.Machine

open Sys2Proof

/-- The effect of a command on everything but the queue. -/
def exec (i : Instr) (s : State) : Host.Outcome State Fault Refusal :=
  match i with
  | .powerOn inputs contents => Sys2Proof.Machine.execPowerOn inputs contents s
  | .resetPinRelease inputs cut => Sys2Proof.Machine.execResetPinRelease inputs cut s
  | .restart write inputs cut => Sys2Proof.Machine.execRestart write inputs cut s
  | .attentionWrite write => Sys2Proof.Machine.execAttentionWrite write s
  | .attentionMaskWrite write => Sys2Proof.Machine.execAttentionMaskWrite write s
  | .unusedRegisterWrite address write => Sys2Proof.Machine.execUnusedRegisterWrite address write s
  | .gcMemoryWrite write => Sys2Proof.Machine.execGcMemoryWrite write s
  | .gcMemoryRead read => Sys2Proof.Machine.execGcMemoryRead read s
  | .orderSlotStateWordEvent slot => Sys2Proof.Machine.execOrderSlotStateWordEvent slot s
  | .consumedTallyEvent => Sys2Proof.Machine.execConsumedTallyEvent s
  | .orderTake => Sys2Proof.Machine.execOrderTake s
  | .setTime => Sys2Proof.Machine.execSetTime s
  | .setParameters => Sys2Proof.Machine.execSetParameters s
  | .parameterBlockReadEnd => Sys2Proof.Machine.execParameterBlockReadEnd s
  | .configureJournal => Sys2Proof.Machine.execConfigureJournal s
  | .adoptFareTable => Sys2Proof.Machine.execAdoptFareTable s
  | .fareTableValidationEnd => Sys2Proof.Machine.execFareTableValidationEnd s
  | .adoptDenylist => Sys2Proof.Machine.execAdoptDenylist s
  | .denylistScanEnd => Sys2Proof.Machine.execDenylistScanEnd s
  | .denylistSwitch => Sys2Proof.Machine.execDenylistSwitch s
  | .loadKey => Sys2Proof.Machine.execLoadKey s
  | .loadKeyComplete => Sys2Proof.Machine.execLoadKeyComplete s
  | .retireKey => Sys2Proof.Machine.execRetireKey s
  | .eraseKey => Sys2Proof.Machine.execEraseKey s
  | .setLaneMode => Sys2Proof.Machine.execSetLaneMode s
  | .resetLane => Sys2Proof.Machine.execResetLane s
  | .clearLaneCounts => Sys2Proof.Machine.execClearLaneCounts s
  | .readSighting => Sys2Proof.Machine.execReadSighting s
  | .forgetCard => Sys2Proof.Machine.execForgetCard s
  | .unknownOrderKind => Sys2Proof.Machine.execUnknownOrderKind s
  | .orderEnd => Sys2Proof.Machine.execOrderEnd s
  | .clockTick => Sys2Proof.Machine.execClockTick s
  | .dayNumberWrap => Sys2Proof.Machine.execDayNumberWrap s
  | .serviceDayRollover => Sys2Proof.Machine.execServiceDayRollover s
  | .clockReadout => Sys2Proof.Machine.execClockReadout s
  | .scanRoundStart => Sys2Proof.Machine.execScanRoundStart s
  | .settleEnd => Sys2Proof.Machine.execSettleEnd s
  | .conversionEnd load => Sys2Proof.Machine.execConversionEnd load s
  | .powerUpHoldEnd lane level => Sys2Proof.Machine.execPowerUpHoldEnd lane level s
  | .noiseMeasurementEnd lane level => Sys2Proof.Machine.execNoiseMeasurementEnd lane level s
  | .frameSent lane => Sys2Proof.Machine.execFrameSent lane s
  | .answerStart lane => Sys2Proof.Machine.execAnswerStart lane s
  | .answerReceived lane peak answer => Sys2Proof.Machine.execAnswerReceived lane peak answer s
  | .responseWaitExpiry lane => Sys2Proof.Machine.execResponseWaitExpiry lane s
  | .dialogueDeadlineExpiry lane => Sys2Proof.Machine.execDialogueDeadlineExpiry lane s
  | .aeOperationComplete => Sys2Proof.Machine.execAeOperationComplete s
  | .claimAnswer lane => Sys2Proof.Machine.execClaimAnswer lane s
  | .screenLookupEnd lane => Sys2Proof.Machine.execScreenLookupEnd lane s
  | .screenAnswer lane => Sys2Proof.Machine.execScreenAnswer lane s
  | .priceAnswer lane => Sys2Proof.Machine.execPriceAnswer lane s
  | .journalRecordWrite => Sys2Proof.Machine.execJournalRecordWrite s
  | .notifyTimerExpiry => Sys2Proof.Machine.execNotifyTimerExpiry s
  | .probeTimerExpiry lane => Sys2Proof.Machine.execProbeTimerExpiry lane s
  | .probeWaitExpiry lane => Sys2Proof.Machine.execProbeWaitExpiry lane s
  | .beamEvent lane group beam held => Sys2Proof.Machine.execBeamEvent lane group beam held s
  | .creditExpiry lane sequence => Sys2Proof.Machine.execCreditExpiry lane sequence s
  | .stuckTimerExpiry lane => Sys2Proof.Machine.execStuckTimerExpiry lane s
  | .boostEnd lane => Sys2Proof.Machine.execBoostEnd lane s
  | .limitSwitchEvent lane limit active => Sys2Proof.Machine.execLimitSwitchEvent lane limit active s
  | .brakeEnd lane => Sys2Proof.Machine.execBrakeEnd lane s
  | .leafOverload lane => Sys2Proof.Machine.execLeafOverload lane s
  | .strokeTimeout lane => Sys2Proof.Machine.execStrokeTimeout lane s
  | .emergencyAsserted held => Sys2Proof.Machine.execEmergencyAsserted held s
  | .emergencyReleased held => Sys2Proof.Machine.execEmergencyReleased held s
  | .timedDisplayEnd lane => Sys2Proof.Machine.execTimedDisplayEnd lane s
  | .toneEnd lane => Sys2Proof.Machine.execToneEnd lane s
  | .passbackExpiry card => Sys2Proof.Machine.execPassbackExpiry card s
  | .regrantGraceExpiry card => Sys2Proof.Machine.execRegrantGraceExpiry card s
  | .uncertaintyExpiry card => Sys2Proof.Machine.execUncertaintyExpiry card s
  | .resetPinAsserted cut => Sys2Proof.Machine.execResetPinAsserted cut s

end Sys2Proof.Machine
end

