-- ==== Sys2Proof/Safety.lean ====
section
/-! DEFINITION. The laws of the part as properties of a state: what every step from a legal state keeps. -/

namespace Sys2Proof.Machine

open Sys2Proof

/-- The exchange memory keeps its canonical form. -/
def State.MemoryLegal (s : State) : Prop := Memory.wf s.mem = true

/-- Station time is a day of 0 to 65535, a minute of 0 to 1439 and a millisecond of 0 to 59999, and the service-day
start a minute (R164, R166). -/
def State.ClockLegal (s : State) : Prop :=
  s.clock.day < 65536 ∧ s.clock.minute < 1440 ∧ s.clock.ms < 60000 ∧ s.clock.serviceStart < 1440

/-- Bits 6 to 15 of ATTENTION and of ATTENTION MASK are zero (10 section 10.9). -/
def State.RegistersLegal (s : State) : Prop :=
  s.regs.attention &&& ~~~causeBits = 0#16 ∧ s.regs.mask &&& ~~~causeBits = 0#16

/-- Gain step 0 to 31, noisy run below 4, quiet run below 16, baseline 0 to 1023, miss count below 3
(R19, R28, R29, R32). -/
def Lane.LinkLegal (x : Lane) : Prop :=
  x.gain ≤ 31 ∧ x.noisyRun < 4 ∧ x.quietRun < 16 ∧ x.baseline ≤ 1023 ∧ ∀ w, x.watch = some w → w.misses < 3

/-- A lane's credits, and the one a dialogue in progress may still bring, are at most 3 (R139). -/
def Lane.CreditsLegal (x : Lane) : Prop := x.credits.length + (if x.dialogue.isSome then 1 else 0) ≤ 3

/-- The leaves are driven toward closed only in CLOSING with the middle group CLEAR (R150). -/
def Lane.LeavesSafe (x : Lane) : Prop :=
  ∀ boost timeout brakeMs, x.drive = .stroke .atClosed boost timeout brakeMs → x.pc = .closing ∧ x.beams.middle = .clear

/-- The alarm counts fit their words (R149). -/
def Lane.CountsLegal (x : Lane) : Prop :=
  x.tailgate ≤ 65535 ∧ x.intrusion ≤ 65535 ∧ x.stuck ≤ 65535 ∧ x.obstruction ≤ 65535

/-- The sighting table holds at most 512 entries and no card number twice (R105). -/
def State.TableLegal (s : State) : Prop :=
  s.screening.table.length ≤ Config.sightingLimit ∧ (s.screening.table.map Sighting.card).Nodup

/-- Between steps no field of a lane's block waits to be written, and no lane shows JOURNAL FULL while the open room is 4 or
more (R61, R181). -/
def State.Settled (s : State) : Prop :=
  ∀ l, (s.lane l).rewritten = [] ∧ (4 ≤ s.journal.openRoom → (s.lane l).journalFull = false)

/-! ## What a step leaves as it was -/

/-- A lane after a step's end: its block's stamp, the mark of fields just written and JOURNAL FULL may differ from
what the step's effect left, and nothing else (R181, R189). -/
def Lane.Concluded (x y : Lane) : Prop :=
  y = { x with stamp := y.stamp, rewritten := y.rewritten, journalFull := y.journalFull }

/-- The bytes in which a step shows lanes and readiness: the lane status blocks and the readiness summary
(R189, R201). -/
def shownByte (a : Nat) : Prop := 0x40 ≤ a ∧ a < 0xC0 ∨ a = 0x02 ∨ a = 0x03

/-- Every byte of memory is kept but the shown bytes and those that `stored` names. -/
def State.MemoryKept (s t : State) (stored : Nat → Prop) : Prop :=
  ∀ a, ¬ shownByte a → ¬ stored a → Memory.read t.mem a = Memory.read s.mem a

/-- Every lane but one is kept. -/
def State.OtherLanesKept (s t : State) (l : LaneId) : Prop := ∀ k, k ≠ l → (s.lane k).Concluded (t.lane k)

/-- Every lane is kept. -/
def State.LanesKept (s t : State) : Prop := ∀ k, (s.lane k).Concluded (t.lane k)

/-- The bytes from an address on. -/
def bytesFrom (a n : Nat) : Nat → Prop := fun b => a ≤ b ∧ b < a + n

/-- No byte. -/
def noByte : Nat → Prop := fun _ => False

/-- An order of that kind has been handed to its owner (R197). -/
def State.Handed (s : State) (o : OrderInService) (kind : Nat) : Prop :=
  s.orders.service = some o ∧ o.stage = .handed ∧ o.kind.toNat = kind

/-- The order in service is as it was, but ended with that result, which ORDER_END writes from `due` on. -/
def State.EndedWith (s t : State) (o : OrderInService) (done : Bool) (code : OrderCode) (data : ResultData)
    (due : Nat) : Prop :=
  t.orders.service = some { o with stage := .ended done code data due } ∧ s.orders.service = some o

end Sys2Proof.Machine
end

