-- ==== Sys2Proof/Certificates/Slice0/Obligations.lean ====
section
/-! DEFINITION. The statements about the model. Where one rests on a choice of the model and not on a rule of the spec,
its comment says so and names the assumption. -/

open Sys2Proof Sys2Proof.Machine

/-! ## The step, the queue, the reset state -/

/-- Tier 1. The front command runs on the state with the queue's rest; that an empty queue idles is the model's choice
(assumption 4). -/
def Obligations.StepRunsFrontCommand : Prop :=
  (∀ (c : Instr) (rest : List Instr) (s : State),
    s.pending = c :: rest → step s = exec c { s with pending := rest }) ∧
  ∀ s : State, s.pending = [] → step s = .next s

/-- Tier 2. Every command answers a next state and leaves the queue as it was; POWER_ON stops only when its operand
lists a byte outside the exchange memory, which is the model's own fault (10 R187). -/
def Obligations.EveryCommandCompletesAndKeepsQueue : Prop :=
  ∀ (c : Instr) (s : State),
    (∀ inputs contents, c = .powerOn inputs contents → ∀ e ∈ contents, e.1 < 262144) →
    ∃ t, exec c s = .next t ∧ t.pending = s.pending

/-- Tier 1. The reset state is what a power-on start-up leaves: clock, readiness, registers, board, journal, lanes; and the
laws that the tier 3 statements say every step keeps hold in it. The memory's unlisted bytes and the input pins are the
model's choice (assumptions 5 and 17) and are not stated. -/
def Obligations.ResetState : Prop :=
  State.reset.MemoryLegal ∧ State.reset.ClockLegal ∧ State.reset.RegistersLegal ∧ State.reset.TableLegal ∧
  State.reset.Settled ∧ State.reset.now = ⟨0, 0, 0⟩ ∧ State.reset.clock.setFlag = false ∧ State.reset.clock.serviceStart = 180 ∧
  State.reset.clock.today = .workday ∧ State.reset.clock.nextDay = .workday ∧ State.reset.clock.stamp = 1#16 ∧
  State.reset.regs.attention = 0x0020#16 ∧ State.reset.regs.mask = 0#16 ∧ State.reset.attentionLine = false ∧
  State.reset.orders.ready.summary = 0 ∧ State.reset.orders.lastTaken = 7 ∧
  State.reset.orders.held.places = [none, none, none, none, none, none] ∧
  State.reset.journal.ring = none ∧ State.reset.journal.written = 0#16 ∧ State.reset.journal.consumed = 0#16 ∧
  State.reset.journal.reserved = 0 ∧ State.reset.screening.table = [] ∧ State.reset.fare.active = none ∧
  State.reset.sys.partState = .running ∧ State.reset.sys.restartCount = 0#16 ∧ State.reset.pending = [] ∧
  (∀ i : Fin 8, State.reset.engine.slots[i] = ⟨.empty, 0, 0#128⟩ ∧ State.reset.orders.slots[i] = .empty) ∧
  ∀ l : LaneId,
    (State.reset.lane l).mode = .out ∧ (State.reset.lane l).pc = .out ∧ (State.reset.lane l).field = .off ∧
    (State.reset.lane l).drive = .released ∧ (State.reset.lane l).credits = [] ∧
    (State.reset.lane l).beams = ⟨.blocked, .blocked, .blocked⟩ ∧ (State.reset.lane l).gain = 16 ∧
    (State.reset.lane l).baseline = 512 ∧ (State.reset.lane l).learning = true ∧
    (State.reset.lane l).indicator = .cross ∧ (State.reset.lane l).lastResult = .none ∧
    (State.reset.lane l).LinkLegal ∧ (State.reset.lane l).CreditsLegal ∧ (State.reset.lane l).LeavesSafe ∧
    (State.reset.lane l).CountsLegal

/-- A write to CONTROL has bit 0 set, in the byte it reaches. -/
def restartBit (w : RegWrite) : Bool :=
  match w with
  | .word v => v.getLsbD 0
  | .low b => b.getLsbD 0
  | .high _ => false

/-- Tier 2. The three start-ups complete and leave every block at its values after a reset (10 R205, R206; 02 R34; 07
R163; 08 R174), when no access waits. Accesses that wait at the port, and reads begun in the start-up, are served by it: a
memory read once STARTING is written, or once SETUP is for one begun then; a write or a register access once RUNNING is
(10 R191). The time base's zero (assumption 2), the order in which waiting accesses are served (assumption 12) and the
loss of write-watch events not yet taken (assumption 44) are the model's. -/
def Obligations.StartUpResetsEveryBlock : Prop :=
  (∀ (c : Instr) (inputs : StartInputs) (s : State), s.port.waiting = [] →
    ((∃ contents, c = .powerOn inputs contents ∧ ∀ e ∈ contents, e.1 < 262144) ∨
      (∃ cut, c = .resetPinRelease inputs cut) ∨
      (∃ w cut, c = .restart w inputs cut ∧ s.sys.resetPin = false ∧ restartBit w = true)) →
    ∃ t, exec c s = .next t ∧
      t.clock = State.reset.clock ∧ t.params = Parameters.default ∧ t.scanner = ⟨none, [], none⟩ ∧
      t.emergency = ⟨false, false, 0⟩ ∧ t.engine.slots = State.reset.engine.slots ∧ t.engine.requests = [] ∧
      t.engine.service = none ∧ t.fare = State.reset.fare ∧ t.screening = ⟨[], none, none⟩ ∧
      t.journal = State.reset.journal ∧ t.orders.held = State.reset.orders.held ∧
      t.orders.ready = State.reset.orders.ready ∧ t.orders.lastTaken = 7 ∧ t.orders.service = none ∧
      t.orders.watchEvents = [] ∧ t.orders.tallyEvents = 0 ∧ t.deferred = [] ∧
      t.port.width = inputs.strap ∧ t.port.byteLatch = none ∧ t.port.waiting = [] ∧
      (inputs.starting = [] → inputs.setup = [] → t.port.readLatch = none) ∧
      t.regs.mask = 0#16 ∧ t.regs.attention &&& 0x0020#16 = 0x0020#16 ∧ t.sys.partState = .running ∧
      t.sys.lastHeld = 0 ∧ t.sys.resetPin = false ∧
      (∀ contents, c = .powerOn inputs contents → t.sys.restartCount = 0#16) ∧
      ((∀ contents, c ≠ .powerOn inputs contents) → t.sys.restartCount = s.sys.restartCount + 1#16) ∧
      ∀ l, t.lane l =
        { Lane.reset with openLimit := (s.lane l).openLimit, closedLimit := (s.lane l).closedLimit }) ∧
  ∀ (inputs : StartInputs) (cut : Nat) (s : State), s.MemoryLegal → inputs.strap = .bits16 →
    (s.port.waiting = [.read (.word 0#17)] → inputs.starting = [] → inputs.setup = [] →
      ∃ t, exec (.resetPinRelease inputs cut) s = .next t ∧ t.port.dataOut = [1#8, 0#8] ∧ t.port.waiting = []) ∧
    (s.port.waiting = [] → inputs.setup = [.word 0#17] →
      ∃ t, exec (.resetPinRelease inputs cut) s = .next t ∧ t.port.dataOut = [2#8, 0#8] ∧ t.port.waiting = []) ∧
    (s.port.waiting = [] → s.sys.resetPin = false → inputs.starting = [.word 0#17] → inputs.setup = [] →
      ∃ t, exec (.restart (.word 1#16) inputs cut) s = .next t ∧ t.port.dataOut = [1#8, 0#8]) ∧
    (∀ v, s.port.waiting = [.mask (.word v)] →
      ∃ t, exec (.resetPinRelease inputs cut) s = .next t ∧ t.regs.mask = v &&& 0x003F#16 ∧ t.port.waiting = []) ∧
    ∀ (wa : BitVec 17) (v : Word), 0x300 ≤ 2 * wa.toNat → inputs.starting = [] → inputs.setup = [] →
      s.port.waiting = [.write (.word wa v), .read (.word wa)] →
      ∃ t, exec (.resetPinRelease inputs cut) s = .next t ∧ Memory.readNat t.mem (2 * wa.toNat) 2 = v.toNat ∧
        t.port.dataOut = [v.setWidth 8, (v >>> 8).setWidth 8] ∧ t.port.waiting = []

/-- The word in a slot's state word. -/
def stateWord (m : List Host.Cell) (k : Fin 8) : Nat := Memory.readNat m (slotBase k) 2

/-- A ring, where one is configured, lies in the free region (09 R175). -/
def ringInFree (s : State) : Prop :=
  ∀ r, s.journal.ring = some r → 0x300 ≤ r.base ∧ r.base + 32 * r.size ≤ 0x40000 ∧ s.journal.position < r.size

/-- The bytes of the place at the write position, which a record that is cut short may have reached (11 R208). -/
def recordBytes (s : State) (a : Nat) : Prop :=
  s.journal.queue ≠ [] ∧ ∃ r, s.journal.ring = some r ∧ bytesFrom (r.base + 32 * s.journal.position) 32 a

/-- The bytes of the staging area that a slot holding a LOAD KEY order names, when it lies in the free region
(04 R71). -/
def stagingBytes (m : List Host.Cell) (k : Fin 8) (a : Nat) : Prop :=
  let base := Memory.readNat m (slotBase k + 10) 4
  Memory.read m (slotBase k + 2) = 6#8 ∧ 0x300 ≤ base ∧ base + 16 ≤ 0x40000 ∧ bytesFrom base 16 a

/-- Tier 2. After the reset pin or a restart a TAKEN slot is refused RESTART and ORDER is raised, with the staging
bytes of a LOAD KEY slot zeroed; a slot that holds EMPTY, POSTED, DONE or REFUSED keeps it, and any other is written
EMPTY. The free region keeps every byte but those and the words of a record cut short (10 R205, step 4; 04 R71; 11
R208). How many words were written is the rows' operand (assumption 13). -/
def Obligations.RestartBringsBoardToKnownState : Prop :=
  ∀ (c : Instr) (inputs : StartInputs) (s : State), s.port.waiting = [] → s.MemoryLegal → ringInFree s →
    ((∃ cut, c = .resetPinRelease inputs cut) ∨
      (∃ w cut, c = .restart w inputs cut ∧ s.sys.resetPin = false ∧ restartBit w = true)) →
    ∃ t, exec c s = .next t ∧
      (∀ k : Fin 8,
        (stateWord s.mem k = 2 → t.orders.slots[k] = .refused ∧ stateWord t.mem k = 4 ∧
          Memory.read t.mem (slotBase k + 3) = 24#8 ∧
          Memory.readNat t.mem (slotBase k + 6) 2 = Memory.readNat s.mem (slotBase k + 4) 2 ∧
          t.regs.attention &&& 0x0001#16 = 0x0001#16 ∧
          ∀ a, stagingBytes s.mem k a → Memory.read t.mem a = 0#8) ∧
        (stateWord s.mem k ≠ 2 → stateWord s.mem k < 5 →
          t.orders.slots[k].code = stateWord s.mem k ∧ stateWord t.mem k = stateWord s.mem k) ∧
        (5 ≤ stateWord s.mem k → t.orders.slots[k] = .empty ∧ stateWord t.mem k = 0)) ∧
      ∀ a, 0x300 ≤ a → ¬ recordBytes s a → (∀ k, stateWord s.mem k = 2 → ¬ stagingBytes s.mem k a) →
        Memory.read t.mem a = Memory.read s.mem a

/-- Tier 2. At power-on a TAKEN or POSTED slot is refused RESTART and every other slot is written EMPTY, over whatever
memory power-on left (10 R206). The staging bytes of a LOAD KEY slot that is refused are zeroed (04 R71); that this holds
of a POSTED slot too is the model's reading of R206's "in the same way" (assumption 20). -/
def Obligations.PowerOnBringsBoardToKnownState : Prop :=
  ∀ (inputs : StartInputs) (contents : List (Nat × BitVec 8)) (s : State), (∀ e ∈ contents, e.1 < 262144) →
    ∃ t, exec (.powerOn inputs contents) s = .next t ∧
      ∀ k : Fin 8,
        let m := Memory.writeCells [] contents
        let w := stateWord m k
        (w = 1 ∨ w = 2 → t.orders.slots[k] = .refused ∧ stateWord t.mem k = 4 ∧
          Memory.read t.mem (slotBase k + 3) = 24#8 ∧ t.regs.attention &&& 0x0001#16 = 0x0001#16 ∧
          ∀ a, stagingBytes m k a → Memory.read t.mem a = 0#8) ∧
        (w ≠ 1 ∧ w ≠ 2 → t.orders.slots[k] = .empty ∧ stateWord t.mem k = 0)

/-- The rows that are not a part block's event: the start-ups and the accesses at the port (10 R191, R205). -/
def portOrStartRow (c : Instr) : Bool :=
  match c with
  | .powerOn _ _ => true
  | .resetPinRelease _ _ => true
  | .restart _ _ _ => true
  | .attentionWrite _ => true
  | .attentionMaskWrite _ => true
  | .unusedRegisterWrite _ _ => true
  | .gcMemoryWrite _ => true
  | .gcMemoryRead _ => true
  | _ => false

/-- The access waits at the port, behind those that wait already (10 R191). -/
def waitsAtPort (s : State) (a : PortAccess) : State :=
  { s with port := { s.port with waiting := s.port.waiting ++ [a] } }

/-- Tier 1. While the reset pin is asserted every access at the port waits (10 R191), and no part block's event changes
anything, which is the model's choice (assumption 50). A record being written when the pin is asserted keeps the words
already written, offsets 2 to 30 first and the sequence word last; the other words of its place, and every other byte,
keep what they held (11 R208). How many words were written is the row's operand (assumption 13). -/
def Obligations.ResetPinStopsThePart : Prop :=
  (∀ (cut : Nat) (s : State), s.sys.resetPin = false →
    ∃ t, exec (.resetPinAsserted cut) s = .next t ∧
      t = { s with
        mem := t.mem
        journal := { s.journal with queue := [] }
        sys := { s.sys with resetPin := true } } ∧
      (∀ q rest r, s.journal.queue = q :: rest → s.journal.ring = some r → s.MemoryLegal → ringInFree s →
        ∀ n < 16, ∀ b < 2,
          let at_ := (if n = 15 then 0 else 2 * n + 2) + b
          let place := r.base + 32 * s.journal.position
          Memory.read t.mem (place + at_) =
            if n < cut then (q.record.bytes s.journal.written).getD at_ 0#8 else Memory.read s.mem (place + at_)) ∧
      ∀ a, ¬ recordBytes s a → Memory.read t.mem a = Memory.read s.mem a) ∧
  ∀ s : State, s.sys.resetPin = true →
    (∀ c, portOrStartRow c = false → exec c s = .next s) ∧
    (∀ w, exec (.gcMemoryWrite w) s = .next (waitsAtPort s (.write w))) ∧
    (∀ r, exec (.gcMemoryRead r) s = .next (waitsAtPort s (.read r))) ∧
    (∀ w, exec (.attentionWrite w) s = .next (waitsAtPort s (.attention w))) ∧
    (∀ w, exec (.attentionMaskWrite w) s = .next (waitsAtPort s (.mask w))) ∧
    (∀ w inputs cut, exec (.restart w inputs cut) s = .next (waitsAtPort s (.control w inputs cut))) ∧
    ∀ address w, 6 ≤ address → exec (.unusedRegisterWrite address w) s = .next (waitsAtPort s .unused)

/-! ## Registers and the attention line -/

/-- The port with its two byte latches emptied (10 R192). -/
def Port.emptied (p : Port) : Port := { p with byteLatch := none, readLatch := none }

/-- Tier 1. ATTENTION, ATTENTION MASK and the addresses above them: a one clears its cause, the mask takes bits 0 to 5
of the byte written, a write at 6 or above is not served; each empties the latches (10 R190, R192, section 10.9). -/
def Obligations.RegisterWrites : Prop :=
  ∀ (w : RegWrite) (s : State), s.sys.resetPin = false →
    exec (.attentionWrite w) s =
      .next { s with
        regs := { s.regs with attention := s.regs.attention &&&
          ~~~(match w with | .word v => v | .low b => b.setWidth 16 | .high b => b.setWidth 16 <<< 8) }
        port := Port.emptied s.port } ∧
    exec (.attentionMaskWrite w) s =
      .next { s with
        regs := { s.regs with mask :=
          (match w with | .word v => v | .low b => b.setWidth 16 | .high _ => s.regs.mask) &&& 0x003F#16 }
        port := Port.emptied s.port } ∧
    (∀ address, 6 ≤ address →
      exec (.unusedRegisterWrite address w) s = .next { s with port := Port.emptied s.port }) ∧
    (restartBit w = false → ∀ inputs cut,
      exec (.restart w inputs cut) s = .next { s with port := Port.emptied s.port })

/-- Tier 1. The attention line is asserted exactly while a cause is set in ATTENTION and in ATTENTION MASK. A start-up
leaves CLOCK in ATTENTION, with ORDER exactly when it refused an order, and the mask zero, so the line is released (10
R203). No access waits. -/
def Obligations.AttentionLineFollowsRegisters : Prop :=
  (∀ s : State, s.attentionLine = true ↔ ∃ i : Nat, i < 16 ∧ s.regs.attention.getLsbD i = true ∧
    s.regs.mask.getLsbD i = true) ∧
  ∀ (inputs : StartInputs) (s : State), s.MemoryLegal →
    (∀ cut, s.port.waiting = [] → ringInFree s →
      ∃ t, exec (.resetPinRelease inputs cut) s = .next t ∧ t.regs.mask = 0#16 ∧ t.attentionLine = false ∧
        t.regs.attention = (if ∃ k : Fin 8, stateWord s.mem k = 2 then 0x0021#16 else 0x0020#16)) ∧
    (∀ cut, s.sys.resetPin = false → s.port.waiting = [] → ringInFree s →
      ∃ t, exec (.restart (.word 1#16) inputs cut) s = .next t ∧ t.regs.mask = 0#16 ∧ t.attentionLine = false ∧
        t.regs.attention = (if ∃ k : Fin 8, stateWord s.mem k = 2 then 0x0021#16 else 0x0020#16)) ∧
    ∃ t, exec (.powerOn inputs s.mem) s = .next t ∧ t.regs.mask = 0#16 ∧ t.attentionLine = false ∧
      t.regs.attention =
        (if ∃ k : Fin 8, stateWord s.mem k = 1 ∨ stateWord s.mem k = 2 then 0x0021#16 else 0x0020#16)

/-! ## The port and the exchange memory -/

/-- The words of the header and the spare words that read as zero and are not stored (10 R188). -/
def zeroWord (a : Nat) : Prop := a = 0x06 ∨ a = 0x07 ∨ (0x18 ≤ a ∧ a ≤ 0x3F) ∨ (0xC0 ≤ a ∧ a ≤ 0xFF)

/-- Tier 2. In 16-bit width a word write that touches no held range is in the memory whole, changes no other byte, and
raises one event when the word is watched (10 R187, R190, R193). -/
def Obligations.WordWriteIsServed : Prop :=
  ∀ (wa : BitVec 17) (v : Word) (s : State),
    s.sys.resetPin = false → s.port.width = .bits16 → s.MemoryLegal →
    ¬ zeroWord (2 * wa.toNat) → s.heldAt (2 * wa.toNat) = false → s.heldAt (2 * wa.toNat + 1) = false →
    ∃ t, exec (.gcMemoryWrite (.word wa v)) s = .next t ∧
      t = { s with
        mem := t.mem
        orders := { s.orders with watchEvents := t.orders.watchEvents, tallyEvents := t.orders.tallyEvents }
        port := Port.emptied s.port } ∧
      Memory.readNat t.mem (2 * wa.toNat) 2 = v.toNat ∧
      (∀ a, ¬ bytesFrom (2 * wa.toNat) 2 a → Memory.read t.mem a = Memory.read s.mem a) ∧
      (∀ k, slotBase k = 2 * wa.toNat → t.orders.watchEvents = s.orders.watchEvents ++ [k]) ∧
      ((∀ k, slotBase k ≠ 2 * wa.toNat) → t.orders.watchEvents = s.orders.watchEvents) ∧
      t.orders.tallyEvents = s.orders.tallyEvents + (if 2 * wa.toNat = 0x12 then 1 else 0)

/-- Tier 2. In 16-bit width a write of one byte writes that byte alone, and one into a watched word raises an event (10
R190, R193). -/
def Obligations.ByteWriteIsServed : Prop :=
  ∀ (address : BitVec 18) (v : Byte) (s : State),
    s.sys.resetPin = false → s.port.width = .bits16 → s.MemoryLegal →
    ¬ zeroWord address.toNat → s.heldAt address.toNat = false →
    ∃ t, exec (.gcMemoryWrite (.byte address v)) s = .next t ∧
      t = { s with
        mem := t.mem
        orders := { s.orders with watchEvents := t.orders.watchEvents, tallyEvents := t.orders.tallyEvents }
        port := Port.emptied s.port } ∧
      Memory.read t.mem address.toNat = v ∧
      (∀ a, a ≠ address.toNat → Memory.read t.mem a = Memory.read s.mem a) ∧
      (∀ k, bytesFrom (slotBase k) 2 address.toNat → t.orders.watchEvents = s.orders.watchEvents ++ [k]) ∧
      ((∀ k, ¬ bytesFrom (slotBase k) 2 address.toNat) → t.orders.watchEvents = s.orders.watchEvents) ∧
      t.orders.tallyEvents =
        s.orders.tallyEvents + (if address.toNat = 0x12 ∨ address.toNat = 0x13 then 1 else 0)

/-- The state after a write was discarded at that address: the address recorded, HELD raised (10 R195). -/
def discardedAt (s t : State) (a : Nat) : Prop :=
  t = { s with
    mem := t.mem
    regs := { s.regs with attention := s.regs.attention ||| 0x0010#16 }
    sys := { s.sys with lastHeld := a }
    port := Port.emptied s.port } ∧
  Memory.readNat t.mem 0x14 4 = a ∧
  ∀ b, ¬ bytesFrom 0x14 4 b → Memory.read t.mem b = Memory.read s.mem b

/-- Tier 2. A write that touches a held range with any byte is discarded whole, raises no event, and its address is
recorded with HELD raised; a write to a word that reads as zero is not served. In 8-bit width this is judged at the write
that completes the word, with or without a latched low byte (10 R188, R192, R195). -/
def Obligations.HeldAndZeroWordsAreNotWritten : Prop :=
  ∀ s : State, s.sys.resetPin = false → s.MemoryLegal →
    (s.port.width = .bits16 → ∀ (wa : BitVec 17) (v : Word),
      (¬ zeroWord (2 * wa.toNat) → (s.heldAt (2 * wa.toNat) = true ∨ s.heldAt (2 * wa.toNat + 1) = true) →
        ∃ t, exec (.gcMemoryWrite (.word wa v)) s = .next t ∧ discardedAt s t (2 * wa.toNat)) ∧
      (zeroWord (2 * wa.toNat) →
        exec (.gcMemoryWrite (.word wa v)) s = .next { s with port := Port.emptied s.port })) ∧
    (s.port.width = .bits16 → ∀ (address : BitVec 18) (v : Byte),
      (¬ zeroWord address.toNat → s.heldAt address.toNat = true →
        ∃ t, exec (.gcMemoryWrite (.byte address v)) s = .next t ∧ discardedAt s t address.toNat) ∧
      (zeroWord address.toNat →
        exec (.gcMemoryWrite (.byte address v)) s = .next { s with port := Port.emptied s.port })) ∧
    (s.port.width = .bits8 → ∀ (low high : BitVec 18) (v : Byte), low.toNat % 2 = 0 → high.toNat = low.toNat + 1 →
      (¬ zeroWord low.toNat → (s.heldAt low.toNat = true ∨ s.heldAt high.toNat = true) →
        ∃ t, exec (.gcMemoryWrite (.byte high v)) s = .next t ∧ discardedAt s t low.toNat) ∧
      (zeroWord low.toNat →
        exec (.gcMemoryWrite (.byte high v)) s = .next { s with port := Port.emptied s.port }))

/-- Tier 2. In 8-bit width a low byte is latched and reaches no memory; the high byte of the same word as the next
access writes the whole word and raises its event when the word is watched; without the latched byte the low byte in
memory is kept (10 R192, R193). -/
def Obligations.NarrowWritesAssembleWords : Prop :=
  ∀ (low high : BitVec 18) (v w : Byte) (s : State),
    s.sys.resetPin = false → s.port.width = .bits8 → s.MemoryLegal →
    low.toNat % 2 = 0 → high.toNat = low.toNat + 1 →
    let watched := fun u : State =>
      (∀ k, slotBase k = low.toNat → u.orders.watchEvents = s.orders.watchEvents ++ [k]) ∧
      ((∀ k, slotBase k ≠ low.toNat) → u.orders.watchEvents = s.orders.watchEvents) ∧
      u.orders.tallyEvents = s.orders.tallyEvents + (if low.toNat = 0x12 then 1 else 0) ∧
      u = { s with
        mem := u.mem
        orders := { s.orders with watchEvents := u.orders.watchEvents, tallyEvents := u.orders.tallyEvents }
        port := Port.emptied s.port }
    (exec (.gcMemoryWrite (.byte low v)) s =
      .next { s with port :=
        { s.port with byteLatch := some ⟨BitVec.ofNat 17 (low.toNat / 2), v⟩, readLatch := none } }) ∧
    (¬ zeroWord low.toNat → s.heldAt low.toNat = false → s.heldAt high.toNat = false →
      (∀ t, exec (.gcMemoryWrite (.byte low v)) s = .next t →
        ∃ u, exec (.gcMemoryWrite (.byte high w)) t = .next u ∧ watched u ∧
          Memory.read u.mem low.toNat = v ∧ Memory.read u.mem high.toNat = w ∧
          ∀ a, a ≠ low.toNat → a ≠ high.toNat → Memory.read u.mem a = Memory.read s.mem a) ∧
      (s.port.byteLatch = none →
        ∃ t, exec (.gcMemoryWrite (.byte high w)) s = .next t ∧ watched t ∧
          Memory.read t.mem high.toNat = w ∧
          ∀ a, a ≠ high.toNat → Memory.read t.mem a = Memory.read s.mem a))

/-- The byte a read is served with (10 R187, R188). -/
def servedByte (s : State) (a : Nat) (b : Byte) : Prop :=
  (zeroWord a → b = 0#8) ∧ (¬ zeroWord a → b = Memory.read s.mem a)

/-- The word of the register at an address: ATTENTION, ATTENTION MASK, and CONTROL with the width in bit 1; 0 at 6 and
above (10 R190, R202 to R204). -/
def registerWord (s : State) (address : Nat) : Word :=
  if address < 2 then s.regs.attention
  else if address < 4 then s.regs.mask
  else if address < 6 then (if s.port.width = .bits16 then 0x0002#16 else 0#16)
  else 0#16

/-- Tier 2. A read changes the data lines and the latches only. In 16-bit width it gives the bytes that stand in the
memory; in 8-bit width a low byte's read keeps the high byte, which the next access is given (10 R187, R192). A read of a
register gives ATTENTION, ATTENTION MASK, CONTROL, or 0 at 6 and above (10 R190, R202 to R204). -/
def Obligations.ReadsAreServed : Prop :=
  ∀ s : State, s.sys.resetPin = false →
    (∀ (address : Nat) (part : RegPart),
      let v := registerWord s address
      exec (.gcMemoryRead (.register address part)) s =
        .next { s with port := { Port.emptied s.port with
          dataOut := (match part with
            | .word => [v.setWidth 8, (v >>> 8).setWidth 8]
            | .low => [v.setWidth 8]
            | .high => [(v >>> 8).setWidth 8]) } }) ∧
    (s.port.width = .bits16 → ∀ wa : BitVec 17, ∃ b0 b1,
      exec (.gcMemoryRead (.word wa)) s =
        .next { s with port := { Port.emptied s.port with dataOut := [b0, b1] } } ∧
      servedByte s (2 * wa.toNat) b0 ∧ servedByte s (2 * wa.toNat + 1) b1) ∧
    (s.port.width = .bits16 → ∀ address : BitVec 18, ∃ b,
      exec (.gcMemoryRead (.byte address)) s = .next { s with port := { Port.emptied s.port with dataOut := [b] } } ∧
      servedByte s address.toNat b) ∧
    (s.port.width = .bits8 → ∀ low high : BitVec 18, low.toNat % 2 = 0 → high.toNat = low.toNat + 1 →
      ∃ b0 b1 p, exec (.gcMemoryRead (.byte low)) s = .next { s with port := p } ∧
        p.dataOut = [b0] ∧ servedByte s low.toNat b0 ∧ servedByte s high.toNat b1 ∧
        ∀ u : State, u.sys.resetPin = false → u.port = p →
          exec (.gcMemoryRead (.byte high)) u =
            .next { u with port := { Port.emptied u.port with dataOut := [b1] } }) ∧
    (s.port.width = .bits8 → ∀ high : BitVec 18, high.toNat % 2 = 1 → s.port.readLatch = none → ∃ b,
      exec (.gcMemoryRead (.byte high)) s = .next { s with port := { Port.emptied s.port with dataOut := [b] } } ∧
      servedByte s high.toNat b)

/-! ## The order board -/

/-- What the Order Processor makes of a slot's state on the value its word holds, none where the value is not taken (10
R196). The line of a TAKEN slot is the model's (assumption 24). -/
def boardRule (kept : SlotState) (value : Nat) : Option SlotState :=
  if kept = .taken then some .taken
  else if value = kept.code then some kept
  else if value = 0 then some .empty
  else if value = 1 then some .posted
  else none

/-- Tier 2. A write-watch event on a slot's state word is judged by the table of R196; a value not taken is written
back, its address recorded and HELD raised (10 R196). R196 says that no event arrives for a TAKEN slot: that one changes
nothing is the model's (assumption 24). -/
def Obligations.SlotEventFollowsTheTable : Prop :=
  ∀ (k : Fin 8) (s : State), s.sys.resetPin = false → s.Settled → s.MemoryLegal → k ∈ s.orders.watchEvents →
    ∃ t, exec (.orderSlotStateWordEvent k) s = .next t ∧
      t.orders = { s.orders with
        watchEvents := s.orders.watchEvents.erase k
        slots := s.orders.slots.set k ((boardRule s.orders.slots[k] (stateWord s.mem k)).getD s.orders.slots[k]) } ∧
      t = { s with orders := t.orders, mem := t.mem, regs := t.regs, sys := t.sys } ∧
      (∀ v, boardRule s.orders.slots[k] (stateWord s.mem k) = some v →
        t.mem = s.mem ∧ t.regs = s.regs ∧ t.sys = s.sys) ∧
      (boardRule s.orders.slots[k] (stateWord s.mem k) = none →
        stateWord t.mem k = s.orders.slots[k].code ∧ t.sys = { s.sys with lastHeld := slotBase k } ∧
        t.regs = { s.regs with attention := s.regs.attention ||| 0x0010#16 } ∧
        Memory.readNat t.mem 0x14 4 = slotBase k ∧
        ∀ a, ¬ bytesFrom (slotBase k) 2 a → ¬ bytesFrom 0x14 4 a → Memory.read t.mem a = Memory.read s.mem a)

/-- Tier 2. A free Order Processor takes the first POSTED slot after the last taken: TAKEN in its state and its word,
the order copied, no other byte changed; a kind code that names no order then ends the order REFUSED with code KIND (10
R197). -/
def Obligations.TakeCopiesTheNextPostedSlot : Prop :=
  (∀ (s : State) (k : Fin 8) (n : Nat), s.sys.resetPin = false → s.Settled → s.MemoryLegal →
    s.orders.service = none → n < 8 → k.val = (s.orders.lastTaken.val + 1 + n) % 8 → s.orders.slots[k] = .posted →
    (∀ m < n, ∀ j : Fin 8, j.val = (s.orders.lastTaken.val + 1 + m) % 8 → s.orders.slots[j] ≠ .posted) →
    ∃ t, exec .orderTake s = .next t ∧
      t = { s with mem := t.mem, orders := t.orders } ∧
      t.orders = { s.orders with
        slots := s.orders.slots.set k .taken
        lastTaken := k
        service := some
          { slot := k
            kind := Memory.read s.mem (slotBase k + 2)
            ticket := BitVec.ofNat 16 (Memory.readNat s.mem (slotBase k + 4) 2)
            args := Memory.readBytes s.mem (slotBase k + 8) 40
            takenAt := s.timeBase
            stage := .handed } } ∧
      stateWord t.mem k = 2 ∧
      ∀ a, ¬ bytesFrom (slotBase k) 2 a → Memory.read t.mem a = Memory.read s.mem a) ∧
  ∀ (s : State) (o : OrderInService), s.sys.resetPin = false → s.Settled → s.orders.service = some o →
    o.stage = .handed → (o.kind.toNat = 0 ∨ 13 < o.kind.toNat) →
    ∃ t, exec .unknownOrderKind s = .next t ∧ t = { s with orders := t.orders } ∧
      t.orders = { s.orders with service := some { o with stage := .ended false .kind (.bytes []) s.timeBase } }

/-- Tier 2. An order's end writes the result data, code, echoed ticket and state word of its slot and no other byte,
sets the slot's state, raises ORDER and leaves the Order Processor free (10 R198). The result data of a SET LANE MODE
that is DONE gives the lane's mode and state as they stand when the order ends (07 R135, assumption 32). -/
def Obligations.OrderEndWritesTheResult : Prop :=
  ∀ (s : State) (o : OrderInService) (done : Bool) (code : OrderCode) (result : ResultData) (due : Nat),
    s.sys.resetPin = false → s.Settled → s.MemoryLegal → s.orders.service = some o →
    o.stage = .ended done code result due → due ≤ s.nextTick →
    let data := match result with
      | .bytes data => data
      | .laneNow l => [BitVec.ofNat 8 (s.lane l).mode.code, BitVec.ofNat 8 (s.lane l).pc.code]
    ∃ t, exec .orderEnd s = .next t ∧
      t = { s with timeBase := max s.timeBase due, mem := t.mem, orders := t.orders, regs := t.regs } ∧
      t.orders = { s.orders with
        service := none
        slots := s.orders.slots.set o.slot (if done then .done else .refused) } ∧
      t.regs = { s.regs with attention := s.regs.attention ||| 0x0001#16 } ∧
      stateWord t.mem o.slot = (if done then 3 else 4) ∧
      Memory.read t.mem (slotBase o.slot + 3) = BitVec.ofNat 8 code.code ∧
      Memory.readNat t.mem (slotBase o.slot + 6) 2 = o.ticket.toNat ∧
      (∀ i (h : i < 16), Memory.read t.mem (slotBase o.slot + 48 + i) = data.getD i 0#8) ∧
      ∀ a, ¬ bytesFrom (slotBase o.slot) 2 a → a ≠ slotBase o.slot + 3 → ¬ bytesFrom (slotBase o.slot + 6) 2 a →
        ¬ bytesFrom (slotBase o.slot + 48) 16 a → Memory.read t.mem a = Memory.read s.mem a

/-! ## The Station Clock -/

/-- The service day of a day and minute under a service-day start (08 R170). -/
def serviceDayAt (start day minute : Nat) : Nat := if start ≤ minute then day else (day + 65535) % 65536

/-- The timers of a lane and of the sightings moved by a step (08 R168, R173). -/
def timersMoved (s t : State) (step : Int) : Prop :=
  t.lanes = ⟨s.lanes.l0.shift step, s.lanes.l1.shift step, s.lanes.l2.shift step, s.lanes.l3.shift step⟩ ∧
  t.engine = { s.engine with requests := s.engine.requests.map fun r => { r with deadline := r.deadline + step } } ∧
  t.screening = { s.screening with table := s.screening.table.map (Sighting.shift step) }

/-- Tier 2. A SET TIME whose arguments are in range names the station time, the day types and the service-day start,
moves every held timer by the step, sets the set flag and advances the readout; any other is refused ARGUMENT and changes
nothing else (08 R166, R167, R168). That a readout or rollover still owed by the last tick comes first is the model's
choice (assumption 15), and so is that the stamp rises by one when the millisecond named is a multiple of 1000 (assumption
51). -/
def Obligations.SetTimeSetsTheClock : Prop :=
  (∀ (s : State) (o : OrderInService) (today next : DayType), s.sys.resetPin = false → s.Settled → s.MemoryLegal →
    s.Handed o 1 → s.clock.rolloverDue = false → s.clock.readoutDue = false →
    o.arg 2 2 < 1440 → o.arg 4 2 < 60000 → o.arg 8 2 < 1440 → o.arg 6 1 = today.code → o.arg 7 1 = next.code →
    ∃ t, exec .setTime s = .next t ∧
      t = { s with
        clock := t.clock
        lanes := t.lanes
        engine := t.engine
        screening := t.screening
        orders := t.orders
        mem := t.mem } ∧
      t.clock = ⟨o.arg 0 2, o.arg 2 2, o.arg 4 2, true, o.arg 8 2, today, next, s.clock.stamp + 1#16, false, false⟩ ∧
      timersMoved s t (StationTime.instant ⟨o.arg 0 2, o.arg 2 2, o.arg 4 2⟩ - s.instant) ∧
      t.orders = { s.orders with
        ready := { s.orders.ready with clockSet := true }
        service := t.orders.service } ∧
      s.EndedWith t o true .none
        (.bytes (leBytes 2 (o.arg 0 2) ++ leBytes 2 (o.arg 2 2) ++ leBytes 2 (o.arg 4 2) ++
          leBytes 2 (serviceDayAt (o.arg 8 2) (o.arg 0 2) (o.arg 2 2)) ++ leBytes 1 today.code ++
          leBytes 1 next.code)) (o.takenAt + 20) ∧
      Memory.readNat t.mem 0x08 2 = o.arg 0 2 ∧ Memory.readNat t.mem 0x0A 2 = o.arg 2 2 ∧
      Memory.readNat t.mem 0x0C 2 = o.arg 4 2 ∧ Memory.readNat t.mem 0x0E 2 = (s.clock.stamp + 1#16).toNat ∧
      s.MemoryKept t (bytesFrom 0x08 8)) ∧
  ∀ (s : State) (o : OrderInService), s.sys.resetPin = false → s.Settled → s.Handed o 1 →
    (1440 ≤ o.arg 2 2 ∨ 60000 ≤ o.arg 4 2 ∨ 1440 ≤ o.arg 8 2 ∨ o.arg 6 1 < 1 ∨ 2 < o.arg 6 1 ∨ o.arg 7 1 < 1 ∨
      2 < o.arg 7 1) →
    ∃ t, exec .setTime s = .next t ∧
      t = { s with orders := { s.orders with service := t.orders.service } } ∧
      s.EndedWith t o false .argument (.bytes []) (o.takenAt + 20)

/-- Tier 2. A tick advances station time by one millisecond with its carries, and changes nothing else but the marks of
what it owes; past day 65535 the day is 0 and the held timers move with it (08 R164, R168). The time base and the two
owed marks are the model's (assumptions 2 and 15). -/
def Obligations.TickAdvancesStationTime : Prop :=
  ∀ s : State, s.sys.resetPin = false → s.Settled → s.ClockLegal → s.clock.rolloverDue = false →
    s.clock.readoutDue = false →
    ∃ t, exec .clockTick s = .next t ∧
      t = { s with
        timeBase := s.nextTick
        nextTick := s.nextTick + 10000
        clock := t.clock
        lanes := t.lanes
        engine := t.engine
        screening := t.screening } ∧
      t.clock = { s.clock with
        day := t.clock.day
        minute := t.clock.minute
        ms := t.clock.ms
        rolloverDue := t.clock.rolloverDue
        readoutDue := t.clock.readoutDue } ∧
      t.now = StationTime.ofInstant (s.instant + 1) ∧
      t.clock.rolloverDue = decide (t.clock.minute = s.clock.serviceStart ∧ t.clock.ms = 0) ∧
      t.clock.readoutDue = decide (t.clock.ms % 1000 = 0) ∧
      (s.instant + 1 < 65536 * 86400000 → t.lanes = s.lanes ∧ t.engine = s.engine ∧ t.screening = s.screening) ∧
      (s.instant + 1 = 65536 * 86400000 →
        timersMoved s t (-(65536 * 86400000)) ∧ exec .dayNumberWrap s = .next t)

/-- Tier 1. At the rollover the day type of today becomes that of the next service day, which keeps its value, and
CLOCK is raised (08 R171); at a full second the readout and then its stamp are written (08 R172). -/
def Obligations.RolloverAndReadout : Prop :=
  ∀ s : State, s.sys.resetPin = false → s.Settled → s.MemoryLegal →
    (s.clock.rolloverDue = true → ∃ t, exec .serviceDayRollover s = .next t ∧
      t = { s with
        clock := { s.clock with today := s.clock.nextDay, rolloverDue := false }
        regs := { s.regs with attention := s.regs.attention ||| 0x0020#16 } }) ∧
    (s.ClockLegal → s.clock.readoutDue = true → ∃ t, exec .clockReadout s = .next t ∧
      t = { s with mem := t.mem, clock := { s.clock with stamp := s.clock.stamp + 1#16, readoutDue := false } } ∧
      Memory.readNat t.mem 0x08 2 = s.clock.day ∧ Memory.readNat t.mem 0x0A 2 = s.clock.minute ∧
      Memory.readNat t.mem 0x0C 2 = s.clock.ms ∧ Memory.readNat t.mem 0x0E 2 = (s.clock.stamp + 1#16).toNat ∧
      ∀ a, ¬ bytesFrom 0x08 8 a → Memory.read t.mem a = Memory.read s.mem a)

/-! ## SET PARAMETERS and the journal -/

/-- Tier 2. SET PARAMETERS refuses an odd offset or a block outside the free region; the block's reading then gives
every parameter the value written, brought into its range, and nothing else changes (10 R199, R200) but the USED marks
older than the interval taken and the uncertainty parts older than the life taken, which expire at once (06 R129,
R130). The order of the records then asked for is the model's (assumption 41), and so is that the words are read as
they stand at the block's end (assumption 52). The order ends DONE with the count of clamped fields and the index of
the first of them, 255 if none (10 R200, section 10.6). -/
def Obligations.ParametersAreBroughtIntoRange : Prop :=
  (∀ (s : State) (o : OrderInService), s.sys.resetPin = false → s.Settled → s.Handed o 2 →
    ∃ t, exec .setParameters s = .next t ∧
      t = { s with orders := { s.orders with service := t.orders.service } } ∧
      (o.arg 0 4 % 2 = 1 ∨ o.arg 0 4 < 0x300 ∨ 0x40000 < o.arg 0 4 + 52 →
        s.EndedWith t o false .argument (.bytes []) (o.takenAt + 20)) ∧
      (o.arg 0 4 % 2 = 0 → 0x300 ≤ o.arg 0 4 → o.arg 0 4 + 52 ≤ 0x40000 →
        t.orders.service = some { o with stage := .readingParameters (o.arg 0 4) })) ∧
  ∀ (s : State) (o : OrderInService) (base : Nat), s.sys.resetPin = false → s.Settled → s.TableLegal →
    s.orders.service = some o → o.stage = .readingParameters base → o.takenAt + 20 ≤ s.nextTick →
    ∃ t, exec .parameterBlockReadEnd s = .next t ∧
      t = { s with
        timeBase := max s.timeBase (o.takenAt + 20)
        params := t.params
        debounceLog := (t.timeBase, t.params.debounce) :: s.debounceLog
        screening := { s.screening with table := t.screening.table }
        journal := { s.journal with queue := t.journal.queue, writeDue := t.journal.writeDue }
        orders := { s.orders with service := t.orders.service } } ∧
      (let usedUp := fun mark : CreditMark => ∃ dir time, mark = .used dir time ∧
          time + 1000 * t.params.passbackInterval ≤ s.instant;
        let outlived := fun u : Uncertainty => u.created + 1000 * t.params.uncertaintyLife ≤ s.instant;
        (∀ card, findSighting s.screening.table card = none → findSighting t.screening.table card = none) ∧
        (∀ card e, findSighting s.screening.table card = some e →
          ∃ mark part, findSighting t.screening.table card = some { e with mark := mark, uncertainty := part } ∧
            (usedUp e.mark → mark = .none) ∧ (¬ usedUp e.mark → mark = e.mark) ∧
            (∀ u, e.uncertainty = some u → outlived u → part = none) ∧
            ((∀ u, e.uncertainty = some u → ¬ outlived u) → part = e.uncertainty)) ∧
        t.journal.queue = s.journal.queue ++ s.screening.table.filterMap fun e => e.uncertainty.bind fun u =>
          if u.created + 1000 * t.params.uncertaintyLife ≤ s.instant then
            some ⟨resolvedRecord e.card u u.lane .unresolved s.now false, .part, .nobody⟩
          else none) ∧
      let v := fun off n => Memory.readNat s.mem (base + off) n
      (let writtenTaken := [(v 0 2, t.params.scanPeriod), (v 2 2, t.params.detectDelta), (v 4 2, t.params.gainTarget),
          (v 6 2, t.params.noiseThreshold), (v 8 2, t.params.responseWait), (v 10 2, t.params.dialogueWindow),
          (v 12 2, t.params.regrantGrace), (v 14 2, t.params.passbackInterval), (v 16 4, t.params.uncertaintyLife),
          (v 20 2, t.params.debounce), (v 22 2, t.params.creditLife), (v 24 2, t.params.maxPassage),
          (v 26 2, t.params.boost), (v 28 2, t.params.brake), (v 30 2, t.params.tonePitch),
          (v 32 4, t.params.increment.get .lane0), (v 36 4, t.params.increment.get .lane1),
          (v 40 4, t.params.increment.get .lane2), (v 44 4, t.params.increment.get .lane3),
          (v 48 1, min 1 (v 48 1)), (v 49 1, min 1 (v 49 1)), (v 50 1, min 1 (v 50 1)), (v 51 1, min 1 (v 51 1))];
        let clamped := writtenTaken.map fun p => decide (p.1 ≠ p.2);
        s.EndedWith t o true .none
          (.bytes [BitVec.ofNat 8 (clamped.count true), 0#8, BitVec.ofNat 8 ((clamped.idxOf? true).getD 255)])
          t.timeBase) ∧
      t.params.scanPeriod = max 20 (min 500 (v 0 2)) ∧ t.params.detectDelta = max 1 (min 255 (v 2 2)) ∧
      t.params.gainTarget = max 8 (min 247 (v 4 2)) ∧ t.params.noiseThreshold = min 255 (v 6 2) ∧
      (t.params.responseWait = 2 ∧ v 8 2 ≤ 2 ∨ t.params.responseWait = 4 ∧ 2 < v 8 2 ∧ v 8 2 ≤ 4 ∨
        t.params.responseWait = 8 ∧ 4 < v 8 2 ∧ v 8 2 ≤ 8 ∨ t.params.responseWait = 16 ∧ 8 < v 8 2) ∧
      t.params.dialogueWindow = max 150 (min 600 (v 10 2)) ∧ t.params.regrantGrace = min 600 (v 12 2) ∧
      t.params.passbackInterval = min 1800 (v 14 2) ∧ t.params.uncertaintyLife = max 600 (min 86400 (v 16 4)) ∧
      t.params.debounce = max 10 (min 100 (v 20 2)) ∧ t.params.creditLife = max 2 (min 30 (v 22 2)) ∧
      t.params.maxPassage = max 2 (min 30 (v 24 2)) ∧ t.params.boost = min 255 (v 26 2) ∧
      t.params.brake = min 255 (v 28 2) ∧ t.params.tonePitch = max 1000 (min 4000 (v 30 2)) ∧
      (∀ l : LaneId, t.params.increment.get l = max 65617556 (min 69097274 (v (32 + 4 * l.toNat) 4)) ∧
        t.params.polarity.get l = (if v (48 + l.toNat) 1 = 0 then .normal else .inverted))

/-- Tier 2. CONFIGURE JOURNAL completes and refuses in the order of R175, naming the failing argument or the counts; one
that passes replaces the ring and its hold, and sets the position and the tallies to 0 (09 R175, R176). That an area
outside the free region or over a held range is named 1, base, is the model's choice (assumption 43). -/
def Obligations.ConfigureJournalReplacesTheRing : Prop :=
  ∀ (s : State) (o : OrderInService), s.sys.resetPin = false → s.Handed o 3 →
    let base := o.arg 0 4
    let size := o.arg 4 2
    let level := o.arg 6 2
    let delay := o.arg 8 2
    let sizePasses := 64 ≤ size ∧ size ≤ 4096
    let levelPasses := 1 ≤ level ∧ level ≤ size
    let areaPasses := base % 32 = 0 ∧ 0x300 ≤ base ∧ base + 32 * size ≤ 0x40000 ∧
      { s.orders.held with ring := none }.overlaps ⟨base, 32 * size⟩ = false
    let busy := s.journal.unconsumed ≠ 0 ∨ s.journal.reserved ≠ 0
    ∃ t, exec .configureJournal s = .next t ∧
      t = { s with lanes := t.lanes, journal := t.journal, orders := t.orders, mem := t.mem } ∧
      s.LanesKept t ∧
      (let refused := fun n : Byte => t.journal = s.journal ∧ t.orders.held = s.orders.held ∧ s.MemoryKept t noByte ∧
          s.EndedWith t o false .argument (.bytes [n]) (o.takenAt + 20);
        (¬ sizePasses → refused 2#8) ∧
        (sizePasses → ¬ levelPasses → refused 3#8) ∧
        (sizePasses → levelPasses → 10000 < delay → refused 4#8) ∧
        (sizePasses → levelPasses → delay ≤ 10000 → ¬ areaPasses → refused 1#8)) ∧
      (sizePasses → levelPasses → delay ≤ 10000 → areaPasses →
        (busy → t.journal = s.journal ∧ t.orders.held = s.orders.held ∧ s.MemoryKept t noByte ∧
          s.EndedWith t o false .busy (.bytes (leBytes 2 s.journal.unconsumed ++ leBytes 2 s.journal.reserved))
            (o.takenAt + 20)) ∧
        (¬ busy →
          t.journal = { s.journal with
            ring := some ⟨base, size, level, delay⟩
            position := 0
            written := 0#16
            consumed := 0#16
            notifyDue := none } ∧
          t.orders.held = { s.orders.held with ring := some ⟨base, 32 * size⟩ } ∧
          t.orders.ready = { s.orders.ready with journalConfigured := true } ∧
          (∀ l, (t.lane l).journalFull = false) ∧
          s.EndedWith t o true .none (.bytes (leBytes 4 base ++ leBytes 2 size)) (o.takenAt + 20) ∧
          (s.MemoryLegal → Memory.readNat t.mem 0x10 2 = 0 ∧ Memory.readNat t.mem 0x12 2 = 0) ∧
          s.MemoryKept t (bytesFrom 0x10 4)))

/-- Tier 2. A consumed-tally value whose advance is not above the unconsumed count is accepted; any other is written
back, its address recorded and HELD raised, and the accepted tally stands (09 R182, R183). -/
def Obligations.ConsumedTallyIsJudged : Prop :=
  ∀ s : State, s.sys.resetPin = false → s.MemoryLegal → 0 < s.orders.tallyEvents →
    let v := BitVec.ofNat 16 (Memory.readNat s.mem 0x12 2)
    let accepted := (v - s.journal.consumed).toNat ≤ s.journal.unconsumed
    ∃ t, exec .consumedTallyEvent s = .next t ∧
      t = { s with
        lanes := t.lanes
        journal := t.journal
        mem := t.mem
        regs := t.regs
        sys := t.sys
        orders := { s.orders with tallyEvents := s.orders.tallyEvents - 1 } } ∧
      s.LanesKept t ∧
      t.journal = { s.journal with consumed := t.journal.consumed, notifyDue := t.journal.notifyDue } ∧
      (accepted →
        t.journal.consumed = v ∧ t.sys = s.sys ∧ s.MemoryKept t noByte ∧
        (∀ r, s.journal.ring = some r → t.journal.unconsumed = 0 → t.journal.notifyDue = none ∧ t.regs = s.regs) ∧
        (∀ r, s.journal.ring = some r → t.journal.unconsumed ≠ 0 → 0 < r.delay →
          t.journal.notifyDue = some (s.timeBase + 10000 * r.delay) ∧ t.regs = s.regs) ∧
        (4 ≤ t.journal.openRoom → ∀ l, (t.lane l).journalFull = false)) ∧
      (¬ accepted →
        t.journal = s.journal ∧ t.sys = { s.sys with lastHeld := 0x12 } ∧
        t.regs = { s.regs with attention := s.regs.attention ||| 0x0010#16 } ∧
        Memory.readNat t.mem 0x12 2 = s.journal.consumed.toNat ∧ Memory.readNat t.mem 0x14 4 = 0x12 ∧
        s.MemoryKept t (bytesFrom 0x12 6))

/-- Steps 1 to 3 of a record's writing, and the rest of the queue (09 R177). -/
def recordWritten (s t : State) (q : RecordRequest) (rest : List RecordRequest) (r : Ring) : Prop :=
  t.timeBase = max s.timeBase s.journal.writeDue ∧ t.journal.queue = rest ∧
  t.journal.position = (if s.journal.position + 1 = r.size then 0 else s.journal.position + 1) ∧
  t.journal.written = s.journal.written + 1#16 ∧ t.journal.writeDue = t.timeBase + 20 ∧
  t.journal.ring = s.journal.ring ∧ t.journal.consumed = s.journal.consumed ∧
  Memory.readBytes t.mem (r.base + 32 * s.journal.position) 32 = q.record.bytes s.journal.written ∧
  Memory.readNat t.mem 0x10 2 = (s.journal.written + 1#16).toNat ∧
  s.MemoryKept t (fun a => bytesFrom (r.base + 32 * s.journal.position) 32 a ∨ bytesFrom 0x10 2 a)

/-- A lane whose dialogue has used one of its reserved places (09 R177, step 4). -/
def usedPlace (x : Lane) : Lane :=
  { x with dialogue := x.dialogue.map fun d => { d with reserved := d.reserved - 1 } }

/-- What RELEASE shows of an outcome, unless an abort decided it: ACCEPT's tone; REFUSE's with WAIT for 2 s at UNCERTAIN,
and with CROSS for 1.5 s at a refusal (03 R62). -/
def outcomeShown (s t : State) (l : LaneId) (d : Dialogue) (code : ResultCode) : Prop :=
  let x := s.lane l
  let y := t.lane l
  let tone := fun kind ms => y.tone = some ⟨kind, s.params.tonePitch, t.timeBase + 10000 * ms⟩
  (d.byAbort = true → y.tone = x.tone ∧ y.timedDisplay = x.timedDisplay) ∧
  (d.byAbort = false →
    (code = .accept ∨ code = .regrant → tone .accept 150 ∧ y.timedDisplay = x.timedDisplay) ∧
    (code = .uncertain → tone .refuse 400 ∧ y.timedDisplay = some ⟨.wait, t.timeBase + 20000000⟩) ∧
    (code ≠ .accept → code ≠ .regrant → code ≠ .uncertain →
      tone .refuse 400 ∧ y.timedDisplay = some ⟨.cross, t.timeBase + 15000000⟩))

/-- Tier 2. The request at the front of the queue is written into the place at the write position with the written
tally as its sequence; the position and the tally advance, its reservation falls by one, and the level test is made. A
record that no one waits for, or that a screen waits for, changes nothing else but its holder's reserved places; one that
a release waits for is followed by the rest of RELEASE: claim, kept place, last result, display and tone, removal watch.
When the notify timer runs out, JOURNAL is raised and the timer stays stopped (03 R56 to R58, R61, R62; 06 R123, R127; 09
R177, R184, R185). -/
def Obligations.RecordIsWrittenAtTheWritePosition : Prop :=
  (∀ (s : State) (q : RecordRequest) (rest : List RecordRequest) (r : Ring),
    s.sys.resetPin = false → s.MemoryLegal → s.journal.queue = q :: rest → s.journal.ring = some r →
    s.journal.writeDue ≤ s.nextTick → ringInFree s →
    (q.waiter = .nobody ∨ (∃ l, q.waiter = .screen l) →
      ∃ t, exec .journalRecordWrite s = .next t ∧ recordWritten s t q rest r ∧
        t = { s with timeBase := t.timeBase, lanes := t.lanes, journal := t.journal, regs := t.regs, mem := t.mem } ∧
        (∀ l, Lane.Concluded (if q.holder = .dialogue l then usedPlace (s.lane l) else s.lane l) (t.lane l)) ∧
        t.journal.reserved = s.journal.reserved - 1 ∧
        (r.level ≤ t.journal.unconsumed → t.regs.attention &&& 0x0002#16 = 0x0002#16) ∧
        (t.journal.unconsumed < r.level → (0 < r.delay ∨ s.journal.unconsumed ≠ 0) → t.regs = s.regs) ∧
        (s.journal.unconsumed = 0 → 0 < r.delay → t.journal.notifyDue = some (t.timeBase + 10000 * r.delay)) ∧
        (s.journal.unconsumed ≠ 0 → t.journal.notifyDue = s.journal.notifyDue)) ∧
    ∀ (l : LaneId) (d : Dialogue) (code : ResultCode), q.waiter = .release l → q.holder = .dialogue l →
      (s.lane l).dialogue = some d → d.outcome = some code → 0 < d.reserved → d.reserved ≤ s.journal.reserved →
      ∃ t, exec .journalRecordWrite s = .next t ∧ recordWritten s t q rest r ∧
        t = { s with
          timeBase := t.timeBase
          lanes := t.lanes
          screening := { s.screening with table := t.screening.table }
          journal := t.journal
          regs := t.regs
          mem := t.mem } ∧
        s.OtherLanesKept t l ∧
        t.journal.reserved + d.reserved = s.journal.reserved +
          (if code = .accept ∨ code = .regrant ∨ code = .uncertain then 1 else 0) ∧
        (∀ card, card ≠ d.card → findSighting t.screening.table card = findSighting s.screening.table card) ∧
        (∀ e, findSighting s.screening.table d.card = some e →
          findSighting t.screening.table d.card = some { e with claim := if d.claimHeld then none else e.claim }) ∧
        (t.lane l).dialogue = none ∧ (t.lane l).lastResult = code ∧ (t.lane l).inProgress = false ∧
        (t.lane l).credits = (s.lane l).credits ∧ (t.lane l).field = (s.lane l).field ∧ outcomeShown s t l d code ∧
        ((s.lane l).field = .on →
          (t.lane l).watch = some ⟨0, some (s.instant + 20), false⟩ ∧ (t.lane l).link = .idle)) ∧
  ∀ (s : State) (due : Nat), s.sys.resetPin = false → s.Settled → s.journal.notifyDue = some due → due ≤ s.nextTick →
    ∃ t, exec .notifyTimerExpiry s = .next t ∧
      t = { s with
        timeBase := max s.timeBase due
        journal := { s.journal with notifyDue := none }
        regs := { s.regs with attention := s.regs.attention ||| 0x0002#16 } }

/-! ## The Fare Unit -/

/-- Tier 2. ADOPT FARE TABLE holds an area that passes as the pending table, and refuses any other TABLE INVALID, AREA,
without a hold; the table passes exactly when the zone count, length, band counts, band starts, rounding step and station
zone do, the first two named first (05 R83, R84). -/
def Obligations.AdoptFareTableExaminesTheArea : Prop :=
  (∀ (s : State) (o : OrderInService), s.sys.resetPin = false → s.Settled → s.Handed o 4 →
    let base := o.arg 0 4
    let len := o.arg 4 2
    let passes := base % 2 = 0 ∧ 130 ≤ len ∧ len ≤ 640 ∧ 0x300 ≤ base ∧ base + len ≤ 0x40000 ∧
      s.orders.held.overlaps ⟨base, len⟩ = false
    ∃ t, exec .adoptFareTable s = .next t ∧ t = { s with fare := t.fare, orders := t.orders } ∧
      (passes → t.fare = { s.fare with pending := some ⟨base, len⟩ } ∧
        t.orders = { s.orders with
          held := { s.orders.held with fareSecond := some ⟨base, len⟩ }
          service := some { o with stage := .validatingTable s.timeBase } }) ∧
      (¬ passes → t.fare = s.fare ∧ t.orders.held = s.orders.held ∧
        s.EndedWith t o false .tableInvalid (.bytes [1#8, 0#8, 0#8]) (o.takenAt + 20))) ∧
  ∀ (m : List Host.Cell) (a : Area),
    let z := fareWord m a 0
    (z < 1 ∨ 16 < z → tableFailure m a = some (2, 0, 0)) ∧
    (1 ≤ z → z ≤ 16 → a.len ≠ 128 + 2 * z * z → tableFailure m a = some (3, 0, 0)) ∧
    (tableFailure m a = none ↔
      1 ≤ z ∧ z ≤ 16 ∧ a.len = 128 + 2 * z * z ∧
      (∀ d : DayType, 1 ≤ bandCount m a d ∧ bandCount m a d ≤ 8 ∧ bandStart m a d 0 = 0 ∧
        (∀ i, i < bandCount m a d → bandStart m a d i ≤ 1439) ∧
        ∀ i, i + 1 < bandCount m a d → bandStart m a d i < bandStart m a d (i + 1)) ∧
      (roundingStep m a = 1 ∨ roundingStep m a = 2 ∨ roundingStep m a = 5 ∨ roundingStep m a = 10 ∨
        roundingStep m a = 20 ∨ roundingStep m a = 50 ∨ roundingStep m a = 100) ∧
      1 ≤ stationZone m a ∧ stationZone m a ≤ z)

/-- Tier 2. The validation's end switches to a table that passes every check, and ends the adoption at once when no
pricing is bound to the old table; a table that fails is released and the active one stands (05 R84, R85). -/
def Obligations.ValidationEndSwitchesOrRefuses : Prop :=
  ∀ (s : State) (o : OrderInService) (a : Area) (start : Nat), s.sys.resetPin = false → s.Settled →
    s.orders.service = some o → o.stage = .validatingTable start → s.fare.pending = some a →
    start + a.len ≤ s.nextTick →
    ∃ t, exec .fareTableValidationEnd s = .next t ∧
      t = { s with
        timeBase := max s.timeBase (start + a.len)
        lanes := t.lanes
        fare := t.fare
        orders := t.orders
        mem := t.mem } ∧
      s.LanesKept t ∧ s.MemoryKept t noByte ∧
      (∀ field day index, tableFailure s.mem a = some (field, day, index) →
        t.fare = { s.fare with pending := none } ∧
        t.orders.held = { s.orders.held with fareSecond := none } ∧ t.orders.ready = s.orders.ready ∧
        s.EndedWith t o false .tableInvalid (.bytes (leBytes 1 field ++ leBytes 1 day ++ leBytes 1 index))
          t.timeBase) ∧
      (tableFailure s.mem a = none →
        t.fare.active = some a ∧ t.fare.pending = none ∧ t.orders.held.fare = some a ∧
        t.fare.pricings = s.fare.pricings ∧
        ((∀ old, s.fare.active = some old → s.fare.bound old = false) →
          t.fare.previous = none ∧ t.orders.held.fareSecond = none ∧ t.orders.ready.fareAdopted = true ∧
          s.EndedWith t o true .none
            (.bytes (leBytes 1 (fareZones s.mem a) ++ leBytes 1 (stationZone s.mem a) ++
              leBytes 2 (stationCode s.mem a))) t.timeBase) ∧
        (∀ old, s.fare.active = some old → s.fare.bound old = true →
          t.fare.previous = some old ∧ t.orders.held.fareSecond = some old ∧
          t.orders.service = some { o with stage := .awaitingPricings }))

/-- Tier 2. The expiry test: a pricing whose counter is not spent answers EXPIRED exactly when the product's expiry day
is earlier than the service day, for every card and both directions (05 R89). -/
def Obligations.ExpiryTest : Prop :=
  ∀ (m : List Host.Cell) (p : Pricing),
    (purseCounter p.purse = 65535 → price m p = .cardSpent) ∧
    (purseCounter p.purse ≠ 65535 →
      (price m p = .expired ↔ productExpiry p.product < p.transaction.serviceDay))

/-- The daily sum a card presents for the service day of the transaction, 0 for another day's (05 R98). -/
def dailyPresented (p : Pricing) : Nat :=
  if purseDailyDay p.purse = p.transaction.serviceDay then purseDailySum p.purse else 0

/-- The multiplier of the band that holds a minute: the last band whose start is not above it (05 R81). -/
def bandMultiplies (m : List Host.Cell) (t : Area) (d : DayType) (minute mb : Nat) : Prop :=
  ∀ i < bandCount m t d, bandStart m t d i ≤ minute →
    (∀ j < bandCount m t d, i < j → minute < bandStart m t d j) → mb = bandMultiplier m t d i

/-- Charge, stage flags and new daily sum of the exit of a card that is not STAFF with an open trip: band, concession,
rounding, transfer, cap and overstay, each in its order and held at 65535 (05 R94 to R99, R103). -/
def stagesGive (m : List Host.Cell) (p : Pricing) (charge : Nat) (flags : StageFlags) (daily : Nat) : Prop :=
  ∃ b mb p3 paid surcharge : Nat,
    b = baseFare m p.table (min (purseEntryZone p.purse) (fareZones m p.table)) (stationZone m p.table) ∧
    bandMultiplies m p.table p.transaction.dayType (purseEntryMinute p.purse) mb ∧
    let mc := concessionMultiplier m p.table (productClass p.product)
    let step := roundingStep m p.table
    let banded := (b * mb + 128) / 256
    let p1 := min 65535 banded
    let conceded := (p1 * mc + 128) / 256
    let q := min 65535 conceded
    let stepped := (q + step / 2) / step * step
    let p2 := min 65535 stepped
    let gap : Int := ((purseEntryDay p.purse : Int) - purseLastExitDay p.purse) * 1440 +
      purseEntryMinute p.purse - purseLastExitMinute p.purse
    let transfers := 0 ≤ gap ∧ gap ≤ transferWindow m p.table ∧
      purseLastExitStation p.purse ≠ purseEntryStation p.purse
    let duration : Int := ((p.transaction.time.day : Int) - purseEntryDay p.purse) * 1440 +
      p.transaction.time.minute - purseEntryMinute p.purse
    let late := (maximumTrip m p.table : Int) < max 0 duration
    p3 = (if transfers then p2 - min p2 (transferAllowance m p.table) else p2) ∧
    paid = min p3 (dailyCap m p.table (productClass p.product) - dailyPresented p) ∧
    surcharge = (if late then overstaySurcharge m p.table else 0) ∧
    charge = min 65535 (paid + surcharge) ∧
    flags =
      { transfer := decide transfers
        capped := decide (paid < p3)
        overstay := decide late
        penalty := false
        saturated := decide (65535 < banded ∨ 65535 < conceded ∨ 65535 < stepped ∨ 65535 < paid + surcharge) } ∧
    daily = dailyPresented p + paid

/-- The charge, stage flags and daily sum, where one is written, of a pricing: nothing for a STAFF card, whose open trip
writes the daily sum presented (05 R92, R100); at ENTRY the unclosed-trip penalty for an open trip, else 0 (05 R90); at
EXIT the exit-without-entry penalty without an open trip (05 R93), else the stages; the penalty flag with a penalty
(05 R103). -/
def chargedBy (m : List Host.Cell) (p : Pricing) (c : Charge) : Prop :=
  let isOpen := purseTripState p.purse = 1
  let staff := productKind p.product = 3
  let penalised : StageFlags := ⟨false, false, false, true, false⟩
  (staff → c = ⟨0, ⟨false, false, false, false, false⟩,
    if p.direction = .exit ∧ isOpen then some (dailyPresented p) else none⟩) ∧
  (¬ staff → p.direction = .entry → isOpen → c = ⟨unclosedPenalty m p.table, penalised, none⟩) ∧
  (¬ staff → p.direction = .entry → ¬ isOpen → c = ⟨0, ⟨false, false, false, false, false⟩, none⟩) ∧
  (¬ staff → p.direction = .exit → ¬ isOpen → c = ⟨noEntryPenalty m p.table, penalised, none⟩) ∧
  (¬ staff → p.direction = .exit → isOpen → ∃ daily, c.daily = some daily ∧ stagesGive m p c.charge c.flags daily)

/-- The image priced: balance, counter and trip state; at ENTRY the new trip's zone, station, day and minute (05 R92); at
EXIT the last exit's station, day and minute, and the daily day and sum where a daily sum is written (05 R102). Every
other byte is as read (01 R9). -/
def imagePriced (m : List Host.Cell) (p : Pricing) (daily : Option Nat) (newBalance : Int) (image : List Byte) :
    Prop :=
  let time := p.transaction.time
  image.length = 32 ∧ purseBalance image = newBalance ∧ purseCounter image = purseCounter p.purse + 1 ∧
  (p.direction = .entry → purseTripState image = 1 ∧ image.drop 14 = p.purse.drop 14 ∧
    purseEntryStation image = stationCode m p.table ∧
    (stationZone m p.table < 256 → purseEntryZone image = stationZone m p.table) ∧
    (time.day < 65536 → purseEntryDay image = time.day) ∧
    (time.minute < 1440 → purseEntryMinute image = time.minute)) ∧
  (p.direction = .exit → purseTripState image = 0 ∧ (image.drop 7).take 7 = (p.purse.drop 7).take 7 ∧
    image.drop 24 = p.purse.drop 24 ∧ purseLastExitStation image = stationCode m p.table ∧
    (time.day < 65536 → purseLastExitDay image = time.day) ∧
    (time.minute < 1440 → purseLastExitMinute image = time.minute) ∧
    (daily = none → purseDailyDay image = purseDailyDay p.purse ∧ purseDailySum image = purseDailySum p.purse) ∧
    (p.transaction.serviceDay < 65536 → ∀ sum, daily = some sum →
      purseDailyDay image = p.transaction.serviceDay ∧ purseDailySum image = sum))

/-- Tier 2. The overdraft floor: a pricing that is neither CARD SPENT nor EXPIRED answers LOW BALANCE with its charge
when the new balance is below the negative of the overdraft limit; no balance priced, and none in a written image, is
below it, and every charge is between 0 and 65,535 (05 R101). The charge, its flags and the daily sum are those of the
entry, exit and STAFF rules (05 R90, R92 to R100, R103). Above the floor an exit, a STAFF entry and an entry at or
above the entry floor are priced, with the new image's fields and the zones of the record (03 R60; 05 R91, R92, R102). -/
def Obligations.OverdraftFloor : Prop :=
  ∀ (m : List Host.Cell) (p : Pricing), purseCounter p.purse < 65535 →
    p.transaction.serviceDay ≤ productExpiry p.product →
    ∃ c, chargedBy m p c ∧
    let newBalance := purseBalance p.purse - c.charge
    let limit : Int := overdraftLimit m p.table
    c.charge ≤ 65535 ∧
    (newBalance < -limit → price m p = .lowBalance c.charge c.flags) ∧
    (p.direction = .entry → productKind p.product ≠ 3 → newBalance < entryFloor m p.table →
      price m p = .lowBalance c.charge c.flags) ∧
    (-limit ≤ newBalance →
      p.direction = .exit ∨ productKind p.product = 3 ∨ (entryFloor m p.table : Int) ≤ newBalance →
      ∃ image, price m p =
          .priced
            { charge := c.charge
              newBalance := newBalance
              flags := c.flags
              entryZone := (if p.direction = .entry then stationZone m p.table
                else if purseTripState p.purse = 1 then purseEntryZone p.purse else 0)
              exitZone := (if p.direction = .entry then 0 else stationZone m p.table) }
            image ∧
        (p.purse.length = 32 → imagePriced m p c.daily newBalance image)) ∧
    ∀ r image, price m p = .priced r image → r.charge = c.charge ∧ r.newBalance = newBalance ∧ -limit ≤ newBalance

/-- Tier 2. The exit of a card that is not STAFF with an open trip is priced, or answered LOW BALANCE, by the six
stages: band, concession, rounding, transfer, cap and overstay, each in its order and held at 65535, with the five
stage flags and the daily sum; and no exit of an open trip, a STAFF card's too, writes a daily sum above the larger of
the class cap and the daily sum presented for the same service day (05 R94 to R99, R103). -/
def Obligations.ExitStages : Prop :=
  (∀ (m : List Host.Cell) (p : Pricing), p.direction = .exit → productKind p.product ≠ 3 →
    purseTripState p.purse = 1 → purseCounter p.purse < 65535 → p.transaction.serviceDay ≤ productExpiry p.product →
    ∃ charge flags daily, stagesGive m p charge flags daily ∧
      (purseBalance p.purse - charge < -(overdraftLimit m p.table : Int) → price m p = .lowBalance charge flags) ∧
      (-(overdraftLimit m p.table : Int) ≤ purseBalance p.purse - charge →
        ∃ r image, price m p = .priced r image ∧ r.charge = charge ∧ r.flags = flags ∧
          (p.purse.length = 32 → p.transaction.serviceDay < 65536 →
            purseDailyDay image = p.transaction.serviceDay ∧ purseDailySum image = daily))) ∧
  ∀ (m : List Host.Cell) (p : Pricing) (r : PricingResult) (image : List Byte), p.direction = .exit →
    purseTripState p.purse = 1 → p.purse.length = 32 → p.transaction.serviceDay < 65536 →
    price m p = .priced r image →
    purseDailyDay image = p.transaction.serviceDay ∧
    purseDailySum image ≤ max (dailyCap m p.table (productClass p.product)) (dailyPresented p)

/-! ## Denylists and keys -/

/-- Entry `i` of a list has a known kind and a card number above that of the entry before it (06 R115). -/
def entryFits (m : List Host.Cell) (offset i : Nat) : Prop :=
  ((denyEntry m offset i).kind = 1 ∨ (denyEntry m offset i).kind = 2) ∧
  (i = 0 ∨ (denyEntry m offset (i - 1)).card < (denyEntry m offset i).card)

/-- Tier 2. ADOPT DENYLIST examines count and area; the scan passes a rising list and names the first bad entry of any
other; the switch, made between lookups, makes the list active and gives it to the lookups that wait (06 R114 to R116).
The length of those lookups is bounded, as the order of their probes is the model's (assumption 23). -/
def Obligations.DenylistIsExaminedScannedAndSwitched : Prop :=
  (∀ (s : State) (o : OrderInService), s.sys.resetPin = false → s.Settled → s.Handed o 5 →
    let base := o.arg 0 4
    let count := o.arg 4 2
    let passes := base % 2 = 0 ∧ 0x300 ≤ base ∧ base + 12 * count ≤ 0x40000 ∧
      s.orders.held.overlaps ⟨base, 12 * count⟩ = false
    ∃ t, exec .adoptDenylist s = .next t ∧ t = { s with screening := t.screening, orders := t.orders } ∧
      (8192 < count → t.screening = s.screening ∧ t.orders.held = s.orders.held ∧
        s.EndedWith t o false .listInvalid (.bytes [1#8, 0#8, 0#8, 0#8]) (o.takenAt + 20)) ∧
      (0 < count → count ≤ 8192 → ¬ passes → t.screening = s.screening ∧ t.orders.held = s.orders.held ∧
        s.EndedWith t o false .listInvalid (.bytes [2#8, 0#8, 0#8, 0#8]) (o.takenAt + 20)) ∧
      (count = 0 → t.screening = { s.screening with pending := some ⟨base, 0⟩ } ∧
        t.orders = { s.orders with service := some { o with stage := .awaitingSwitch } }) ∧
      (0 < count → count ≤ 8192 → passes → t.screening = { s.screening with pending := some ⟨base, count⟩ } ∧
        t.orders = { s.orders with
          held := { s.orders.held with denyPending := some ⟨base, 12 * count⟩ }
          service := some { o with stage := .scanningDenylist s.timeBase } })) ∧
  (∀ (s : State) (o : OrderInService) (d : Denylist) (start : Nat), s.sys.resetPin = false → s.Settled →
    s.orders.service = some o → o.stage = .scanningDenylist start → s.screening.pending = some d →
    start + 5 * d.count ≤ s.nextTick →
    ∃ t, exec .denylistScanEnd s = .next t ∧
      t = { s with timeBase := t.timeBase, screening := t.screening, orders := t.orders } ∧
      ((∀ i < d.count, entryFits s.mem d.offset i) →
        t.timeBase = max s.timeBase (start + 5 * d.count) ∧ t.screening = s.screening ∧
        t.orders = { s.orders with service := some { o with stage := .awaitingSwitch } }) ∧
      ∀ i < d.count, (∀ j < i, entryFits s.mem d.offset j) → ¬ entryFits s.mem d.offset i →
        t.timeBase = max s.timeBase (start + 5 * (i + 1)) ∧ t.screening = { s.screening with pending := none } ∧
        t.orders.held = { s.orders.held with denyPending := none } ∧
        s.EndedWith t o false .listInvalid
          (.bytes (leBytes 2
            (if (denyEntry s.mem d.offset i).kind = 1 ∨ (denyEntry s.mem d.offset i).kind = 2 then 4 else 3) ++
            leBytes 2 i)) t.timeBase) ∧
  ∀ (s : State) (o : OrderInService) (d : Denylist), s.sys.resetPin = false → s.orders.service = some o →
    o.stage = .awaitingSwitch → s.screening.pending = some d →
    (∀ l e, (s.lane l).dialogue = some e → ∀ list due, e.outstanding ≠ some (.lookup list due)) →
    ∃ t, exec .denylistSwitch s = .next t ∧
      t = { s with lanes := t.lanes, screening := t.screening, orders := t.orders, mem := t.mem } ∧
      t.screening = { s.screening with active := some d, pending := none } ∧
      t.orders.held = { s.orders.held with
        deny := (if d.count = 0 then none else some ⟨d.offset, 12 * d.count⟩)
        denyPending := none } ∧
      t.orders.ready = { s.orders.ready with denyAdopted := true } ∧
      s.EndedWith t o true .none (.bytes (leBytes 2 d.count)) s.timeBase ∧ s.MemoryKept t noByte ∧
      ∀ l, (s.lane l).waitsForList = false ∧ (s.lane l).Concluded (t.lane l) ∨
        ∃ e due, (s.lane l).dialogue = some e ∧ e.outstanding = some .lookupWaiting ∧ s.timeBase ≤ due ∧
          due ≤ s.timeBase + 140 ∧
          Lane.Concluded { s.lane l with dialogue := some { e with outstanding := some (.lookup (some d) due) } }
            (t.lane l)

/-- The key input to readiness holds exactly while a slot is LOADED (04 R74). -/
def keyInputRight (t : State) : Prop := t.orders.ready.keyLoaded = true ↔ ∃ j : Fin 8, t.engine.slots[j].state = .loaded

/-- Tier 2. LOAD KEY is refused in the order of R69, with the staging bytes zeroed once the area has passed; else the
area is held, and at its end the slot holds the key, the staging is zero and released, and an all-zero key is refused
(04 R69, R70, R74). -/
def Obligations.LoadKeyTakesTheKey : Prop :=
  (∀ (s : State) (o : OrderInService), s.sys.resetPin = false → s.MemoryLegal → s.Handed o 6 →
    let base := o.arg 2 4
    let areaPasses := 0x300 ≤ base ∧ base + 16 ≤ 0x40000 ∧ s.orders.held.overlaps ⟨base, 16⟩ = false
    let data := ResultData.bytes (keySummary s.engine.slots)
    let zeroed := fun t : State => ∀ a, bytesFrom base 16 a → Memory.read t.mem a = 0#8
    ∃ t, exec .loadKey s = .next t ∧
      t = { s with lanes := t.lanes, orders := t.orders, mem := t.mem } ∧ s.LanesKept t ∧
      (8 ≤ o.arg 0 1 ∨ ¬ areaPasses → s.MemoryKept t noByte ∧ t.orders.held = s.orders.held ∧ keyInputRight t ∧
        s.EndedWith t o false .argument data (o.takenAt + 20)) ∧
      ∀ i : Fin 8, i.val = o.arg 0 1 → areaPasses →
        (s.engine.slots[i].state ≠ .empty → zeroed t ∧ s.MemoryKept t (bytesFrom base 16) ∧
          t.orders.held = s.orders.held ∧ keyInputRight t ∧
          s.EndedWith t o false .slotInUse data (o.takenAt + 20)) ∧
        (s.engine.slots[i].state = .empty →
          (∃ j : Fin 8, s.engine.slots[j].state = .loaded ∧ s.engine.slots[j].version = o.arg 1 1) →
          zeroed t ∧ s.MemoryKept t (bytesFrom base 16) ∧ t.orders.held = s.orders.held ∧ keyInputRight t ∧
          s.EndedWith t o false .duplicate data (o.takenAt + 20)) ∧
        (s.engine.slots[i].state = .empty →
          (∀ j : Fin 8, s.engine.slots[j].state = .loaded → s.engine.slots[j].version ≠ o.arg 1 1) →
          s.MemoryKept t noByte ∧
          t.orders = { s.orders with
            held := { s.orders.held with staging := some ⟨base, 16⟩ }
            service := some { o with stage := .loadingKey } })) ∧
  ∀ (s : State) (o : OrderInService) (i : Fin 8), s.sys.resetPin = false → s.MemoryLegal →
    s.orders.service = some o → o.stage = .loadingKey → i.val = o.arg 0 1 → 0x300 ≤ o.arg 2 4 →
    o.arg 2 4 + 16 ≤ 0x40000 → o.takenAt + 20 ≤ s.nextTick →
    let key := BitVec.ofNat 128 (Memory.readNat s.mem (o.arg 2 4) 16)
    ∃ t, exec .loadKeyComplete s = .next t ∧
      t = { s with
        timeBase := max s.timeBase (o.takenAt + 20)
        lanes := t.lanes
        engine := t.engine
        orders := t.orders
        mem := t.mem } ∧
      s.LanesKept t ∧ (∀ a, bytesFrom (o.arg 2 4) 16 a → Memory.read t.mem a = 0#8) ∧
      s.MemoryKept t (bytesFrom (o.arg 2 4) 16) ∧
      t.orders.held = { s.orders.held with staging := none } ∧ keyInputRight t ∧
      (key = 0#128 → t.engine = s.engine ∧
        s.EndedWith t o false .argument (.bytes (keySummary s.engine.slots)) t.timeBase) ∧
      (key ≠ 0#128 → t.engine = { s.engine with slots := s.engine.slots.set i ⟨.loaded, o.arg 1 1, key⟩ } ∧
        s.EndedWith t o true .none (.bytes (keySummary t.engine.slots)) t.timeBase)

/-- Tier 2. RETIRE KEY leaves a slot that is not EMPTY RETIRED with its key, ERASE KEY leaves any slot EMPTY with its
key gone; a slot number above 7, or an EMPTY slot to retire, is refused ARGUMENT (04 R72 to R74). -/
def Obligations.RetireAndEraseKey : Prop :=
  ∀ (s : State) (o : OrderInService), s.sys.resetPin = false →
    (s.Handed o 7 → ∃ t, exec .retireKey s = .next t ∧
      t = { s with lanes := t.lanes, engine := t.engine, orders := t.orders, mem := t.mem } ∧ s.LanesKept t ∧
      s.MemoryKept t noByte ∧ t.orders.held = s.orders.held ∧ keyInputRight t ∧
      (8 ≤ o.arg 0 1 → t.engine = s.engine ∧
        s.EndedWith t o false .argument (.bytes (keySummary s.engine.slots)) (o.takenAt + 20)) ∧
      ∀ i : Fin 8, i.val = o.arg 0 1 →
        (s.engine.slots[i].state = .empty → t.engine = s.engine ∧
          s.EndedWith t o false .argument (.bytes (keySummary s.engine.slots)) (o.takenAt + 20)) ∧
        (s.engine.slots[i].state ≠ .empty →
          t.engine = { s.engine with
            slots := s.engine.slots.set i { s.engine.slots[i] with state := .retired } } ∧
          s.EndedWith t o true .none (.bytes (keySummary t.engine.slots)) (o.takenAt + 20))) ∧
    (s.Handed o 8 → ∃ t, exec .eraseKey s = .next t ∧
      t = { s with lanes := t.lanes, engine := t.engine, orders := t.orders, mem := t.mem } ∧ s.LanesKept t ∧
      s.MemoryKept t noByte ∧ t.orders.held = s.orders.held ∧ keyInputRight t ∧
      (8 ≤ o.arg 0 1 → t.engine = s.engine ∧
        s.EndedWith t o false .argument (.bytes (keySummary s.engine.slots)) (o.takenAt + 20)) ∧
      ∀ i : Fin 8, i.val = o.arg 0 1 →
        t.engine = { s.engine with slots := s.engine.slots.set i ⟨.empty, 0, 0#128⟩ } ∧
        s.EndedWith t o true .none (.bytes (keySummary t.engine.slots)) (o.takenAt + 20))

/-! ## Lane orders -/

/-- Lane `l` is `x` at the step's end; every other lane and every byte but the shown ones is kept. -/
def laneBecomes (s t : State) (l : LaneId) (x : Lane) : Prop :=
  x.Concluded (t.lane l) ∧ s.OtherLanesKept t l ∧ s.MemoryKept t noByte

/-- The steps of R53 or R55 are being carried out at the lane: its dialogue is in CONFIRM or GRANT. -/
def grantInHand (s : State) (l : LaneId) : Prop :=
  ∃ d, (s.lane l).dialogue = some d ∧ (d.phase = .confirm ∨ d.phase = .grant)

/-- A row waits until the grants in hand are complete, and changes nothing before (03 R53, R55; assumption 10). -/
def deferredRow (s : State) (row : Deferred) : State := { s with deferred := s.deferred ++ [row] }

/-- Tier 2. SET LANE MODE is refused ARGUMENT, BUSY, NOT READY or BUSY by the checks of R135 in their order, with
nothing else changed; a mode the lane has already changes nothing; an in-service mode settles a lane in OUT (07 R135,
R136, R156). A mode that takes the lane out of service while a grant is in hand waits for it (assumption 10). That a
mode the lane has already is DONE even while the part is not ready, or the emergency input is asserted, is the model's
reading of R135 (assumption 18). -/
def Obligations.LaneModeIsSetOrRefused : Prop :=
  ∀ (s : State) (o : OrderInService), s.sys.resetPin = false → s.Settled → s.Handed o 9 →
    (3 < o.arg 0 1 ∨ 3 < o.arg 1 1 → ∃ t, exec .setLaneMode s = .next t ∧
      t = { s with orders := { s.orders with service := t.orders.service } } ∧
      s.EndedWith t o false .argument (.bytes []) (o.takenAt + 20)) ∧
    ∀ (l : LaneId) (mode : LaneMode), o.arg 0 1 = l.toNat → o.arg 1 1 = mode.code →
      let x := s.lane l
      let inService := mode = .entry ∨ mode = .exit
      let turns := x.mode = .entry ∧ mode = .exit ∨ x.mode = .exit ∧ mode = .entry
      let taken := x.credits ≠ [] ∨ x.passage ≠ none ∨ x.dialogue ≠ none
      let blocked := s.emergency.asserted = true ∧ mode ≠ .free
      let unready := inService ∧ s.orders.ready.summary ≠ 31
      let waits := x.pc ≠ .fault ∧ ¬ inService ∧ grantInHand s l
      ∃ t, exec .setLaneMode s = .next t ∧
        (x.mode = mode ∨ blocked ∨ unready ∨ turns ∧ taken →
          t = { s with orders := { s.orders with service := t.orders.service } }) ∧
        (x.mode = mode → s.EndedWith t o true .none (.laneNow l) (o.takenAt + 20)) ∧
        (x.mode ≠ mode → blocked → s.EndedWith t o false .busy (.bytes []) (o.takenAt + 20)) ∧
        (x.mode ≠ mode → ¬ blocked → unready → s.EndedWith t o false .notReady (.bytes []) (o.takenAt + 20)) ∧
        (x.mode ≠ mode → ¬ blocked → ¬ unready → turns → taken →
          s.EndedWith t o false .busy (.bytes []) (o.takenAt + 20)) ∧
        (x.mode ≠ mode → ¬ blocked → waits → t = deferredRow s .setLaneMode) ∧
        (x.mode ≠ mode → ¬ blocked → ¬ unready → ¬ (turns ∧ taken) → ¬ waits →
          s.EndedWith t o true .none (.laneNow l) (o.takenAt + 20) ∧ (t.lane l).mode = mode ∧
          (x.pc = .fault → laneBecomes s t l { x with mode := mode }) ∧
          (inService → x.pc = .out → x.field = .off →
            t = { s with lanes := t.lanes, orders := t.orders, mem := t.mem } ∧
            (x.closedLimit = true → x.stroking = none →
              laneBecomes s t l
                { x with
                  mode := mode
                  pc := .closed
                  drive := .hold .atClosed
                  field := .sniff
                  learning := true
                  carrier := none }) ∧
            (x.closedLimit = false ∨ x.stroking ≠ none →
              (t.lane l).field = .sniff ∧
              (x.beams.middle = .clear → (t.lane l).pc = .closing ∧ (t.lane l).stroking = some .atClosed) ∧
              (x.beams.middle = .blocked → (t.lane l).pc = .opening ∧ (t.lane l).stroking = some .atOpen))))

/-- The record of a credit that ends DROPPED (07 R141, 09 R178). -/
def droppedRequest (s : State) (l : LaneId) (c : Credit) : RecordRequest :=
  ⟨Record.blank .dropped l c.direction .none c.card s.now, .credit, .nobody⟩

/-- The dialogue of a lane has that result: decided, with RELEASE under way, or shown as the lane's last. -/
def endsWith (t : State) (l : LaneId) (code : ResultCode) : Prop :=
  (∀ d, (t.lane l).dialogue = some d → d.outcome = some code) ∧
  ((t.lane l).dialogue = none → (t.lane l).lastResult = code)

/-- An UNCERTAIN dialogue's card keeps its entry with the uncertainty part: old and new counter and check value, charge,
lane, direction and the station time of the outcome; only its mark may change, by the end of a credit of the card in the
same step (03 R54; 06 R112, R128). -/
def partAttached (s t : State) (l : LaneId) (d : Dialogue) (ended : List Credit) : Prop :=
  ∀ e image result, findSighting s.screening.table d.card = some e → d.image = some image →
    d.expected = some (purseCounter image) → d.pricing = some result →
    ∃ mark, findSighting t.screening.table d.card =
        some { e with
          mark := mark
          uncertainty := some
            { oldCounter := purseCounter d.purse
              oldCheck := purseCheck d.purse
              newCounter := purseCounter image
              newCheck := purseCheck image
              charge := result.charge
              lane := l
              direction := d.direction
              created := s.instant } } ∧
      ((∀ c ∈ ended, c.card ≠ d.card) → mark = e.mark)

/-- RELEASE of a dialogue that ends with that code, decided in this step or before it: an UNCERTAIN record or, for a known
card, a REFUSED one is asked for after the requests `before`, and RELEASE waits for it; without a record the dialogue is
over (03 R56, R59, R60). -/
def recordAsked (t : State) (l : LaneId) (d : Dialogue) (code : ResultCode) (before after : List RecordRequest) :
    Prop :=
  (∀ y, (t.lane l).dialogue = some y → y.phase = .release ∧ y.outcome = some code) ∧
  (code ≠ .uncertain → d.known = false → t.journal.queue = before ++ after ∧ (t.lane l).dialogue = none) ∧
  (code = .uncertain ∨ d.known = true → (t.lane l).dialogue ≠ none ∧
    ∃ record, t.journal.queue = before ++ ⟨record, .dialogue l, .release l⟩ :: after ∧ record.lane = l ∧
      record.direction = d.direction ∧ record.card = d.card ∧ record.result = code ∧
      (code ≠ .uncertain → record.kind = .refused) ∧
      (code = .uncertain → record.kind = .uncertain ∧
        ∀ image result, d.image = some image → d.expected = some (purseCounter image) → d.pricing = some result →
          record.counterBefore = purseCounter d.purse ∧ record.counterAfter = purseCounter image ∧
          record.charge = result.charge ∧ record.balanceAfter = result.newBalance))

/-- A dialogue is ended by that outcome in this step. While its claim or screen is at the Screening Unit, RELEASE waits;
otherwise it begins at once (03 R38, R54, R56). -/
def endsNow (s t : State) (l : LaneId) (d : Dialogue) (code : ResultCode) (ended : List Credit) : Prop :=
  endsWith t l code ∧
  ((∀ o, d.outstanding = some o → o.atScreening = false) →
    recordAsked t l d code s.journal.queue (ended.map (droppedRequest s l)) ∧
    (code = .uncertain → partAttached s t l d ended)) ∧
  ∀ o, d.outstanding = some o → o.atScreening = true →
    t.journal.queue = s.journal.queue ++ ended.map (droppedRequest s l) ∧
    ∃ y, (t.lane l).dialogue = some y ∧ y.outcome = some code ∧ y.phase = d.phase ∧ y.outstanding = some o

/-- Tier 2. A SET LANE MODE of OUT or FREE takes the field OFF, ends the passage and drops every credit, with a DROPPED
record each; a dialogue ends ABORTED, or UNCERTAIN once its write was sent, with its result record asked for and an
uncertainty part at the card's entry (06 R112, R128; 07 R136, R137; 02 R14; 03 R38, R54, R56, R59, R60, R63). While a
grant is in hand at the lane the order waits, which LaneModeIsSetOrRefused states (assumption 10). -/
def Obligations.LeavingServiceEndsWhatTheLaneDoes : Prop :=
  ∀ (s : State) (o : OrderInService) (l : LaneId) (mode : LaneMode), s.sys.resetPin = false → s.Handed o 9 →
    o.arg 0 1 = l.toNat → o.arg 1 1 = mode.code → (mode = .out ∨ mode = .free) → (s.lane l).mode ≠ mode →
    (s.lane l).pc ≠ .fault → (s.emergency.asserted = true → mode = .free) → ¬ grantInHand s l →
    ∃ t, exec .setLaneMode s = .next t ∧
      t = { s with
        lanes := t.lanes
        scanner := (if (s.lane l).field = .sniff then s.scanner.leave l else s.scanner)
        engine := { s.engine with requests := t.engine.requests }
        screening := { s.screening with table := t.screening.table }
        journal := t.journal
        orders := { s.orders with service := t.orders.service }
        mem := t.mem } ∧
      s.EndedWith t o true .none (.laneNow l) (o.takenAt + 20) ∧ s.OtherLanesKept t l ∧ s.MemoryKept t noByte ∧
      (t.lane l).mode = mode ∧ (t.lane l).field = .off ∧ (t.lane l).credits = [] ∧ (t.lane l).passage = none ∧
      (t.lane l).timedDisplay = none ∧ (t.lane l).beams = (s.lane l).beams ∧ (mode = .free → (t.lane l).pc = .free) ∧
      (∀ d, (s.lane l).dialogue = some d → (s.lane l).field = .on → d.outcome = none →
        endsNow s t l d (if d.writeSent then .uncertain else .aborted) (s.lane l).credits) ∧
      ((s.lane l).dialogue = none →
        t.journal = { s.journal with
          queue := s.journal.queue ++ (s.lane l).credits.map (droppedRequest s l)
          writeDue := t.journal.writeDue } ∧
        t.engine = s.engine)

/-- Tier 2. RESET LANE ends what the lane does, a dialogue with its result record and, once its write was sent, its
uncertainty part (03 R54, R56, R63; 06 R112), clears the fault cause, the obstruction run, gain, noise runs and
DEGRADED, and settles the leaves, or in mode FREE starts an opening stroke unless the open limit is active, where a BRAKE
runs on (07 R151) and any other drive goes to HOLD (assumption 19), and no other lane is touched; a field that was not OFF goes OFF, which the lane's
block shows and its stamp counts even where the field returns to SNIFF at once (02 R12, R13; 10 R189); it waits while a
grant is in hand at the lane (assumption 10). CLEAR LANE COUNTS clears the four counts alone; a lane number above 3 is
refused ARGUMENT (07 R149, R159; 02 R34). That RESET LANE raises LANE at a DEGRADED lane is assumption 38. That the
stamp then advances once is the model's (assumption 11). -/
def Obligations.ResetLaneAndClearLaneCounts : Prop :=
  ∀ (s : State) (o : OrderInService), s.sys.resetPin = false → s.Settled →
    (3 < o.arg 0 1 →
      (s.Handed o 10 → ∃ t, exec .resetLane s = .next t ∧
        t = { s with orders := { s.orders with service := t.orders.service } } ∧
        s.EndedWith t o false .argument (.bytes []) (o.takenAt + 20)) ∧
      (s.Handed o 11 → ∃ t, exec .clearLaneCounts s = .next t ∧
        t = { s with orders := { s.orders with service := t.orders.service } } ∧
        s.EndedWith t o false .argument (.bytes []) (o.takenAt + 20))) ∧
    ∀ l : LaneId, o.arg 0 1 = l.toNat →
      (s.Handed o 11 → ∃ t, exec .clearLaneCounts s = .next t ∧
        t = { s with
          lanes := t.lanes
          orders := { s.orders with service := t.orders.service }
          mem := t.mem } ∧
        laneBecomes s t l { s.lane l with tailgate := 0, intrusion := 0, stuck := 0, obstruction := 0 } ∧
        s.EndedWith t o true .none (.bytes []) (o.takenAt + 20)) ∧
      (s.Handed o 10 → grantInHand s l → exec .resetLane s = .next (deferredRow s .resetLane)) ∧
      (s.Handed o 10 → ¬ grantInHand s l → ∃ t, exec .resetLane s = .next t ∧
        t = { s with
          lanes := t.lanes
          scanner := (if (s.lane l).field = .sniff then s.scanner.leave l else s.scanner)
          engine := { s.engine with requests := t.engine.requests }
          screening := { s.screening with table := t.screening.table }
          journal := t.journal
          orders := { s.orders with service := t.orders.service }
          regs := t.regs
          mem := t.mem } ∧
        s.EndedWith t o true .none (.bytes (t.lane l).modeAndState) (o.takenAt + 20) ∧ s.OtherLanesKept t l ∧
        s.MemoryKept t noByte ∧
        let x := s.lane l
        let y := t.lane l
        (x.field ≠ .off → y.stamp = x.stamp + 1#16) ∧
        y.mode = x.mode ∧ y.credits = [] ∧ y.passage = none ∧ y.faultCause = .none ∧ y.obstructionRun = 0 ∧
        y.gain = 16 ∧ y.noisyRun = 0 ∧ y.quietRun = 0 ∧ y.degraded = false ∧ y.baseline = x.baseline ∧
        y.tailgate = x.tailgate ∧ y.intrusion = x.intrusion ∧ y.stuck = x.stuck ∧ y.obstruction = x.obstruction ∧
        y.beams = x.beams ∧ y.field = (if x.mode = .entry ∨ x.mode = .exit then .sniff else .off) ∧
        (x.mode = .free → y.pc = .free ∧
          (x.openLimit = true → (∀ limit due, x.drive = .brake limit due → y.drive = x.drive) ∧
            ((∀ limit due, x.drive ≠ .brake limit due) → y.drive = .hold .atOpen)) ∧
          (x.openLimit = false → y.drive = .stroke .atOpen
            (if s.params.boost = 0 then none else some (s.timeBase + 10000 * s.params.boost))
            (s.timeBase + 10000000) s.params.brake)) ∧
        (∀ d, x.dialogue = some d → x.field = .on → d.outcome = none →
          endsNow s t l d (if d.writeSent then .uncertain else .aborted) x.credits) ∧
        (x.dialogue = none →
          t.journal = { s.journal with
            queue := s.journal.queue ++ x.credits.map (droppedRequest s l)
            writeDue := t.journal.writeDue } ∧
          t.engine = s.engine ∧
          t.regs = (if x.degraded then { s.regs with attention := s.regs.attention ||| 0x0004#16 } else s.regs) ∧
          (x.mode ≠ .free → x.closedLimit = true → x.stroking = none →
            y.pc = (if x.mode = .out then .out else .closed) ∧ y.drive = .hold .atClosed) ∧
          (x.mode ≠ .free → x.closedLimit = false ∨ x.stroking ≠ none →
            (x.beams.middle = .clear → y.pc = .closing ∧ y.stroking = some .atClosed) ∧
            (x.beams.middle = .blocked → y.pc = .opening ∧ y.stroking = some .atOpen))))

/-- Tier 2. READ SIGHTING gives the summary and, at a good copy offset, the 80-byte copy, and changes no entry; FORGET
CARD removes an entry that is not claimed, at once when it has no uncertainty part. With a part its UNRESOLVED record is
asked for first, and when that record is written the entry is removed and the order ends DONE (06 R131, R132, R123). -/
def Obligations.SightingOrdersReadAndForget : Prop :=
  (∀ (s : State) (o : OrderInService), s.sys.resetPin = false → s.Settled → s.MemoryLegal →
    let card := BitVec.ofNat 64 (o.arg 0 8)
    let copy := o.arg 8 4
    let good := copy = 0 ∨ copy % 2 = 0 ∧ 0x300 ≤ copy ∧ copy + 80 ≤ 0x40000 ∧
      s.orders.held.overlaps ⟨copy, 80⟩ = false
    (s.Handed o 12 → ∃ t, exec .readSighting s = .next t ∧
      t = { s with mem := t.mem, orders := { s.orders with service := t.orders.service } } ∧
      (¬ good → t.mem = s.mem ∧ s.EndedWith t o false .argument (.bytes []) (o.takenAt + 20)) ∧
      (good → findSighting s.screening.table card = none →
        t.mem = s.mem ∧ s.EndedWith t o true .notFound (.bytes []) (o.takenAt + 20)) ∧
      ∀ e, good → findSighting s.screening.table card = some e →
        s.EndedWith t o true .found (.bytes e.summary) (o.takenAt + 20) ∧
        (copy = 0 → t.mem = s.mem) ∧
        (copy ≠ 0 → Memory.readBytes t.mem copy 80 = e.copyBytes ∧
          ∀ a, ¬ bytesFrom copy 80 a → Memory.read t.mem a = Memory.read s.mem a)) ∧
    (s.Handed o 13 → ∃ t, exec .forgetCard s = .next t ∧
      t = { s with
        screening := { s.screening with table := t.screening.table }
        journal := t.journal
        orders := { s.orders with service := t.orders.service } } ∧
      (∀ c, c ≠ card → findSighting t.screening.table c = findSighting s.screening.table c) ∧
      (findSighting s.screening.table card = none → t.screening = s.screening ∧ t.journal = s.journal ∧
        s.EndedWith t o true .notFound (.bytes []) (o.takenAt + 20)) ∧
      ∀ e, findSighting s.screening.table card = some e →
        (e.claim ≠ none → t.screening = s.screening ∧ t.journal = s.journal ∧
          s.EndedWith t o false .busy (.bytes []) (o.takenAt + 20)) ∧
        (e.claim = none → e.uncertainty = none → t.journal = s.journal ∧
          findSighting t.screening.table card = none ∧
          s.EndedWith t o true .none (.bytes []) (o.takenAt + 20)) ∧
        ∀ u, e.claim = none → e.uncertainty = some u →
          t.screening = s.screening ∧
          t.orders.service = some { o with stage := .forgetting card } ∧
          t.journal = { s.journal with
            queue := s.journal.queue ++ [⟨resolvedRecord card u u.lane .unresolved s.now false, .part, .order⟩]
            writeDue := t.journal.writeDue })) ∧
  ∀ (s : State) (o : OrderInService) (card : CardNumber) (q : RecordRequest) (rest : List RecordRequest) (r : Ring),
    s.sys.resetPin = false → s.MemoryLegal → s.orders.service = some o → o.stage = .forgetting card →
    s.journal.queue = q :: rest → s.journal.ring = some r → q.waiter = .order → q.holder = .part →
    s.journal.writeDue ≤ s.nextTick → ringInFree s →
    ∃ t, exec .journalRecordWrite s = .next t ∧ recordWritten s t q rest r ∧
      t = { s with
        timeBase := t.timeBase
        lanes := t.lanes
        screening := { s.screening with table := t.screening.table }
        journal := t.journal
        orders := { s.orders with service := t.orders.service }
        regs := t.regs
        mem := t.mem } ∧
      s.LanesKept t ∧ t.journal.reserved = s.journal.reserved - 1 ∧
      findSighting t.screening.table card = none ∧
      (∀ c, c ≠ card → findSighting t.screening.table c = findSighting s.screening.table c) ∧
      s.EndedWith t o true .none (.bytes []) (o.takenAt + 20)

/-! ## The Presence Scanner -/

/-- The scanner after the measurement of the first of `lanes` begins at `now`: 60 µs of settling (02 R17). -/
def nextMeasured (round : Option ScanRound) (lanes : List LaneId) (now : Nat) : Scanner :=
  match lanes with
  | [] => ⟨round, [], none⟩
  | l :: rest => ⟨round, rest, some ⟨l, false, now + 600, false⟩⟩

/-- The carrier of a pulse or of the field, at the increment and polarity in force (02 R17, R23). -/
def carrierAt (s : State) (l : LaneId) (now : Nat) : Carrier :=
  ⟨s.params.increment.get l, s.params.polarity.get l, now⟩

/-- What a lane's antenna carries: a running carrier follows the top bit of its 28-bit accumulator, which adds the
increment at each clock of 54 MHz (02 R23); the drive stands at the polarity's level for a carrier that is on, and at its
opposite while the carrier is off and in the gaps, each the first quarter of a 0 bit's period (02 R24). A bit period is 625/8 of
0.1 µs at full rate (02 R30). -/
def antennaRules : Prop :=
  (∀ (c : Carrier) (now : Nat),
    c.level now = decide (2 ^ 27 ≤ c.increment * ((now - c.start) * 54 / 10) % 2 ^ 28)) ∧
  (∀ (s : State) (l : LaneId) (now : Nat),
    ((s.lane l).carrier = none → s.antennaHigh l now = decide (s.params.polarity.get l = .inverted)) ∧
    ∀ c, (s.lane l).carrier = some c →
      s.antennaHigh l now = (if (s.lane l).inGap now then decide (c.polarity = .inverted)
        else decide (c.polarity = .normal))) ∧
  (∀ (x : Lane) (now : Nat), (∀ due c half wait, x.link ≠ .sending due c half wait) → x.inGap now = false) ∧
  ∀ (bits : List Bool) (i t : Nat), 625 * i ≤ 8 * t → 8 * t < 625 * (i + 1) →
    inGapAt bits false t = decide (bits[i]? = some false ∧ 4 * (8 * t - 625 * i) < 625)

/-- Tier 2. A round starts at once after a start-up, and then one period after the last, over the lanes in SNIFF in
ascending number; a conversion of 40 µs follows the settle time (02 R15 to R17). The carrier, of a pulse as of the
field, follows its accumulator and the antenna drive its polarity (02 R23, R24). That the accumulator is a function of
the carrier's start and the time is assumption 27. -/
def Obligations.ScannerMeasuresInRounds : Prop :=
  (∀ (s : State) (start : Nat), s.sys.resetPin = false → s.Settled → s.scanner.measuring = none →
    (s.scanner.round = none ∧ start = s.timeBase ∨ ∃ r, s.scanner.round = some r ∧ start = r.start + r.period) →
    start ≤ s.nextTick →
    ∃ t, exec .scanRoundStart s = .next t ∧
      t = { s with timeBase := max s.timeBase start, scanner := t.scanner, lanes := t.lanes } ∧
      t.scanner = nextMeasured (some ⟨start, 10000 * s.params.scanPeriod⟩)
        ([LaneId.lane0, .lane1, .lane2, .lane3].filter fun l => (s.lane l).field = .sniff) t.timeBase ∧
      ∀ l, t.lane l =
        if t.scanner.measuring.any (fun m => m.lane = l) then
          { s.lane l with carrier := some (carrierAt s l t.timeBase) }
        else s.lane l) ∧
  (∀ (s : State) (m : Measurement), s.sys.resetPin = false → s.Settled → s.scanner.measuring = some m →
    m.converting = false → m.due ≤ s.nextTick →
    ∃ t, exec .settleEnd s = .next t ∧
      t = { s with
        timeBase := max s.timeBase m.due
        scanner := { s.scanner with measuring := some { m with converting := true, due := t.timeBase + 400 } } }) ∧
  antennaRules

/-- Tier 2. A conversion's end stops the pulse and goes to the next lane. A learning reading sets the baseline, a
reading near the baseline moves it by a sixteenth of the difference, and a reading of a lane that has left SNIFF
changes nothing (02 R17 to R20). The load is given in 1/256ths of a step (assumption 22). -/
def Obligations.ReadingsMoveTheBaseline : Prop :=
  ∀ (s : State) (m : Measurement) (load : Nat), s.sys.resetPin = false → s.Settled → s.scanner.measuring = some m →
    m.converting = true → m.due ≤ s.nextTick → m.lane ∉ s.scanner.rest →
    let x := s.lane m.lane
    let reading := min 1023 ((load + 128) / 256)
    let distance := ((reading : Int) - (x.baseline : Int)).natAbs
    (m.left = true ∨ x.learning = true ∨ distance < s.params.detectDelta) →
    ∃ t, exec (.conversionEnd load) s = .next t ∧
      t = { s with timeBase := max s.timeBase m.due, scanner := t.scanner, lanes := t.lanes } ∧
      t.scanner = nextMeasured s.scanner.round s.scanner.rest t.timeBase ∧
      (m.left = true → t.lane m.lane = x) ∧
      (m.left = false → x.learning = true →
        t.lane m.lane =
          { x with carrier := none, baseline := reading, learning := false, waitRequest := false }) ∧
      (m.left = false → x.learning = false → distance < s.params.detectDelta →
        t.lane m.lane =
          { x with
            carrier := none
            baseline := (x.baseline + Int.tdiv ((reading : Int) - (x.baseline : Int)) 16).toNat
            waitRequest := false }) ∧
      ∀ l, l ≠ m.lane → t.lane l =
        if t.scanner.measuring.any (fun m => m.lane = l) then
          { s.lane l with carrier := some (carrierAt s l t.timeBase) }
        else s.lane l

/-- Tier 2. A reading that departs by the detect delta starts a dialogue at a lane that may start one, with the field
ON, 4 journal places reserved and a hold of 2 ms; at any other lane it asks for the WAIT symbol, and shows JOURNAL FULL
when the open room is below 4 (02 R21, R22; 03 R37; 09 R179, R181). That the noise measurement in the hold begins with
it, under the threshold then in force, is the model's (assumption 46). -/
def Obligations.DetectionStartsADialogue : Prop :=
  ∀ (s : State) (m : Measurement) (load : Nat), s.sys.resetPin = false → s.Settled → s.scanner.measuring = some m →
    m.converting = true → m.left = false → m.due ≤ s.nextTick → m.lane ∉ s.scanner.rest →
    let x := s.lane m.lane
    x.learning = false →
    s.params.detectDelta ≤ (((min 1023 ((load + 128) / 256) : Nat) : Int) - (x.baseline : Int)).natAbs →
    let mayStart := (x.pc = .closed ∨ x.pc = .opened) ∧ x.dialogue = none ∧ x.credits.length < 3 ∧
      4 ≤ s.journal.openRoom
    ∃ t, exec (.conversionEnd load) s = .next t ∧
      t = { s with
        timeBase := max s.timeBase m.due
        scanner := t.scanner
        lanes := t.lanes
        journal := { s.journal with reserved := t.journal.reserved }
        mem := t.mem } ∧
      s.MemoryKept t noByte ∧ t.scanner = nextMeasured s.scanner.round s.scanner.rest t.timeBase ∧
      (mayStart → t.journal.reserved = s.journal.reserved + 4 ∧ (t.lane m.lane).field = .on ∧
        (t.lane m.lane).carrier = some (carrierAt s m.lane t.timeBase) ∧
        (t.lane m.lane).link = .hold (t.timeBase + 20000) s.params.noiseThreshold ∧ (t.lane m.lane).inProgress = true ∧
        (t.lane m.lane).watch = none ∧
        ∃ d, (t.lane m.lane).dialogue = some d ∧ d.phase = .select ∧
          d.direction = (if x.mode = .exit then .exit else .entry) ∧
          d.deadline = s.instant + s.params.dialogueWindow ∧ d.identity = none ∧ d.cardKey = none ∧
          d.claimHeld = false ∧ d.writeSent = false ∧ d.outcome = none ∧ d.reserved = 4 ∧
          d.degradedNote = x.degraded) ∧
      (¬ mayStart → t.journal = s.journal ∧
        Lane.Concluded { x with carrier := none, waitRequest := true } (t.lane m.lane) ∧
        ((t.lane m.lane).journalFull = true ↔ s.journal.openRoom < 4)) ∧
      ∀ l, l ≠ m.lane → Lane.Concluded
        (if t.scanner.measuring.any (fun m => m.lane = l) then
          { s.lane l with carrier := some (carrierAt s l t.timeBase) }
        else s.lane l) (t.lane l)

/-! ## The card link -/

/-- A lane after a noise measurement: above the threshold the fourth in a row sets DEGRADED, and 16 in a row at or below
it clear DEGRADED; a change of the flag returns both runs to 0 (02 R29). -/
def noiseRule (threshold level : Nat) (x y : Lane) : Prop :=
  y = if x.degraded = true then
      if threshold < level then { x with quietRun := 0 }
      else if x.quietRun < 15 then { x with quietRun := x.quietRun + 1 }
      else { x with degraded := false, noisyRun := 0, quietRun := 0 }
    else if threshold < level then
      if x.noisyRun < 3 then { x with noisyRun := x.noisyRun + 1 }
      else { x with degraded := true, noisyRun := 0, quietRun := 0 }
    else { x with noisyRun := 0 }

/-- The link while a frame of that many bytes is sent, at full rate or, DEGRADED, at half rate and with twice the response
wait (02 R25, R30). -/
def sendingAt (s : State) (degraded : Bool) (now : Nat) (c : CardCommand) (bytes : Nat) : LinkActivity :=
  .sending (now + (2 + bytes) * 625 * (if degraded then 2 else 1)) c degraded
    (10000 * (s.params.responseWait * (if degraded then 2 else 1)))

/-- A dialogue's note of a DEGRADED link (02 R30). -/
def noted (d : Dialogue) (degraded : Bool) : Dialogue := { d with degradedNote := d.degradedNote || degraded }

/-- Tier 2. The hold ends with the first SELECT, a noise measurement ends with its frame, judged by the threshold in
force as it began. LANE is raised when DEGRADED changes; an AUTH takes a challenge unlike the last, a WRITE PURSE
counts as sent, a PROBE sets the next one's time, 20 ms from its own first bit (assumption 14). The frame's last bit
opens the response wait, and a start pattern within it begins an answer, which clears the miss count of a removal watch
(02 R21, R25, R29, R30, R32; 03 R40, R41; 04 R76); that the row falls on the answer's first bit is assumption 42. -/
def Obligations.FramesBeginAfterTheNoiseMeasurement : Prop :=
  (∀ (s : State) (l : LaneId) (level : Byte) (d : Dialogue) (due threshold : Nat), s.sys.resetPin = false →
    due ≤ s.nextTick →
    let x := s.lane l
    let attention := fun y : Lane =>
      if x.degraded = y.degraded then s.regs else { s.regs with attention := s.regs.attention ||| 0x0004#16 }
    (x.link = .hold due threshold → x.dialogue = some d →
      ∃ t y, exec (.powerUpHoldEnd l level) s = .next t ∧ noiseRule threshold level.toNat x y ∧
        t = { s with timeBase := max s.timeBase due, lanes := t.lanes, regs := attention y, mem := t.mem } ∧
        laneBecomes s t l
          { y with
            link := sendingAt s y.degraded t.timeBase .select 3
            dialogue := some { noted d y.degraded with command := some .select, sendings := 1 } }) ∧
    (∀ c, x.link = .noise due c threshold → x.dialogue = some d → c ≠ .probe →
      ∃ t y v, exec (.noiseMeasurementEnd l level) s = .next t ∧ noiseRule threshold level.toNat x y ∧
        t = { s with
          timeBase := max s.timeBase due
          lanes := t.lanes
          regs := attention y
          engine := (if c = .auth then
            { s.engine with draws := s.engine.draws + 1, lastChallenge := some v } else s.engine)
          mem := t.mem } ∧
        s.engine.lastChallenge ≠ some v ∧
        laneBecomes s t l
          { y with
            link := sendingAt s y.degraded t.timeBase c c.byteLength
            dialogue := some { noted d y.degraded with
              challenge := if c = .auth then some v else d.challenge
              writeSent := (match c with | .writePurse _ => true | _ => d.writeSent) } }) ∧
    (∀ w, x.link = .noise due .probe threshold → x.dialogue = none → x.watch = some w →
      ∃ t y, exec (.noiseMeasurementEnd l level) s = .next t ∧ noiseRule threshold level.toNat x y ∧
        t = { s with timeBase := max s.timeBase due, lanes := t.lanes, regs := attention y, mem := t.mem } ∧
        laneBecomes s t l
          { y with
            link := sendingAt s y.degraded t.timeBase .probe 3
            watch := some { w with probeAt := some (s.instant + 20) } })) ∧
  ∀ (s : State) (l : LaneId) (due : Nat) (half : Bool), s.sys.resetPin = false → s.Settled →
    (∀ c wait, (s.lane l).link = .sending due c half wait → due ≤ s.nextTick →
      ∃ t, exec (.frameSent l) s = .next t ∧ t = { s with timeBase := max s.timeBase due, lanes := t.lanes } ∧
        t.lane l = { s.lane l with link := .waiting (t.timeBase + wait) half } ∧ ∀ k, k ≠ l → t.lane k = s.lane k) ∧
    ((s.lane l).link = .waiting due half → s.timeBase ≤ due →
      ∃ t, exec (.answerStart l) s = .next t ∧ t = { s with lanes := t.lanes } ∧
        t.lane l =
          { s.lane l with
            link := .receiving s.timeBase half
            watch := (s.lane l).watch.map fun w => { w with misses := 0 } } ∧
        ∀ k, k ≠ l → t.lane k = s.lane k)

/-- The gain step after a frame of that peak level (02 R28). -/
def gainAfter (s : State) (gain : Nat) (peak : Byte) : Nat :=
  if s.params.gainTarget + 8 < peak.toNat then gain - 1
  else if peak.toNat + 8 < s.params.gainTarget then min 31 (gain + 1)
  else gain

/-- Only what a dialogue's step at lane `l` may change has changed. -/
def dialogueFrame (s t : State) (l : LaneId) : Prop :=
  t = { s with
    timeBase := t.timeBase
    lanes := t.lanes
    engine := { s.engine with requests := t.engine.requests, service := t.engine.service }
    screening := { s.screening with table := t.screening.table }
    journal := { s.journal with
      queue := t.journal.queue
      writeDue := t.journal.writeDue
      reserved := t.journal.reserved }
    mem := t.mem } ∧
  s.OtherLanesKept t l ∧ s.MemoryKept t noByte

/-- An answer of that many bytes is being received, and its last bit falls at `ends`: a frame time after its first, at the
rate of its command (02 R25, R30; 08 R165). -/
def answerEnds (s : State) (l : LaneId) (bytes ends : Nat) : Prop :=
  ends ≤ s.nextTick ∧ ∃ start half, (s.lane l).link = .receiving start half ∧
    ends = start + (2 + bytes) * 625 * (if half then 2 else 1)

/-- Tier 2. A command without an answer, or with a bad one, is sent again after a noise measurement, three sendings at
the most; the third ends the dialogue LOST, or UNCERTAIN once the write was sent, with the uncertainty part and the
UNCERTAIN record of R54. Answers that overlap end a dialogue in SELECT as MULTIPLE. Every answer moves the gain step,
and one in the removal watch does no more but let an owed PROBE go (01 R1, R2, R10; 03 R54, R56; 06 R112; 02 R26 to
R28, R31, R32). That an overlap outside SELECT counts as a bad answer is the model's (assumption 29). -/
def Obligations.UnansweredCommandsAreSentAgain : Prop :=
  (∀ (s : State) (l : LaneId) (d : Dialogue) (c : CardCommand), s.sys.resetPin = false →
    (s.lane l).dialogue = some d → d.command = some c →
    (∀ due half, (s.lane l).link = .waiting due half → due ≤ s.nextTick →
      ∃ t, exec (.responseWaitExpiry l) s = .next t ∧ dialogueFrame s t l ∧ t.timeBase = max s.timeBase due ∧
        (t.lane l).gain = (s.lane l).gain ∧
        (d.sendings < 3 → laneBecomes s t l
          { s.lane l with
            link := .noise (t.timeBase + 2000) c s.params.noiseThreshold
            dialogue := some { d with sendings := d.sendings + 1 } }) ∧
        (3 ≤ d.sendings → endsNow s t l d (if d.writeSent then .uncertain else .lost) [])) ∧
    (∀ (peak : Byte) (answer : Reception) (ends : Nat), answerEnds s l (receptionLength answer) ends →
      (∃ f, answer = .single f ∧ goodAnswer c d.blockSize f = false) ∨
        (∃ n, answer = .overlapped n ∧ d.phase ≠ .select) →
      ∃ t, exec (.answerReceived l peak answer) s = .next t ∧ dialogueFrame s t l ∧
        t.timeBase = max s.timeBase ends ∧ (t.lane l).gain = gainAfter s (s.lane l).gain peak ∧
        (d.sendings < 3 → laneBecomes s t l
          { s.lane l with
            gain := gainAfter s (s.lane l).gain peak
            link := .noise (t.timeBase + 2000) c s.params.noiseThreshold
            dialogue := some { d with sendings := d.sendings + 1 } }) ∧
        (3 ≤ d.sendings → endsNow s t l d (if d.writeSent then .uncertain else .lost) [])) ∧
    ∀ (peak : Byte) (n ends : Nat), answerEnds s l n ends → d.phase = .select →
      ∃ t, exec (.answerReceived l peak (.overlapped n)) s = .next t ∧ dialogueFrame s t l ∧
        t.timeBase = max s.timeBase ends ∧ (t.lane l).gain = gainAfter s (s.lane l).gain peak ∧
        endsWith t l .multiple ∧ (d.known = false → t.journal.queue = s.journal.queue)) ∧
  ∀ (s : State) (l : LaneId) (peak : Byte) (answer : Reception) (ends : Nat) (w : RemovalWatch),
    s.sys.resetPin = false → (s.lane l).dialogue = none → (s.lane l).watch = some w →
    answerEnds s l (receptionLength answer) ends →
    ∃ t, exec (.answerReceived l peak answer) s = .next t ∧
      t = { s with timeBase := max s.timeBase ends, lanes := t.lanes, mem := t.mem } ∧
      laneBecomes s t l
        { s.lane l with
          gain := gainAfter s (s.lane l).gain peak
          link := if w.owed then .noise (t.timeBase + 2000) .probe s.params.noiseThreshold else .idle
          watch := some (if w.owed then ⟨w.misses, none, false⟩ else w) }

/-- A command is about to be sent for the first time: its noise measurement runs (02 R26, R29). -/
def firstSending (t : State) (l : LaneId) (c : CardCommand) : Prop :=
  (t.lane l).link = .noise (t.timeBase + 2000) c t.params.noiseThreshold ∧
  ∃ d, (t.lane l).dialogue = some d ∧ d.command = some c ∧ d.sendings = 1

/-- What an operation finds for its working store as it enters service: DERIVE the master key of the one LOADED slot of
the card's key version, KEY RETIRED where the version stands in RETIRED slots only, else KEY UNKNOWN (04 R68); every
other operation the card key of the dialogue (04 R75). -/
def storeFor (slots : Vector KeySlot 8) (op : AeOperation) (cardKey : Option Key) (store : WorkingStore) : Prop :=
  match op with
  | .derive _ version =>
    let holds := fun (state : KeyState) (j : Fin 8) => slots[j].state = state ∧ slots[j].version = version
    (∀ j, holds .loaded j → (∀ i, holds .loaded i → i = j) → store = .key slots[j].key) ∧
    ((∀ j, ¬ holds .loaded j) → (∃ j, holds .retired j) → store = .keyRetired) ∧
    ((∀ j, ¬ holds .loaded j) → (∀ j, ¬ holds .retired j) → store = .keyUnknown)
  | _ => ∀ k, cardKey = some k → store = .key k

/-- A dialogue's request to the engine: it waits in the list with the dialogue's tag and deadline, or is granted at once
when the engine is free and the list empty, with its working store (04 R68, R75, R77). -/
def enginedFor (s t : State) (l : LaneId) (d : Dialogue) (op : AeOperation) : Prop :=
  (∃ y, (t.lane l).dialogue = some y ∧ y.outstanding = some .engine) ∧
  (s.engine.service ≠ none → t.engine.service = s.engine.service ∧
    t.engine.requests = s.engine.requests ++ [⟨l, d.tag, op, d.deadline⟩]) ∧
  (s.engine.service = none → s.engine.requests = [] → t.engine.requests = [] ∧
    ∃ w, t.engine.service = some w ∧ w.lane = l ∧ w.tag = d.tag ∧ w.operation = op ∧
      w.completes = t.timeBase + 10 * op.duration ∧ storeFor s.engine.slots op d.cardKey w.store)

/-- Tier 2. What a good answer does. SELECT: the identity is kept and examined, IDENTIFY follows, or FORMAT, which is
journaled when the number is valid. IDENTIFY: the card is bound and the claim asked for. AUTH: an AUTH CHECK is asked
for with the challenge last sent. READ: the block is put into the record area, and the next one is read, or the whole
images are examined and VERIFY asked for, or FORMAT. A PURSE ACK with the expected counter confirms the write: the last
image is the sealed one, the fare record with ACCEPT is asked for, and the credit waits for it. With any other counter
the dialogue ends UNCERTAIN, with the uncertainty part and the UNCERTAIN record of R54 (01 R3 to R6, R8, R11; 03 R42,
R45, R46, R52 to R54, R56; 06 R108, R111, R112). -/
def Obligations.PurseAckConfirmsOrLeavesUncertain : Prop :=
  ∀ (s : State) (l : LaneId) (d : Dialogue) (c : CardCommand) (peak : Byte) (f : AnswerFrame) (ends : Nat),
    s.sys.resetPin = false → (s.lane l).dialogue = some d → d.command = some c →
    answerEnds s l f.bytes.length ends → goodAnswer c d.blockSize f = true →
    let fields := f.bytes.drop 1
    ∃ t, exec (.answerReceived l peak (.single f)) s = .next t ∧ dialogueFrame s t l ∧
      t.timeBase = max s.timeBase ends ∧ (t.lane l).gain = gainAfter s (s.lane l).gain peak ∧
      (c = .select →
        let card := BitVec.ofNat 64 (leNat (fields.take 8))
        let size := leNat ((fields.drop 8).take 1)
        let version := leNat ((fields.drop 9).take 1)
        let valid := card ≠ 0#64 ∧ card ≠ BitVec.allOnes 64
        let sized := size = 16 ∨ size = 32
        (valid → sized → firstSending t l (.identify card) ∧ ∃ y, (t.lane l).dialogue = some y ∧
          y.phase = .identify ∧ y.identity = some ⟨card, size, version⟩ ∧ y.known = false) ∧
        (¬ valid ∨ ¬ sized → endsWith t l .format) ∧
        (¬ valid → t.journal.queue = s.journal.queue) ∧
        (valid → ¬ sized → (∀ o, d.outstanding = some o → o.atScreening = false) →
          ∃ record, t.journal.queue = s.journal.queue ++ [⟨record, .dialogue l, .release l⟩] ∧
            record.kind = .refused ∧ record.result = .format ∧ record.card = card)) ∧
      (∀ card, c = .identify card → ∃ y, (t.lane l).dialogue = some y ∧ y.phase = .claim ∧ y.known = true ∧
        y.command = none ∧ y.identity = d.identity ∧ y.outstanding = some (.claim (t.timeBase + 20) s.now)) ∧
      (∀ v, c = .auth → d.challenge = some v →
        enginedFor s t l d (.authCheck (BitVec.ofNat 64 (leNat (fields.take 8))) v d.card)) ∧
      (∀ index i, c = .read index → d.identity = some i →
        let off := index * i.blockSize
        let block := (fields.drop 1).take i.blockSize
        let area := d.recordArea.take off ++ block ++ d.recordArea.drop (off + block.length)
        ((index + 1) * i.blockSize < 64 → firstSending t l (.read (index + 1)) ∧
          ∃ y, (t.lane l).dialogue = some y ∧ y.recordArea = area ∧ y.phase = d.phase) ∧
        (64 ≤ (index + 1) * i.blockSize →
          (productPasses (area.take 32) = true → pursePasses (area.drop 32) = true →
            enginedFor s t l d (.verify (area.take 32) (area.drop 32)) ∧
            ∃ y, (t.lane l).dialogue = some y ∧ y.recordArea = area ∧ y.phase = .verify) ∧
          (productPasses (area.take 32) = false ∨ pursePasses (area.drop 32) = false →
            endsNow s t l d .format []))) ∧
      ∀ sent image, c = .writePurse sent → d.image = some image →
        let counter := leNat (fields.take 2)
        (d.expected = some counter →
          (∃ y, (t.lane l).dialogue = some y ∧ y.phase = .confirm ∧ y.outcome = d.outcome) ∧
          t.journal.reserved = s.journal.reserved ∧
          t.journal.queue = s.journal.queue ++
            [⟨d.fareRecord l (if d.direction = .entry then .fareEntry else .fareExit) .accept s.now, .dialogue l,
              .grant l⟩] ∧
          ∀ e, findSighting s.screening.table d.card = some e →
            findSighting t.screening.table d.card =
              some { e with lastImage := some ⟨purseCounter image, purseCheck image⟩, touched := s.now }) ∧
        (d.expected ≠ some counter → endsNow s t l d .uncertain [])

/-- Tier 2. When the record a grant waits for is written, the lane has a new newest credit with that record's sequence,
the card's mark is PENDING for it, one journal place is kept, and the dialogue has ended ACCEPT or REGRANT, its claim
released (03 R53, R55, R57, R58; 06 R111; 07 R139, R143). A row that waited for the grant is taken then, as an event of
its own (assumption 10): a SET LANE MODE OUT takes the lane out of service, the new credit ends DROPPED, and the
block's stamp has advanced twice (10 R189, assumption 11). -/
def Obligations.GrantHandsTheCreditOver : Prop :=
  ∀ (s : State) (l : LaneId) (d : Dialogue) (q : RecordRequest) (rest : List RecordRequest) (r : Ring),
    s.sys.resetPin = false → s.journal.queue = q :: rest → s.journal.ring = some r → q.waiter = .grant l →
    q.holder = .dialogue l → (s.lane l).dialogue = some d → d.reserved ≤ s.journal.reserved → 0 < d.reserved →
    s.journal.writeDue ≤ s.nextTick →
    (s.deferred = [] → ∃ t c, exec .journalRecordWrite s = .next t ∧
      (t.lane l).credits = (s.lane l).credits ++ [c] ∧ c.sequence = s.journal.written ∧ c.card = d.card ∧
      c.direction = d.direction ∧ t.journal.written = s.journal.written + 1#16 ∧ t.journal.queue = rest ∧
      t.journal.reserved + d.reserved = s.journal.reserved + 1 ∧
      (t.lane l).dialogue = none ∧ (t.lane l).inProgress = false ∧
      (t.lane l).lastResult = (if d.screen = some .regrant then .regrant else .accept) ∧
      ((s.lane l).pc = .closed ∨ (s.lane l).pc = .closing →
        (t.lane l).pc = .opening ∧ (t.lane l).stroking = some .atOpen) ∧
      ((s.lane l).approachBlocked = false ∨ (s.lane l).passage ≠ none →
        c.state = .waiting (s.instant + 1000 * s.params.creditLife) ∧ (t.lane l).passage = (s.lane l).passage) ∧
      ((s.lane l).approachBlocked = true → (s.lane l).passage = none →
        c.state = .inUse (1000 * s.params.creditLife) false ∧
        (t.lane l).passage = some ⟨some (s.instant + 1000 * s.params.maxPassage)⟩) ∧
      ((s.lane l).field = .on → (t.lane l).watch = some ⟨0, some (s.instant + 20), false⟩) ∧
      (∀ e, findSighting s.screening.table d.card = some e →
        findSighting t.screening.table d.card =
          some { e with
            mark := .pending l s.journal.written
            claim := if d.claimHeld then none else e.claim }) ∧
      s.OtherLanesKept t l ∧ t.engine = s.engine ∧ t.fare = s.fare ∧ t.orders = s.orders ∧ t.params = s.params ∧
      t.sys = s.sys ∧ t.clock = s.clock ∧ t.deferred = [] ∧
      s.MemoryKept t (fun a => bytesFrom (r.base + 32 * s.journal.position) 32 a ∨ bytesFrom 0x10 2 a)) ∧
    ∀ o, s.deferred = [.setLaneMode] → s.Handed o 9 → o.arg 0 1 = l.toNat → o.arg 1 1 = 0 → (s.lane l).mode ≠ .out →
      (s.lane l).pc ≠ .fault → s.emergency.asserted = false →
      ∃ t c, exec .journalRecordWrite s = .next t ∧ t.deferred = [] ∧
        s.EndedWith t o true .none (.laneNow l) (o.takenAt + 20) ∧ (t.lane l).mode = .out ∧
        (t.lane l).field = .off ∧ (t.lane l).dialogue = none ∧ (t.lane l).credits = [] ∧
        (t.lane l).lastResult = (if d.screen = some .regrant then .regrant else .accept) ∧
        c.card = d.card ∧ c.direction = d.direction ∧ s.OtherLanesKept t l ∧
        (t.lane l).stamp = (s.lane l).stamp + 2#16 ∧
        t.journal.queue = rest ++ (((s.lane l).credits ++ [c]).map (droppedRequest s l))

/-- Tier 2. The deadline ends a dialogue that has not sent its write TOO SLOW: its waiting request is withdrawn, its
link stops, a noise measurement under way uncounted (assumption 48), and a known card's REFUSED record is asked for.
After the write is sent, or before the deadline, the expiry changes nothing (03 R38 to R40, R56, R59; 04 R78). -/
def Obligations.DeadlineEndsADialogueBeforeItsWrite : Prop :=
  ∀ (s : State) (l : LaneId) (d : Dialogue), s.sys.resetPin = false → (s.lane l).dialogue = some d →
    (d.outcome = none → d.writeSent = false → ¬ grantInHand s l → d.deadline ≤ s.instant →
      ∃ t, exec (.dialogueDeadlineExpiry l) s = .next t ∧ dialogueFrame s t l ∧ t.timeBase = s.timeBase ∧
        endsNow s t l d .tooSlow [] ∧ (t.lane l).link = .idle ∧ (t.lane l).noisyRun = (s.lane l).noisyRun ∧
        (t.lane l).quietRun = (s.lane l).quietRun ∧ (∀ r ∈ t.engine.requests, r.lane ≠ l) ∧
        (d.known = true → (∀ o, d.outstanding = some o → o.atScreening = false) →
          ∃ record, t.journal.queue = s.journal.queue ++ [⟨record, .dialogue l, .release l⟩] ∧
            record.kind = .refused ∧ record.result = .tooSlow ∧ record.card = d.card ∧ record.lane = l ∧
            record.direction = d.direction ∧ record.charge = 0) ∧
        (d.known = false → (∀ o, d.outstanding = some o → o.atScreening = false) →
          t.journal.queue = s.journal.queue ∧ (t.lane l).dialogue = none)) ∧
    (s.Settled → d.writeSent = true ∨ grantInHand s l ∨ s.instant < d.deadline →
      exec (.dialogueDeadlineExpiry l) s = .next s)

/-! ## The shared blocks' answers to a dialogue -/

/-- Tier 2. The engine's operation completes: its result goes to the dialogue with its tag that still waits for it, and
is discarded otherwise; the engine then grants the waiting request, if one waits, with the earliest deadline, the
lowest lane first among equals, and that request leaves the list and enters service with its working store: for DERIVE
the LOADED slot of the card's key version, KEY RETIRED or KEY UNKNOWN, for the others the dialogue's card key (03 R44,
R45, R47, R51, R56; 04 R68, R75, R77, R79). -/
def Obligations.EngineDeliversItsResult : Prop :=
  ∀ (s : State) (v : AeService), s.sys.resetPin = false → s.engine.service = some v → v.completes ≤ s.nextTick →
    ∃ t, exec .aeOperationComplete s = .next t ∧
      t.timeBase = max s.timeBase v.completes ∧ s.OtherLanesKept t v.lane ∧ s.MemoryKept t noByte ∧
      t.regs = s.regs ∧ t.orders = s.orders ∧ t.fare = s.fare ∧ t.params = s.params ∧ t.clock = s.clock ∧
      t.engine.slots = s.engine.slots ∧
      (s.engine.requests = [] → t.engine.service = none ∧ t.engine.requests = []) ∧
      (s.engine.requests ≠ [] → ∃ w r, t.engine.service = some w ∧ r ∈ s.engine.requests ∧
        w.lane = r.lane ∧ w.tag = r.tag ∧ w.operation = r.operation ∧
        w.completes = t.timeBase + 10 * r.operation.duration ∧
        (∀ d, (s.lane r.lane).dialogue = some d → storeFor s.engine.slots r.operation d.cardKey w.store) ∧
        (∀ q ∈ s.engine.requests,
          r.deadline < q.deadline ∨ r.deadline = q.deadline ∧ r.lane.toNat ≤ q.lane.toNat) ∧
        (∀ q ∈ t.engine.requests, q ∈ s.engine.requests ∧ q.lane ≠ r.lane) ∧
        ∀ q ∈ s.engine.requests, q.lane ≠ r.lane → q.lane ≠ v.lane → q ∈ t.engine.requests) ∧
      ((∀ d, (s.lane v.lane).dialogue = some d → d.tag ≠ v.tag ∨ d.outcome ≠ none ∨ d.outstanding ≠ some .engine) →
        t.lane v.lane = { s.lane v.lane with
          stamp := (t.lane v.lane).stamp
          rewritten := (t.lane v.lane).rewritten
          journalFull := (t.lane v.lane).journalFull } ∧
        t.screening = s.screening ∧ t.journal = s.journal) ∧
      ∀ d, (s.lane v.lane).dialogue = some d → d.tag = v.tag → d.outcome = none → d.outstanding = some .engine →
        let ends := fun code => endsWith t v.lane code ∧ recordAsked t v.lane d code s.journal.queue []
        (∀ card version, v.operation = .derive card version →
          (∀ k, v.store = .key k → firstSending t v.lane .auth ∧
            ∃ y, (t.lane v.lane).dialogue = some y ∧ y.cardKey = some (Config.deriveKey k card)) ∧
          (v.store = .keyRetired → ends .keyRetired) ∧
          (v.store = .keyUnknown → ends .keyUnknown)) ∧
        (∀ answer challenge card k, v.operation = .authCheck answer challenge card → v.store = .key k →
          (answer = authAnswerOf k challenge card → firstSending t v.lane (.read 0)) ∧
          (answer ≠ authAnswerOf k challenge card → ends .authFail)) ∧
        (∀ product purse k, v.operation = .verify product purse → v.store = .key k →
          (productCheckOf k product = productCheck product ∧ purseCheckOf k purse = purseCheck purse →
            ∃ y, (t.lane v.lane).dialogue = some y ∧ y.phase = .screen ∧ y.verified = true) ∧
          (productCheckOf k product ≠ productCheck product ∨ purseCheckOf k purse ≠ purseCheck purse →
            ends .checkFail)) ∧
        (∀ image k, v.operation = .seal image → v.store = .key k →
          firstSending t v.lane (.writePurse (sealImage k image)) ∧
          ∃ y, (t.lane v.lane).dialogue = some y ∧ y.image = some (sealImage k image) ∧ y.isSealed = true)

/-- The place of an unprotected entry among the three of R108: suspect count 0 and mark NONE, suspect count 0 and mark
USED, a suspect count of 1 or more (06 R108). -/
def evictionRank (e : Sighting) : Nat := if e.suspect = 0 then (if e.mark = .none then 0 else 1) else 2

/-- Tier 2. A claim is held on a free or new entry, which becomes the most recently touched; an entry another lane
holds answers CONCURRENT and its suspect count rises by one up to 3; a full table of protected entries answers BUSY,
and any other full table gives up its first entry in the order of R108, the least recently touched of its place first
(03 R43; 06 R106 to R109, R127). A new entry was last touched at the station time of the request. When the outcome is
already decided, what the claim does to the table and the journal stands, its answer is not used, and RELEASE begins
then (03 R38, R56). That CLAIM_ANSWER changes nothing while a FORGET CARD of the card waits for its record (06 R132) is
the model's (assumption 25), and so is the answer's time for the touch of an entry that stands (assumption 39); no one
waits for the ALERT record, and the dialogue ends in the same step (assumption 28). -/
def Obligations.ClaimHoldsConcurrentOrBusy : Prop :=
  ∀ (s : State) (l : LaneId) (d : Dialogue) (i : Identity) (due : Nat) (requested : StationTime),
    s.sys.resetPin = false → (s.lane l).dialogue = some d → d.outstanding = some (.claim due requested) →
    d.identity = some i →
    (s.Settled → (∃ o, s.orders.service = some o ∧ o.stage = .forgetting i.card) →
      exec (.claimAnswer l) s = .next s) ∧
    (due ≤ s.nextTick → (∀ o, s.orders.service = some o → o.stage ≠ .forgetting i.card) →
      let table := s.screening.table
      let created : Sighting := ⟨i.card, some l, none, none, .none, 0, requested⟩
      let fresh := findSighting table i.card = none
      let full := 512 ≤ table.length
      let free := fun e : Sighting => findSighting table i.card = some e ∧ (e.claim = none ∨ e.claim = some l)
      let taken := fun e : Sighting => findSighting table i.card = some e ∧ ∃ k, e.claim = some k ∧ k ≠ l
      let held := fresh ∧ ¬ full ∨ (fresh ∧ ∃ e ∈ table, e.isProtected = false) ∨ ∃ e, free e
      let noRoom := fresh ∧ full ∧ ∀ e ∈ table, e.isProtected = true
      ∃ t, exec (.claimAnswer l) s = .next t ∧ s.OtherLanesKept t l ∧ s.MemoryKept t noByte ∧
        t.timeBase = max s.timeBase due ∧ t.orders = s.orders ∧ t.fare = s.fare ∧ t.params = s.params ∧
        t.clock = s.clock ∧ t.engine.slots = s.engine.slots ∧
        (d.outcome = none ∨ d.known = true ∧ d.outcome ≠ some .uncertain →
          (fresh → ¬ full → t.screening.table = table ++ [created]) ∧
          (∀ e, free e → t.screening.table = (table.filter fun x => x.card ≠ i.card) ++
            [{ e with claim := some l, touched := s.now }]) ∧
          (∀ e, taken e → findSighting t.screening.table i.card =
            some { e with suspect := if e.suspect < 3 then e.suspect + 1 else e.suspect }) ∧
          (noRoom → t.screening = s.screening) ∧
          ∀ older e newer, fresh → full → table = older ++ e :: newer → e.isProtected = false →
            (∀ x ∈ table, x.isProtected = false → evictionRank e ≤ evictionRank x) →
            (∀ x ∈ older, x.isProtected = false → evictionRank e < evictionRank x) →
            t.screening.table = (table.filter fun x => x.card ≠ e.card) ++ [created]) ∧
        (held ∨ noRoom → t.regs = s.regs) ∧
        (held → d.outcome = none → t.journal = s.journal ∧ enginedFor s t l d (.derive i.card i.keyVersion) ∧
          ∃ y, (t.lane l).dialogue = some y ∧ y.claimHeld = true ∧ y.phase = .auth ∧ y.outcome = none) ∧
        (∀ e, taken e →
          (e.suspect ≠ 2 → t.regs = s.regs) ∧
          (e.suspect = 2 → t.regs = { s.regs with attention := s.regs.attention ||| 0x0008#16 }) ∧
          ∃ alerts : List RecordRequest, (e.suspect ≠ 2 → alerts = []) ∧
            (e.suspect = 2 → ∃ record, alerts = [⟨record, .dialogue l, .nobody⟩] ∧ record.kind = .alert ∧
              record.result = .concurrent ∧ record.card = i.card ∧ record.lane = l ∧
              record.direction = d.direction) ∧
            (d.outcome = none → endsWith t l .concurrent ∧
              recordAsked t l d .concurrent (s.journal.queue ++ alerts) []) ∧
            ∀ code, d.outcome = some code → code ≠ .uncertain →
              recordAsked t l d code (s.journal.queue ++ alerts) []) ∧
        (noRoom → d.outcome = none → endsWith t l .busy ∧ recordAsked t l d .busy s.journal.queue []) ∧
        ∀ code, d.outcome = some code → t.engine = s.engine ∧
          (code ≠ .uncertain → endsWith t l code) ∧
          (∀ y, (t.lane l).dialogue = some y → y.phase = .release ∧ y.outcome = some code ∧
            (y.claimHeld = true ↔ held)) ∧
          (code ≠ .uncertain → held ∨ noRoom → recordAsked t l d code s.journal.queue []))

/-- Checks 4 to 7 of a screen on an entry, and what they make of it: an older counter, or the last counter with another
check value, is a copy; then regrant for an UNUSED mark of the direction with the counter unchanged, passback for a USED
mark of an entry at an entry, else pass, each with a higher counter taken as the last image (06 R119, R124 to R126). -/
def imageAndMarkChecks (e : Sighting) (dir : Direction) (c : Nat) (v : CheckValue) (r : Screened) : Prop :=
  let older := ∃ i, e.lastImage = some i ∧ (c < i.counter ∨ c = i.counter ∧ v ≠ i.check)
  let fresh := e.lastImage = none ∨ ∃ i, e.lastImage = some i ∧ i.counter < c
  (older → r.answer = .clone ∧
    r.entry = { e with suspect := if e.suspect < 3 then e.suspect + 1 else e.suspect } ∧
    (r.alarmed = true ↔ e.suspect = 2)) ∧
  (¬ older → r.alarmed = false ∧
    (fresh → r.entry = { e with lastImage := some ⟨c, v⟩ }) ∧
    (¬ fresh → r.entry = e) ∧
    (∀ until_, e.mark = .unused dir until_ → (∃ i, e.lastImage = some i ∧ c = i.counter) → r.answer = .regrant) ∧
    (∀ time, e.mark = .used .entry time → r.answer = if dir = .entry then .passback else .pass) ∧
    ((e.mark = .none ∨ (∃ k q, e.mark = .pending k q) ∨ ∃ time, e.mark = .used .exit time) → r.answer = .pass) ∧
    (∀ from_ until_, e.mark = .unused from_ until_ → (from_ ≠ dir ∨ ∀ i, e.lastImage = some i → c ≠ i.counter) →
      r.answer = .pass))

/-- Tier 2. The checks of a screen in their order: denylist, suspect count, uncertainty part, last image, regrant,
passback, pass; with what each makes of the entry; after a part that is resolved without a regrant, checks 4 to 7 are
made on the last image that R122's table gives (06 R119 to R126). -/
def Obligations.ScreenChecksComeInOrder : Prop :=
  ∀ (found : Option DenyEntry) (e : Sighting) (dir : Direction) (c : Nat) (v : CheckValue),
    let r := screenChecks found e dir c v
    let denied := ∃ x, found = some x ∧ x.kind = 1
    let floored := ∃ x, found = some x ∧ x.kind = 2 ∧ c < x.floor
    (denied → r.answer = .denied ∧ r.entry = e ∧ r.alarmed = false) ∧
    (floored → r.answer = .clone ∧ r.entry = e ∧ r.alarmed = false) ∧
    (¬ denied → ¬ floored → e.suspect = 3 → r.answer = .suspect ∧ r.entry = e) ∧
    (¬ denied → ¬ floored → e.suspect ≠ 3 →
      (e.uncertainty = none → r.resolved = none ∧ imageAndMarkChecks e dir c v r) ∧
      ∀ u, e.uncertainty = some u →
        let isNew := c = u.newCounter ∧ v = u.newCheck
        let isOld := c = u.oldCounter ∧ v = u.oldCheck
        let settled := { e with uncertainty := none }
        (isNew → r.resolved = some .took) ∧
        (isNew → u.direction = dir →
          r.answer = .regrant ∧ r.entry = { settled with lastImage := some ⟨c, v⟩ } ∧ r.alarmed = false) ∧
        (isNew → u.direction ≠ dir → imageAndMarkChecks { settled with lastImage := some ⟨c, v⟩ } dir c v r) ∧
        (¬ isNew → isOld → r.resolved = some .void ∧ imageAndMarkChecks settled dir c v r) ∧
        (¬ isNew → ¬ isOld → r.resolved = some .overtaken ∧
          (c < u.oldCounter → imageAndMarkChecks settled dir c v r) ∧
          (u.oldCounter ≤ c → imageAndMarkChecks { settled with lastImage := some ⟨c, v⟩ } dir c v r)))

/-- Tier 2. At the end of its lookup a screen leaves the entry as the checks make it, touched, and answers 2 µs later:
pass goes on to PRICE with the transaction time, regrant asks for the REGRANT record, a refusal code ends the dialogue,
with its REFUSED record. When the outcome is already decided, the answer is not used and RELEASE begins then (03 R38,
R48, R49, R55, R56; 06 R119). -/
def Obligations.ScreenIsMadeAndAnswered : Prop :=
  (∀ (s : State) (l : LaneId) (d : Dialogue) (e : Sighting) (list : Option Denylist) (due : Nat),
    s.sys.resetPin = false → (s.lane l).dialogue = some d → d.outstanding = some (.lookup list due) →
    findSighting s.screening.table d.card = some e → due ≤ s.nextTick →
    let r := screenChecks (lookupDeny s.mem list d.card).2 e d.direction (purseCounter d.purse) (purseCheck d.purse)
    ∃ t, exec (.screenLookupEnd l) s = .next t ∧
      t = { s with
        timeBase := max s.timeBase due
        lanes := t.lanes
        screening := { s.screening with table := t.screening.table }
        journal := { s.journal with queue := t.journal.queue, writeDue := t.journal.writeDue }
        regs := (if r.alarmed then { s.regs with attention := s.regs.attention ||| 0x0008#16 } else s.regs)
        mem := t.mem } ∧
      laneBecomes s t l
        { s.lane l with
          dialogue := some { d with outstanding := some (.screened r.answer (t.timeBase + 20)) } } ∧
      findSighting t.screening.table d.card = some { r.entry with card := e.card, touched := s.now } ∧
      (∀ card, card ≠ d.card → findSighting t.screening.table card = findSighting s.screening.table card) ∧
      (∀ u code, e.uncertainty = some u → r.resolved = some code →
        ⟨resolvedRecord e.card u l code s.now d.degradedNote, .part, .screen l⟩ ∈ t.journal.queue)) ∧
  (∀ (s : State) (l : LaneId) (d : Dialogue) (a : ScreenAnswer) (due : Nat) (code : ResultCode),
    s.sys.resetPin = false → (s.lane l).dialogue = some d → d.outstanding = some (.screened a due) →
    d.outcome = some code → code ≠ .uncertain → s.awaitsRecord (.screen l) = false → due ≤ s.nextTick →
    ∃ t, exec (.screenAnswer l) s = .next t ∧ s.OtherLanesKept t l ∧ s.MemoryKept t noByte ∧
      t.timeBase = max s.timeBase due ∧ t.regs = s.regs ∧ t.orders = s.orders ∧ t.params = s.params ∧
      t.fare = s.fare ∧ t.engine = s.engine ∧ (d.known = true → t.screening = s.screening) ∧
      endsWith t l code ∧ recordAsked t l d code s.journal.queue []) ∧
  ∀ (s : State) (l : LaneId) (d : Dialogue) (a : ScreenAnswer) (table : Area) (due : Nat), s.sys.resetPin = false →
    (s.lane l).dialogue = some d → d.outstanding = some (.screened a due) → d.outcome = none →
    s.awaitsRecord (.screen l) = false → s.fare.active = some table → due ≤ s.nextTick →
    ∃ t, exec (.screenAnswer l) s = .next t ∧ s.OtherLanesKept t l ∧ s.MemoryKept t noByte ∧
      t.timeBase = max s.timeBase due ∧ t.regs = s.regs ∧ t.orders = s.orders ∧ t.params = s.params ∧
      (a = .pass → t.journal = s.journal ∧ t.engine = s.engine ∧ t.screening = s.screening ∧
        let transaction : Transaction := ⟨s.now, s.clock.serviceDay, s.clock.today⟩
        (∃ y, (t.lane l).dialogue = some y ∧ y.phase = .price ∧ y.transaction = some transaction) ∧
        t.fare = { s.fare with
          pricings := s.fare.pricings.set l (some ⟨d.tag, table, d.direction, d.recordArea.take 32,
            d.recordArea.drop 32, transaction, t.timeBase + 40⟩) }) ∧
      (a = .regrant → t.fare = s.fare ∧ t.engine = s.engine ∧ t.screening = s.screening ∧
        t.journal.queue = s.journal.queue ++ [⟨d.regrantRecord l s.now, .dialogue l, .grant l⟩] ∧
        ∃ y, (t.lane l).dialogue = some y ∧ y.phase = .grant ∧ y.screen = some .regrant) ∧
      let ends := fun code => endsWith t l code ∧ recordAsked t l d code s.journal.queue []
      (a = .denied → ends .denied) ∧ (a = .clone → ends .clone) ∧ (a = .suspect → ends .suspect) ∧
      (a = .passback → ends .passback)

/-- Tier 2. A pricing answers 4 µs after its request: its binding ends, a refusal ends the dialogue that waits for it,
with its REFUSED record and at LOW BALANCE its charge and flags, a price gives it the intended image and asks the
engine to seal it, and a dialogue that no longer waits is not touched. When an adoption waits for the pricings bound to
the old table, the last of them releases it and the adoption ends DONE (03 R50, R51, R56, R60; 04 R77; 05 R85, R87). -/
def Obligations.PriceIsAnswered : Prop :=
  ∀ (s : State) (l : LaneId) (p : Pricing), s.sys.resetPin = false → s.fare.pricings.get l = some p →
    p.due ≤ s.nextTick →
    ∃ t, exec (.priceAnswer l) s = .next t ∧ s.OtherLanesKept t l ∧ s.MemoryKept t noByte ∧
      t.timeBase = max s.timeBase p.due ∧ t.regs = s.regs ∧ t.params = s.params ∧
      ((∀ o, s.orders.service = some o → o.stage ≠ .awaitingPricings) → t.orders = s.orders ∧
        t.fare = { s.fare with pricings := s.fare.pricings.set l none }) ∧
      (∀ o active old, s.orders.service = some o → o.stage = .awaitingPricings → s.fare.active = some active →
        s.fare.previous = some old →
        ((∃ k q, k ≠ l ∧ s.fare.pricings.get k = some q ∧ q.table = old) → t.orders = s.orders ∧
          t.fare = { s.fare with pricings := s.fare.pricings.set l none }) ∧
        ((∀ k q, k ≠ l → s.fare.pricings.get k = some q → q.table ≠ old) →
          t.fare = { s.fare with pricings := s.fare.pricings.set l none, previous := none } ∧
          t.orders = { s.orders with
            held := { s.orders.held with fareSecond := none }
            ready := { s.orders.ready with fareAdopted := true }
            service := t.orders.service } ∧
          s.EndedWith t o true .none
            (.bytes (leBytes 1 (fareZones s.mem active) ++ leBytes 1 (stationZone s.mem active) ++
              leBytes 2 (stationCode s.mem active))) t.timeBase)) ∧
      ((∀ d, (s.lane l).dialogue = some d → d.tag ≠ p.tag ∨ d.outcome ≠ none ∨ d.outstanding ≠ some .price) →
        (s.lane l).Concluded (t.lane l) ∧ t.engine = s.engine ∧ t.journal = s.journal ∧
        t.screening = s.screening) ∧
      ∀ d, (s.lane l).dialogue = some d → d.tag = p.tag → d.outcome = none → d.outstanding = some .price →
        let ends := fun code => endsWith t l code ∧ recordAsked t l d code s.journal.queue []
        (price s.mem p = .cardSpent → ends .cardSpent) ∧ (price s.mem p = .expired → ends .expired) ∧
        (∀ charge flags, price s.mem p = .lowBalance charge flags → ends .lowBalance ∧
          (d.known = true → ∃ q ∈ t.journal.queue, q.waiter = .release l ∧ q.record.charge = charge ∧
            q.record.flags = recordFlags flags d.degradedNote false)) ∧
        ∀ r image, price s.mem p = .priced r image → t.journal = s.journal ∧ t.screening = s.screening ∧
          enginedFor s t l d (.seal image) ∧
          ∃ y, (t.lane l).dialogue = some y ∧ y.phase = .seal ∧ y.pricing = some r ∧ y.image = some image ∧
            y.expected = some (purseCounter image)

/-- Tier 2. The removal watch: the timer sends a PROBE after a noise measurement, or leaves it owed while the last
one's wait is open; an unanswered PROBE is a miss, and the third returns the field to SNIFF, learning (02 R32, R33,
R19). R32 speaks of the open wait alone: that any other link that is not idle, a frame or an answer still on it, leaves
the PROBE owed too is the model's reading (assumption 14). That the noise measurement begins when the 20 ms run out, and
the PROBE follows it, is the model's choice (assumption 49). -/
def Obligations.RemovalWatchProbesAndConfirms : Prop :=
  ∀ (s : State) (l : LaneId) (w : RemovalWatch), s.sys.resetPin = false → (s.lane l).watch = some w →
    let x := s.lane l
    (∀ time, w.probeAt = some time → time ≤ s.instant →
      ∃ t, exec (.probeTimerExpiry l) s = .next t ∧ t = { s with lanes := t.lanes, mem := t.mem } ∧
        (x.link = .idle → laneBecomes s t l
          { x with
            link := .noise (s.timeBase + 2000) .probe s.params.noiseThreshold
            watch := some { w with probeAt := none, owed := false } }) ∧
        (x.link ≠ .idle → laneBecomes s t l { x with watch := some { w with probeAt := none, owed := true } })) ∧
    ∀ due half, x.link = .waiting due half → due ≤ s.nextTick →
      ∃ t, exec (.probeWaitExpiry l) s = .next t ∧
        t = { s with timeBase := max s.timeBase due, lanes := t.lanes, mem := t.mem } ∧
        (w.misses < 2 → w.owed = false → laneBecomes s t l
          { x with link := .idle, watch := some { w with misses := w.misses + 1 } }) ∧
        (w.misses < 2 → w.owed = true → laneBecomes s t l
          { x with
            link := .noise (t.timeBase + 2000) .probe s.params.noiseThreshold
            watch := some ⟨w.misses + 1, none, false⟩ }) ∧
        (2 ≤ w.misses → laneBecomes s t l
          { x with link := .idle, watch := none, field := .sniff, learning := true, carrier := none })

/-! ## Passage control -/

/-- The end group on the passengers' side, and the one they walk to (07 R138). -/
def approachGroup (x : Lane) : BeamGroup := if x.mode = .entry then .entrySide else .exitSide

def farGroup (x : Lane) : BeamGroup := if x.mode = .entry then .exitSide else .entrySide

/-- An alarm count after one more alarm: it stays at 65535 (07 R149). -/
def raised (count : Nat) : Nat := if count < 65535 then count + 1 else count

/-- The lane after an alarm: its count up by one unless it stays at 65535, the ALARM tone, LANE attention (07 R149,
R162; 10 R189). That the block's stamp advances once, at a count that stays too, is the model's (assumption 11). -/
def alarmed (s t : State) (l : LaneId) (x y : Lane) : Prop :=
  t.regs = { s.regs with attention := s.regs.attention ||| 0x0004#16 } ∧ (t.lane l).stamp = x.stamp + 1#16 ∧
  laneBecomes s t l { x with
    tailgate := y.tailgate
    intrusion := y.intrusion
    stuck := y.stuck
    obstruction := y.obstruction
    tone := some ⟨.alarm, s.params.tonePitch, t.timeBase + 10000000⟩ }

/-- A beam group's input has read another value for `held` ms by `now`, since the group's last change at the earliest, and
no less than the debounce time in force when that began (07 R138; 08 R165). That the event brings `held` is assumption
21. -/
def debounced (s : State) (l : LaneId) (g : BeamGroup) (held now : Nat) : Prop :=
  now = max s.timeBase ((s.lane l).beamSince.get g + 10000 * held) ∧ now ≤ max s.timeBase s.nextTick ∧
  (s.lane l).beamSince.get g + 10000 * held ≤ s.nextTick ∧ s.debounceAt (now - 10000 * held) ≤ held

/-- A lane with a beam group changed at that time. -/
def beamSet (x : Lane) (g : BeamGroup) (v : Beam) (now : Nat) : Lane :=
  { x with beams := x.beams.set g v, beamSince := x.beamSince.set g now }

/-- Tier 2. A beam group changes once its input has read the other value for the debounce time, and before that nothing
changes; how long it has read it is the row's operand (assumption 21). In OPENING and OPEN the approach side uses the
oldest WAITING credit and starts a passage, or raises TAILGATE; the far side marks the oldest credit on its way, or
raises INTRUSION; all three CLEAR end the passage: the credits at the far side end PASSED, and the others wait again
for the larger of their kept life and 2 s (06 R128, R129; 07 R138, R142, R144 to R148). That an alarm advances the
block's stamp once, at a count that stays at 65535 too, is the model's (assumption 11). -/
def Obligations.BeamsFollowThePassengers : Prop :=
  ∀ (s : State) (l : LaneId) (held now : Nat), s.sys.resetPin = false →
    let x := s.lane l
    (∀ g v, s.Settled → (s.nextTick < x.beamSince.get g + 10000 * held ∨
        held < s.debounceAt (max s.timeBase (x.beamSince.get g + 10000 * held) - 10000 * held)) →
      exec (.beamEvent l g v held) s = .next s) ∧
    (∀ g v, x.beams.get g ≠ v → debounced s l g held now → ∃ t, exec (.beamEvent l g v held) s = .next t ∧
      t = { s with
        timeBase := now
        lanes := t.lanes
        screening := { s.screening with table := t.screening.table }
        journal := { s.journal with queue := t.journal.queue, writeDue := t.journal.writeDue }
        regs := t.regs
        mem := t.mem } ∧
      s.OtherLanesKept t l ∧ s.MemoryKept t noByte ∧ (t.lane l).beams = x.beams.set g v ∧
      (t.lane l).beamSince = x.beamSince.set g now ∧
      (x.pc = .out ∨ x.pc = .free ∨ x.pc = .fault → v = .blocked →
        laneBecomes s t l (beamSet x g v now) ∧ t.regs = s.regs) ∧
      (v = .blocked → g = .middle → x.pc = .closed → (t.lane l).intrusion = raised x.intrusion ∧
        alarmed s t l (beamSet x g v now) { x with intrusion := (t.lane l).intrusion }) ∧
      (v = .blocked → g = .middle → x.pc = .closing →
        (t.lane l).pc = .opening ∧ (t.lane l).stroking = some .atOpen)) ∧
    (x.pc = .opening ∨ x.pc = .opened → x.mode = .entry ∨ x.mode = .exit →
      (x.beams.get (approachGroup x) = .clear → debounced s l (approachGroup x) held now →
        ∃ t, exec (.beamEvent l (approachGroup x) .blocked held) s = .next t ∧
          let b := beamSet x (approachGroup x) .blocked now
          (∀ older c newer expiry, x.credits = older ++ c :: newer → (∀ k ∈ older, k.isWaiting = false) →
            c.state = .waiting expiry →
            t.regs = s.regs ∧ laneBecomes s t l
              { b with
                credits := older ++ { c with state := .inUse (expiry - s.instant) false } :: newer
                passage := (match x.passage with
                  | none => some ⟨some (s.instant + 1000 * s.params.maxPassage)⟩
                  | some q => some q) }) ∧
          ((∀ k ∈ x.credits, k.isWaiting = false) → x.credits ≠ [] → x.beams.middle = .blocked →
            (t.lane l).tailgate = raised x.tailgate ∧
            alarmed s t l b { x with tailgate := (t.lane l).tailgate }) ∧
          ((∀ k ∈ x.credits, k.isWaiting = false) → (x.credits = [] ∨ x.beams.middle = .clear) →
            t.regs = s.regs ∧ laneBecomes s t l b)) ∧
      (x.beams.get (farGroup x) = .clear → debounced s l (farGroup x) held now →
        ∃ t, exec (.beamEvent l (farGroup x) .blocked held) s = .next t ∧
          let b := beamSet x (farGroup x) .blocked now
          (x.passage = none → (t.lane l).intrusion = raised x.intrusion ∧
            alarmed s t l b { x with intrusion := (t.lane l).intrusion }) ∧
          (x.passage ≠ none → t.regs = s.regs ∧
            (∀ older c newer remaining, x.credits = older ++ c :: newer → (∀ k ∈ older, k.onTheWay = false) →
              c.state = .inUse remaining false → laneBecomes s t l
                { b with credits := older ++ { c with state := .inUse remaining true } :: newer }) ∧
            (∀ older c newer expiry, x.credits = older ++ c :: newer → (∀ k ∈ x.credits, k.onTheWay = false) →
              (∀ k ∈ older, k.isWaiting = false) → c.state = .waiting expiry → laneBecomes s t l
                { b with
                  credits := older ++ { c with state := .inUse (expiry - s.instant) true } :: newer }))) ∧
      (∀ g, x.passage ≠ none → x.beams.set g .clear = ⟨.clear, .clear, .clear⟩ → x.beams.get g = .blocked →
        debounced s l g held now →
        ∃ t, exec (.beamEvent l g .clear held) s = .next t ∧ (t.lane l).passage = none ∧
          (t.lane l).credits = (x.credits.filter fun c => !c.reachedFar).map (fun c =>
            match c.state with
            | .inUse remaining _ =>
              { c with state := .waiting (s.instant + (if remaining < 2000 then 2000 else remaining)) }
            | .waiting _ => c) ∧
          t.journal.queue = s.journal.queue ++ (x.credits.filter Credit.reachedFar).map (fun c =>
            ⟨Record.blank .passed l c.direction .none c.card s.now, .credit, .nobody⟩) ∧
          (∀ c ∈ x.credits, c.reachedFar = true → ∀ e k, findSighting s.screening.table c.card = some e →
            e.mark = .pending k c.sequence → (∀ y ∈ x.credits, y.card = c.card → y = c) →
            findSighting t.screening.table c.card = some { e with
              mark := if s.params.passbackInterval = 0 then .none else .used c.direction s.instant }) ∧
          (x.pc = .opened → (t.lane l).credits = [] →
            (t.lane l).pc = .closing ∧ (t.lane l).stroking = some .atClosed)))

/-- Tier 2. A WAITING credit lapses at its expiry, and its mark, if PENDING for it, becomes UNUSED until the grace
ends, or NONE with a grace of 0; the STUCK timer raises one alarm and the passage goes on; a timed display and a tone
end at their time, and REFUSE sounds in three parts of 80 ms with gaps of 80 ms. The indicator shows the first item
that applies: CROSS with mode OUT or in FAULT, ARROW in FREE, a timed display's symbol, ARROW for a WAITING credit,
WAIT for a dialogue or a wait request, DARK (06 R128, R129; 07 R140, R141, R146, R149, R160 to R162). That an alarm's
update advances the block's stamp once is the model's (assumption 11). -/
def Obligations.LaneTimersRunOut : Prop :=
  (∀ (s : State) (l : LaneId), s.sys.resetPin = false →
    let x := s.lane l
    (∀ older c newer expiry, x.credits = older ++ c :: newer → c.state = .waiting expiry → expiry ≤ s.instant →
      (∀ k ∈ older, k.sequence ≠ c.sequence) → s.Settled →
      ∃ t, exec (.creditExpiry l c.sequence) s = .next t ∧
        t = { s with
          lanes := t.lanes
          screening := { s.screening with table := t.screening.table }
          journal := { s.journal with queue := t.journal.queue, writeDue := t.journal.writeDue }
          mem := t.mem } ∧
        s.OtherLanesKept t l ∧ s.MemoryKept t noByte ∧ (t.lane l).credits = older ++ newer ∧
        t.journal.queue = s.journal.queue ++
          [⟨Record.blank .lapsed l c.direction .none c.card s.now, .credit, .nobody⟩] ∧
        (∀ e k, findSighting s.screening.table c.card = some e → e.mark = .pending k c.sequence →
          findSighting t.screening.table c.card = some { e with
            mark := if s.params.regrantGrace = 0 then .none
              else .unused c.direction (s.instant + 1000 * s.params.regrantGrace) }) ∧
        (x.pc = .opened → older ++ newer = [] → x.passage = none → x.beams.middle = .clear →
          (t.lane l).pc = .closing ∧ (t.lane l).stroking = some .atClosed)) ∧
    (∀ due, x.passage = some ⟨some due⟩ → due ≤ s.instant →
      ∃ t, exec (.stuckTimerExpiry l) s = .next t ∧
        t = { s with lanes := t.lanes, regs := t.regs, mem := t.mem } ∧
        (t.lane l).stuck = raised x.stuck ∧
        alarmed s t l { x with passage := some ⟨none⟩ } { x with stuck := (t.lane l).stuck }) ∧
    (∀ display, s.Settled → x.timedDisplay = some display → display.due ≤ s.nextTick →
      exec (.timedDisplayEnd l) s =
        .next (State.setLane { s with timeBase := max s.timeBase display.due } l { x with timedDisplay := none })) ∧
    ∀ sounding, s.Settled → x.tone = some sounding → sounding.due ≤ s.nextTick →
      exec (.toneEnd l) s =
        .next (State.setLane { s with timeBase := max s.timeBase sounding.due } l { x with tone := none })) ∧
  (∀ x : Lane,
    let shut := x.mode = .out ∨ x.pc = .fault
    let waiting := ∃ c ∈ x.credits, ∃ expiry, c.state = .waiting expiry
    (shut → x.indicator = .cross) ∧
    (¬ shut → x.pc = .free → x.indicator = .arrow) ∧
    (¬ shut → x.pc ≠ .free →
      (∀ display, x.timedDisplay = some display → x.indicator = display.symbol) ∧
      (x.timedDisplay = none → waiting → x.indicator = .arrow) ∧
      (x.timedDisplay = none → ¬ waiting →
        (x.inProgress = true ∨ x.waitRequest = true → x.indicator = .wait) ∧
        (x.inProgress = false → x.waitRequest = false → x.indicator = .dark)))) ∧
  ∀ (pitch start now : Nat), start ≤ now →
    (Sounding.sounds ⟨.accept, pitch, start + 1500000⟩ now = decide (now - start < 1500000)) ∧
    (Sounding.sounds ⟨.alarm, pitch, start + 10000000⟩ now = decide (now - start < 10000000)) ∧
    (Sounding.sounds ⟨.refuse, pitch, start + 4000000⟩ now =
      decide (now - start < 4000000 ∧ (now - start) / 800000 % 2 = 0))

/-- The lane is in FAULT: leaves released, out of service, the cause kept, the ALARM tone (07 R154, R155). -/
def faulted (t : State) (l : LaneId) (cause : FaultCause) : Prop :=
  (t.lane l).pc = .fault ∧ (t.lane l).drive = .released ∧ (t.lane l).faultCause = cause ∧ (t.lane l).field = .off ∧
  (t.lane l).credits = [] ∧ (t.lane l).passage = none ∧ (∃ p due, (t.lane l).tone = some ⟨.alarm, p, due⟩) ∧
  t.regs.attention &&& 0x0004#16 = 0x0004#16

/-- A dialogue whose outcome is open is aborted by the lane's leaving service (03 R63; 07 R137). -/
def abortedBy (s t : State) (l : LaneId) : Prop :=
  ∀ d, (s.lane l).dialogue = some d → (s.lane l).field = .on → d.outcome = none →
    endsNow s t l d (if d.writeSent then .uncertain else .aborted) (s.lane l).credits

/-- Tier 2. A stroke's levels and its ends: BOOST then RUN; its limit completes it, to OPEN or CLOSED or OUT, with
BRAKE then HOLD; an overload of a closing stroke reverses it or at the third in a row is a FAULT, and any other
overload has no effect; 1,000 ms without the limit is a FAULT, which aborts the lane's dialogue (03 R63; 07 R137, R149,
R151 to R154; 10 R189). A FAULT waits while a grant is in hand at the lane (assumption 10). That a limit switch which
reads active already completes a stroke too is the model's (assumption 19). That an overload advances the block's stamp once,
with what the abort of a dialogue writes, is the model's (assumption 11). -/
def Obligations.StrokesRunToTheirLimit : Prop :=
  ∀ (s : State) (l : LaneId), s.sys.resetPin = false →
    let x := s.lane l
    (∀ toward due timeout brakeMs, s.Settled → x.drive = .stroke toward (some due) timeout brakeMs →
      due ≤ s.nextTick →
      exec (.boostEnd l) s = .next
        (State.setLane { s with timeBase := max s.timeBase due } l
          { x with drive := .stroke toward none timeout brakeMs })) ∧
    (∀ limit due, s.Settled → x.drive = .brake limit due → due ≤ s.nextTick →
      exec (.brakeEnd l) s =
        .next (State.setLane { s with timeBase := max s.timeBase due } l { x with drive := .hold limit })) ∧
    (∀ limit active, s.Settled → (active = false ∨ x.stroking ≠ some limit) →
      exec (.limitSwitchEvent l limit active) s = .next (s.setLane l
        (match limit with
          | .atOpen => { x with openLimit := active }
          | .atClosed => { x with closedLimit := active }))) ∧
    ((x.drive = .released ∨ (∃ limit, x.drive = .hold limit) ∨ ∃ limit due, x.drive = .brake limit due) →
      s.Settled → exec (.leafOverload l) s = .next s) ∧
    (∀ toward boost timeout brakeMs, x.drive = .stroke toward boost timeout brakeMs →
      (∃ t, exec (.limitSwitchEvent l toward true) s = .next t ∧ t = { s with lanes := t.lanes, mem := t.mem } ∧
        s.OtherLanesKept t l ∧ s.MemoryKept t noByte ∧
        (toward = .atClosed → laneBecomes s t l
          { x with
            closedLimit := true
            drive := (if brakeMs = 0 then .hold .atClosed else .brake .atClosed (s.timeBase + 10000 * brakeMs))
            pc := (if x.mode = .entry ∨ x.mode = .exit then .closed else .out)
            obstructionRun := 0 }) ∧
        (toward = .atOpen → x.pc = .free ∨ x.credits ≠ [] ∨ x.passage ≠ none ∨ x.beams.middle = .blocked →
          laneBecomes s t l
            { x with
              openLimit := true
              drive := (if brakeMs = 0 then .hold .atOpen else .brake .atOpen (s.timeBase + 10000 * brakeMs))
              pc := (if x.pc = .free then .free else .opened) }) ∧
        (toward = .atOpen → x.pc ≠ .free → x.credits = [] → x.passage = none → x.beams.middle = .clear →
          (t.lane l).openLimit = true ∧ (t.lane l).pc = .closing ∧ (t.lane l).stroking = some .atClosed)) ∧
      (timeout ≤ s.nextTick → ¬ grantInHand s l → ∃ t, exec (.strokeTimeout l) s = .next t ∧
        t.timeBase = max s.timeBase timeout ∧ faulted t l .strokeTimeout ∧ (t.lane l).mode = x.mode ∧
        abortedBy s t l ∧ s.OtherLanesKept t l) ∧
      (timeout ≤ s.nextTick → s.Settled → grantInHand s l → exec (.strokeTimeout l) s =
        .next (deferredRow { s with timeBase := max s.timeBase timeout } (.strokeTimeout l))) ∧
      (toward = .atOpen → s.Settled → exec (.leafOverload l) s = .next s) ∧
      (toward = .atClosed → x.obstructionRun < 2 → ∃ t, exec (.leafOverload l) s = .next t ∧
        t = { s with lanes := t.lanes, regs := t.regs, mem := t.mem } ∧ s.OtherLanesKept t l ∧
        s.MemoryKept t noByte ∧
        (t.lane l).obstructionRun = x.obstructionRun + 1 ∧ (t.lane l).obstruction = raised x.obstruction ∧
        (t.lane l).stamp = x.stamp + 1#16 ∧
        (t.lane l).pc = .opening ∧ (t.lane l).stroking = some .atOpen ∧
        t.regs = { s.regs with attention := s.regs.attention ||| 0x0004#16 }) ∧
      (toward = .atClosed → 2 ≤ x.obstructionRun → s.Settled → grantInHand s l →
        exec (.leafOverload l) s = .next (deferredRow s (.leafOverload l))) ∧
      (toward = .atClosed → 2 ≤ x.obstructionRun → ¬ grantInHand s l → ∃ t, exec (.leafOverload l) s = .next t ∧
        faulted t l .obstruction ∧ (t.lane l).obstruction = raised x.obstruction ∧
        (t.lane l).stamp = x.stamp + 1#16 ∧ abortedBy s t l ∧ s.OtherLanesKept t l))

/-- Tier 2. The emergency input, asserted for 20 ms of the time base since it last changed, makes every lane's mode
FREE: fields OFF, credits dropped, leaves opened save those of a lane in FAULT; its release changes no lane's mode;
both raise LANE, and a first reading of released raises nothing (07 R157, R158; 08 R165). The row waits while a grant
that it would cut is in hand (assumption 10). How long the input has read its value is the row's operand (assumption
21). -/
def Obligations.EmergencyFreesEveryLane : Prop :=
  ∀ (s : State) (held : Nat), s.sys.resetPin = false → 20 ≤ held →
    s.emergency.since + 10000 * held ≤ s.nextTick →
    let now := max s.timeBase (s.emergency.since + 10000 * held)
    (s.emergency.asserted = false → (∀ l, ¬ grantInHand s l) → ∃ t, exec (.emergencyAsserted held) s = .next t ∧
      t.emergency = ⟨true, true, now⟩ ∧ t.regs.attention &&& 0x0004#16 = 0x0004#16 ∧ t.params = s.params ∧
      t.fare = s.fare ∧ t.orders = s.orders ∧ t.clock = s.clock ∧ t.timeBase = now ∧
      t.engine.service = s.engine.service ∧ t.engine.slots = s.engine.slots ∧
      ∀ l, (t.lane l).mode = .free ∧ (t.lane l).gain = (s.lane l).gain ∧ (t.lane l).beams = (s.lane l).beams ∧
        (t.lane l).baseline = (s.lane l).baseline ∧
        ((s.lane l).pc = .fault → (t.lane l).pc = .fault ∧ (t.lane l).drive = (s.lane l).drive) ∧
        ((s.lane l).pc ≠ .fault → (s.lane l).mode ≠ .free →
          (t.lane l).pc = .free ∧ (t.lane l).field = .off ∧ (t.lane l).credits = [] ∧ (t.lane l).passage = none ∧
          (∀ d, (s.lane l).dialogue = some d → (s.lane l).field = .on → d.outcome = none →
            endsWith t l (if d.writeSent then .uncertain else .aborted)) ∧
          ((t.lane l).stroking = some .atOpen ∨ (t.lane l).drive = .hold .atOpen ∨
            ∃ due, (t.lane l).drive = .brake .atOpen due))) ∧
    (∀ l, s.Settled → s.emergency.asserted = false → grantInHand s l → (s.lane l).mode ≠ .free →
      (s.lane l).pc ≠ .fault →
      exec (.emergencyAsserted held) s =
        .next (deferredRow { s with timeBase := now } (.emergencyAsserted held))) ∧
    (s.emergency.asserted = true → ∃ t, exec (.emergencyReleased held) s = .next t ∧
      t = { s with
        timeBase := now
        emergency := ⟨false, true, now⟩
        lanes := t.lanes
        regs := { s.regs with attention := s.regs.attention ||| 0x0004#16 }
        mem := t.mem } ∧
      s.LanesKept t ∧ s.MemoryKept t noByte) ∧
    (s.emergency.asserted = false → s.Settled →
      (s.emergency.seen = false → exec (.emergencyReleased held) s =
        .next { s with timeBase := now, emergency := ⟨false, true, now⟩ }) ∧
      (s.emergency.seen = true → exec (.emergencyReleased held) s = .next s))

/-! ## The expiries of a sighting entry -/

/-- Tier 2. A USED mark becomes NONE when the passback interval has passed, an UNUSED mark when its grace has run out, an
uncertainty part is removed when its life has passed and its UNRESOLVED record is asked for; before that, and on a
PENDING mark, nothing changes (06 R129, R130, R123). While a FORGET CARD of the card waits for the part's record, the
part's expiry changes nothing (06 R132, assumption 25). -/
def Obligations.MarksAndPartsExpire : Prop :=
  ∀ (s : State) (card : CardNumber) (e : Sighting), s.sys.resetPin = false → s.Settled → s.TableLegal →
    findSighting s.screening.table card = some e →
    (∃ t, exec (.passbackExpiry card) s = .next t ∧
      t = { s with screening := { s.screening with table := t.screening.table } } ∧
      (∀ k, k ≠ card → findSighting t.screening.table k = findSighting s.screening.table k) ∧
      (∀ dir time, e.mark = .used dir time → time + 1000 * s.params.passbackInterval ≤ s.instant →
        findSighting t.screening.table card = some { e with mark := .none }) ∧
      ((∀ dir time, e.mark ≠ .used dir time) → t = s) ∧
      (∀ dir time, e.mark = .used dir time → s.instant < time + 1000 * s.params.passbackInterval → t = s)) ∧
    (∃ t, exec (.regrantGraceExpiry card) s = .next t ∧
      t = { s with screening := { s.screening with table := t.screening.table } } ∧
      (∀ k, k ≠ card → findSighting t.screening.table k = findSighting s.screening.table k) ∧
      (∀ dir until_, e.mark = .unused dir until_ → until_ ≤ s.instant →
        findSighting t.screening.table card = some { e with mark := .none }) ∧
      ((∀ dir until_, e.mark ≠ .unused dir until_) → t = s) ∧
      (∀ dir until_, e.mark = .unused dir until_ → s.instant < until_ → t = s)) ∧
    (∃ t, exec (.uncertaintyExpiry card) s = .next t ∧
      t = { s with screening := { s.screening with table := t.screening.table }, journal := t.journal } ∧
      (∀ k, k ≠ card → findSighting t.screening.table k = findSighting s.screening.table k) ∧
      (∀ o, s.orders.service = some o → o.stage = .forgetting card → t = s) ∧
      (∀ u, e.uncertainty = some u → u.created + 1000 * s.params.uncertaintyLife ≤ s.instant →
        (∀ o, s.orders.service = some o → o.stage ≠ .forgetting card) →
        findSighting t.screening.table card = some { e with uncertainty := none } ∧
        t.journal = { s.journal with
          queue := s.journal.queue ++ [⟨resolvedRecord card u u.lane .unresolved s.now false, .part, .nobody⟩]
          writeDue := t.journal.writeDue }) ∧
      (e.uncertainty = none → t = s) ∧
      (∀ u, e.uncertainty = some u → s.instant < u.created + 1000 * s.params.uncertaintyLife → t = s))

/-! ## What the gate computer is shown, and the laws that every step keeps -/

/-- A lane's block in the memory shows the lane (10 R189). -/
def shows (s : State) (l : LaneId) : Prop :=
  let a := 0x40 + 32 * l.toNat
  let x := s.lane l
  Memory.readNat s.mem a 1 = x.mode.code ∧ Memory.readNat s.mem (a + 1) 1 = x.pc.code ∧
  Memory.readNat s.mem (a + 2) 1 = x.credits.length % 256 ∧ Memory.readNat s.mem (a + 3) 1 = x.field.code ∧
  Memory.readNat s.mem (a + 4) 1 =
    (if x.degraded then 1 else 0) + (if x.journalFull then 2 else 0) + (if s.emergency.asserted then 4 else 0) ∧
  Memory.readNat s.mem (a + 5) 1 = x.gain % 256 ∧ Memory.readNat s.mem (a + 6) 1 = x.lastResult.code ∧
  Memory.readNat s.mem (a + 7) 1 = x.faultCause.code ∧ Memory.readNat s.mem (a + 8) 2 = x.tailgate % 65536 ∧
  Memory.readNat s.mem (a + 10) 2 = x.intrusion % 65536 ∧ Memory.readNat s.mem (a + 12) 2 = x.stuck % 65536 ∧
  Memory.readNat s.mem (a + 14) 2 = x.obstruction % 65536 ∧ Memory.readNat s.mem (a + 16) 2 = x.stamp.toNat

/-- The command is a start-up (10 R205, R206). -/
def startsUp (c : Instr) : Bool :=
  match c with
  | .powerOn _ _ => true
  | .resetPinRelease _ _ => true
  | .restart w _ _ => restartBit w
  | _ => false

/-- A write of the gate computer that reaches no shown byte. -/
def sparesShownBytes (c : Instr) : Prop :=
  (∀ wa v, c = .gcMemoryWrite (.word wa v) → ¬ shownByte (2 * wa.toNat)) ∧
  ∀ a v, c = .gcMemoryWrite (.byte a v) → ¬ shownByte (2 * (a.toNat / 2))

/-- Tier 2. Whatever the command, lane status blocks and a readiness summary that are right before it are right after
it, and a lane's stamp advances by one when a shown value changed, and otherwise by one or not at all; a record that
completes a grant is followed by the events that waited for it, each of which may advance it once more (assumption 10);
a start-up, from the asserted reset pin too, leaves it 0 (10 R189, R201, R205). The ring and a staging area that the
part writes lie in the free region, no access waits at the port, and the gate computer's own write reaches no shown
byte. That a step in which several fields change advances the stamp once, and a result equal to the last one advances
it too, is the model's (assumption 11). -/
def Obligations.StatusBlocksShowTheLanes : Prop :=
  ∀ (c : Instr) (s t : State), s.MemoryLegal → (∀ l, shows s l) →
    Memory.readNat s.mem 0x02 2 = s.orders.ready.summary → s.port.waiting = [] → ringInFree s →
    (∀ o, s.orders.service = some o → o.stage = .loadingKey → 0x300 ≤ o.arg 2 4) → sparesShownBytes c →
    exec c s = .next t →
    (∀ l, shows t l) ∧ Memory.readNat t.mem 0x02 2 = t.orders.ready.summary ∧
    (startsUp c = true → (s.sys.resetPin = true → ∀ w inputs cut, c ≠ .restart w inputs cut) →
      ∀ l, (t.lane l).stamp = 0#16) ∧
    (startsUp c = false → ∀ l, ∃ events,
      events ≤ (if c = .journalRecordWrite then 1 + s.deferred.length else 1) ∧
      (t.lane l).stamp = (s.lane l).stamp + BitVec.ofNat 16 events ∧
      (shownFields (t.lane l) t.emergency ≠ shownFields (s.lane l) s.emergency → 0 < events))

/-- Tier 3. Every step keeps the exchange memory in its canonical form. -/
def Obligations.StepKeepsMemoryLegal : Prop :=
  ∀ s t : State, s.MemoryLegal → step s = .next t → t.MemoryLegal

/-- Tier 3. A law of the part: from a state in which it holds, no step leaves leaves driven toward closed outside
CLOSING or with the middle beam group BLOCKED (07 R150). -/
def Obligations.StepNeverClosesOnAPassenger : Prop :=
  ∀ s t : State, (∀ l, (s.lane l).LeavesSafe) → step s = .next t → ∀ l, (t.lane l).LeavesSafe

/-- Tier 3. Every step keeps each lane's credits, with the one a dialogue may bring, at 3 or fewer, and the sighting
table at 512 entries or fewer with no card twice (06 R105; 07 R139). -/
def Obligations.StepKeepsCreditsAndSightingsLegal : Prop :=
  ∀ s t : State, (∀ l, (s.lane l).CreditsLegal) → s.TableLegal → step s = .next t →
    (∀ l, (t.lane l).CreditsLegal) ∧ t.TableLegal

/-- Tier 3. Every step keeps station time and the service-day start in range, bits 6 to 15 of the registers zero, gain,
runs, baseline and misses in range and the alarm counts within a word, and ends with nothing left to show (08 R164; 02
R19, R28, R29, R32; 07 R149; 10 section 10.9). The last clause is the model's (assumption 11). -/
def Obligations.StepKeepsRangesLegal : Prop :=
  ∀ s t : State, s.ClockLegal → s.RegistersLegal → (∀ l, (s.lane l).LinkLegal) → (∀ l, (s.lane l).CountsLegal) →
    s.Settled → step s = .next t →
    t.ClockLegal ∧ t.RegistersLegal ∧ (∀ l, (t.lane l).LinkLegal) ∧ (∀ l, (t.lane l).CountsLegal) ∧ t.Settled
end

