-- ==== Sys2Proof/Laws/Memory.lean ====
section
/-! SUPPORT. What the memory operations do to a read, and that they keep the canonical form. -/

namespace Sys2Proof.Machine

open Sys2Proof

/-! ## The canonical form -/

theorem Memory.wfFrom_mono {low low' : Nat} (h : low' ≤ low) : ∀ m : List Host.Cell,
    Memory.wfFrom low m = true → Memory.wfFrom low' m = true
  | [], _ => rfl
  | (a, v) :: rest, hm => by
    simp only [Memory.wfFrom, Bool.and_eq_true, decide_eq_true_eq] at hm ⊢
    exact ⟨⟨⟨by omega, hm.1.1.2⟩, hm.1.2⟩, hm.2⟩

/-- Below the first address of a canonical list every byte reads as an unlisted one. -/
theorem Memory.read_below : ∀ (m : List Host.Cell) (low a : Nat), Memory.wfFrom low m = true → a < low →
    Memory.read m a = Memory.resetByte a
  | [], _, _, _, _ => rfl
  | (b, v) :: rest, low, a, hm, h => by
    simp only [Memory.wfFrom, Bool.and_eq_true, decide_eq_true_eq] at hm
    have hb : a ≠ b := by omega
    simp only [Memory.read, if_neg hb]
    exact Memory.read_below rest (b + 1) a hm.2 (by omega)

theorem Memory.wfFrom_put (a : Nat) (v : Byte) (ha : a < Config.memorySize) : ∀ (m : List Host.Cell) (low : Nat),
    Memory.wfFrom low m = true → low ≤ a → Memory.wfFrom low (Memory.put m a v) = true
  | [], low, _, hl => by
    by_cases hv : v = Memory.resetByte a <;> simp [Memory.put, Memory.wfFrom, hv, hl, ha]
  | (b, w) :: rest, low, hm, hl => by
    have hm' := hm
    simp only [Memory.wfFrom, Bool.and_eq_true, decide_eq_true_eq] at hm'
    obtain ⟨⟨⟨hb, hbs⟩, hw⟩, hr⟩ := hm'
    by_cases h1 : a < b
    · by_cases hv : v = Memory.resetByte a
      · simpa [Memory.put, h1, hv] using hm
      · have hv' : (v != Memory.resetByte a) = true := by simpa using hv
        have hlow : a + 1 ≤ b := by omega
        simp only [Memory.put, h1, hv, if_true, if_false, Memory.wfFrom, Bool.and_eq_true, decide_eq_true_eq]
        exact ⟨⟨⟨hl, ha⟩, hv'⟩, ⟨⟨hlow, hbs⟩, hw⟩, hr⟩
    · by_cases h2 : a = b
      · subst h2
        by_cases hv : v = Memory.resetByte a
        · simp only [Memory.put, h1, hv, if_true, if_false]
          exact Memory.wfFrom_mono (by omega) rest hr
        · simp [Memory.put, hv, Memory.wfFrom, hl, ha, hr]
      · simp only [Memory.put, h1, h2, if_false, Memory.wfFrom, Bool.and_eq_true, decide_eq_true_eq]
        exact ⟨⟨⟨hb, hbs⟩, hw⟩, Memory.wfFrom_put a v ha rest (b + 1) hr (by omega)⟩

theorem Memory.wf_write (m : List Host.Cell) (a : Nat) (v : Byte) (h : Memory.wf m = true) :
    Memory.wf (Memory.write m a v) = true := by
  unfold Memory.write
  split
  · exact Memory.wfFrom_put a v (by assumption) m 0 h (Nat.zero_le a)
  · exact h

theorem Memory.wf_writeBytes : ∀ (bs : List Byte) (m : List Host.Cell) (a : Nat), Memory.wf m = true →
    Memory.wf (Memory.writeBytes m a bs) = true
  | [], _, _, h => h
  | b :: rest, m, a, h => Memory.wf_writeBytes rest _ (a + 1) (Memory.wf_write m a b h)

theorem Memory.wf_writeNat (m : List Host.Cell) (a n v : Nat) (h : Memory.wf m = true) :
    Memory.wf (Memory.writeNat m a n v) = true := Memory.wf_writeBytes _ m a h

theorem Memory.wf_writeCells : ∀ (cs : List (Nat × BitVec 8)) (m : List Host.Cell), Memory.wf m = true →
    Memory.wf (Memory.writeCells m cs) = true
  | [], _, h => h
  | (a, v) :: rest, m, h => Memory.wf_writeCells rest _ (Memory.wf_write m a v h)

/-! ## Reads -/

theorem Memory.read_put_ne {a b : Nat} (v : Byte) (h : b ≠ a) : ∀ m : List Host.Cell,
    Memory.read (Memory.put m a v) b = Memory.read m b
  | [] => by by_cases hv : v = Memory.resetByte a <;> simp [Memory.put, Memory.read, hv, h]
  | (c, w) :: rest => by
    by_cases h1 : a < c
    · by_cases hv : v = Memory.resetByte a <;> simp [Memory.put, h1, hv, Memory.read, h]
    · by_cases h2 : a = c
      · subst h2
        by_cases hv : v = Memory.resetByte a <;> simp [Memory.put, hv, Memory.read, h]
      · simp [Memory.put, h1, h2, Memory.read, Memory.read_put_ne v h rest]

theorem Memory.read_put_self (a : Nat) (v : Byte) : ∀ (m : List Host.Cell) (low : Nat),
    Memory.wfFrom low m = true → Memory.read (Memory.put m a v) a = v
  | [], _, _ => by by_cases hv : v = Memory.resetByte a <;> simp [Memory.put, Memory.read, hv]
  | (c, w) :: rest, low, hm => by
    have hm' := hm
    simp only [Memory.wfFrom, Bool.and_eq_true, decide_eq_true_eq] at hm'
    by_cases h1 : a < c
    · by_cases hv : v = Memory.resetByte a
      · have hlow : Memory.wfFrom c ((c, w) :: rest) = true := by simp [Memory.wfFrom, hm'.1.1.2, hm'.1.2, hm'.2]
        simp only [Memory.put, h1, hv, if_true]
        exact Memory.read_below _ c a hlow h1
      · simp [Memory.put, h1, hv, Memory.read]
    · by_cases h2 : a = c
      · subst h2
        by_cases hv : v = Memory.resetByte a
        · simp only [Memory.put, h1, hv, if_true, if_false]
          exact Memory.read_below rest (a + 1) a hm'.2 (by omega)
        · simp [Memory.put, hv, Memory.read]
      · simp only [Memory.put, h1, h2, if_false, Memory.read]
        exact Memory.read_put_self a v rest (c + 1) hm'.2

theorem Memory.read_write_ne (m : List Host.Cell) {a b : Nat} (v : Byte) (h : b ≠ a) :
    Memory.read (Memory.write m a v) b = Memory.read m b := by
  unfold Memory.write
  split
  · exact Memory.read_put_ne v h m
  · rfl

theorem Memory.read_write_self (m : List Host.Cell) {a : Nat} (v : Byte) (ha : a < Config.memorySize)
    (h : Memory.wf m = true) : Memory.read (Memory.write m a v) a = v := by
  rw [Memory.write, if_pos ha]
  exact Memory.read_put_self a v m 0 h

/-- A write of bytes changes no byte outside them. -/
theorem Memory.read_writeBytes_outside : ∀ (bs : List Byte) (m : List Host.Cell) (a b : Nat),
    (b < a ∨ a + bs.length ≤ b) → Memory.read (Memory.writeBytes m a bs) b = Memory.read m b
  | [], _, _, _, _ => rfl
  | v :: rest, m, a, b, h => by
    have hlen : (v :: rest).length = rest.length + 1 := rfl
    rw [Memory.writeBytes, Memory.read_writeBytes_outside rest _ (a + 1) b (by omega),
      Memory.read_write_ne m v (by omega)]

/-- A write of bytes places each of them. -/
theorem Memory.read_writeBytes_inside : ∀ (bs : List Byte) (m : List Host.Cell) (a i : Nat) (hi : i < bs.length),
    Memory.wf m = true → a + bs.length ≤ Config.memorySize →
    Memory.read (Memory.writeBytes m a bs) (a + i) = bs[i]
  | v :: rest, m, a, 0, _, h, hs => by
    have hlen : (v :: rest).length = rest.length + 1 := rfl
    rw [Memory.writeBytes, Memory.read_writeBytes_outside rest _ (a + 1) (a + 0) (by omega)]
    exact Memory.read_write_self m v (by omega) h
  | v :: rest, m, a, i + 1, hi, h, hs => by
    have hlen : (v :: rest).length = rest.length + 1 := rfl
    have e : a + (i + 1) = a + 1 + i := by omega
    rw [Memory.writeBytes, e,
      Memory.read_writeBytes_inside rest (Memory.write m a v) (a + 1) i (by omega) (Memory.wf_write m a v h) (by omega)]
    rfl

theorem length_leBytes : ∀ n v : Nat, (leBytes n v).length = n
  | 0, _ => rfl
  | n + 1, v => by rw [leBytes, List.length_cons, length_leBytes n]

/-- The memory of State.reset is canonical. -/
theorem Memory.wf_reset : Memory.wf State.reset.mem = true := rfl

end Sys2Proof.Machine
end

