-- ==== Sys2Proof/Laws/PerInstr.lean ====
section
/-! SUPPORT. What is said of every command as syntax, one lemma for each constructor. -/

namespace Sys2Proof.Laws

open Sys2Proof

/-- No word spells the command: the table gives its row no bits. -/
def Undecoded.Statement (i : Instr) : Prop := ∀ nbits w : Nat, decodeTableWord nbits w ≠ some i

theorem Undecoded.powerOn (inputs : StartInputs) (contents : List (Nat × BitVec 8)) : Undecoded.Statement (.powerOn inputs contents) := by
  simp [Undecoded.Statement, decodeTableWord]
theorem Undecoded.resetPinRelease (inputs : StartInputs) (cut : Nat) : Undecoded.Statement (.resetPinRelease inputs cut) := by
  simp [Undecoded.Statement, decodeTableWord]
theorem Undecoded.restart (write : RegWrite) (inputs : StartInputs) (cut : Nat) : Undecoded.Statement (.restart write inputs cut) := by
  simp [Undecoded.Statement, decodeTableWord]
theorem Undecoded.attentionWrite (write : RegWrite) : Undecoded.Statement (.attentionWrite write) := by
  simp [Undecoded.Statement, decodeTableWord]
theorem Undecoded.attentionMaskWrite (write : RegWrite) : Undecoded.Statement (.attentionMaskWrite write) := by
  simp [Undecoded.Statement, decodeTableWord]
theorem Undecoded.unusedRegisterWrite (address : Nat) (write : RegWrite) : Undecoded.Statement (.unusedRegisterWrite address write) := by
  simp [Undecoded.Statement, decodeTableWord]
theorem Undecoded.gcMemoryWrite (write : PortWrite) : Undecoded.Statement (.gcMemoryWrite write) := by
  simp [Undecoded.Statement, decodeTableWord]
theorem Undecoded.gcMemoryRead (read : PortRead) : Undecoded.Statement (.gcMemoryRead read) := by
  simp [Undecoded.Statement, decodeTableWord]
theorem Undecoded.orderSlotStateWordEvent (slot : Fin 8) : Undecoded.Statement (.orderSlotStateWordEvent slot) := by
  simp [Undecoded.Statement, decodeTableWord]
theorem Undecoded.consumedTallyEvent : Undecoded.Statement (.consumedTallyEvent) := by
  simp [Undecoded.Statement, decodeTableWord]
theorem Undecoded.orderTake : Undecoded.Statement (.orderTake) := by
  simp [Undecoded.Statement, decodeTableWord]
theorem Undecoded.setTime : Undecoded.Statement (.setTime) := by
  simp [Undecoded.Statement, decodeTableWord]
theorem Undecoded.setParameters : Undecoded.Statement (.setParameters) := by
  simp [Undecoded.Statement, decodeTableWord]
theorem Undecoded.parameterBlockReadEnd : Undecoded.Statement (.parameterBlockReadEnd) := by
  simp [Undecoded.Statement, decodeTableWord]
theorem Undecoded.configureJournal : Undecoded.Statement (.configureJournal) := by
  simp [Undecoded.Statement, decodeTableWord]
theorem Undecoded.adoptFareTable : Undecoded.Statement (.adoptFareTable) := by
  simp [Undecoded.Statement, decodeTableWord]
theorem Undecoded.fareTableValidationEnd : Undecoded.Statement (.fareTableValidationEnd) := by
  simp [Undecoded.Statement, decodeTableWord]
theorem Undecoded.adoptDenylist : Undecoded.Statement (.adoptDenylist) := by
  simp [Undecoded.Statement, decodeTableWord]
theorem Undecoded.denylistScanEnd : Undecoded.Statement (.denylistScanEnd) := by
  simp [Undecoded.Statement, decodeTableWord]
theorem Undecoded.denylistSwitch : Undecoded.Statement (.denylistSwitch) := by
  simp [Undecoded.Statement, decodeTableWord]
theorem Undecoded.loadKey : Undecoded.Statement (.loadKey) := by
  simp [Undecoded.Statement, decodeTableWord]
theorem Undecoded.loadKeyComplete : Undecoded.Statement (.loadKeyComplete) := by
  simp [Undecoded.Statement, decodeTableWord]
theorem Undecoded.retireKey : Undecoded.Statement (.retireKey) := by
  simp [Undecoded.Statement, decodeTableWord]
theorem Undecoded.eraseKey : Undecoded.Statement (.eraseKey) := by
  simp [Undecoded.Statement, decodeTableWord]
theorem Undecoded.setLaneMode : Undecoded.Statement (.setLaneMode) := by
  simp [Undecoded.Statement, decodeTableWord]
theorem Undecoded.resetLane : Undecoded.Statement (.resetLane) := by
  simp [Undecoded.Statement, decodeTableWord]
theorem Undecoded.clearLaneCounts : Undecoded.Statement (.clearLaneCounts) := by
  simp [Undecoded.Statement, decodeTableWord]
theorem Undecoded.readSighting : Undecoded.Statement (.readSighting) := by
  simp [Undecoded.Statement, decodeTableWord]
theorem Undecoded.forgetCard : Undecoded.Statement (.forgetCard) := by
  simp [Undecoded.Statement, decodeTableWord]
theorem Undecoded.unknownOrderKind : Undecoded.Statement (.unknownOrderKind) := by
  simp [Undecoded.Statement, decodeTableWord]
theorem Undecoded.orderEnd : Undecoded.Statement (.orderEnd) := by
  simp [Undecoded.Statement, decodeTableWord]
theorem Undecoded.clockTick : Undecoded.Statement (.clockTick) := by
  simp [Undecoded.Statement, decodeTableWord]
theorem Undecoded.dayNumberWrap : Undecoded.Statement (.dayNumberWrap) := by
  simp [Undecoded.Statement, decodeTableWord]
theorem Undecoded.serviceDayRollover : Undecoded.Statement (.serviceDayRollover) := by
  simp [Undecoded.Statement, decodeTableWord]
theorem Undecoded.clockReadout : Undecoded.Statement (.clockReadout) := by
  simp [Undecoded.Statement, decodeTableWord]
theorem Undecoded.scanRoundStart : Undecoded.Statement (.scanRoundStart) := by
  simp [Undecoded.Statement, decodeTableWord]
theorem Undecoded.settleEnd : Undecoded.Statement (.settleEnd) := by
  simp [Undecoded.Statement, decodeTableWord]
theorem Undecoded.conversionEnd (load : Nat) : Undecoded.Statement (.conversionEnd load) := by
  simp [Undecoded.Statement, decodeTableWord]
theorem Undecoded.powerUpHoldEnd (lane : LaneId) (level : Byte) : Undecoded.Statement (.powerUpHoldEnd lane level) := by
  simp [Undecoded.Statement, decodeTableWord]
theorem Undecoded.noiseMeasurementEnd (lane : LaneId) (level : Byte) : Undecoded.Statement (.noiseMeasurementEnd lane level) := by
  simp [Undecoded.Statement, decodeTableWord]
theorem Undecoded.frameSent (lane : LaneId) : Undecoded.Statement (.frameSent lane) := by
  simp [Undecoded.Statement, decodeTableWord]
theorem Undecoded.answerStart (lane : LaneId) : Undecoded.Statement (.answerStart lane) := by
  simp [Undecoded.Statement, decodeTableWord]
theorem Undecoded.answerReceived (lane : LaneId) (peak : Byte) (answer : Reception) : Undecoded.Statement (.answerReceived lane peak answer) := by
  simp [Undecoded.Statement, decodeTableWord]
theorem Undecoded.responseWaitExpiry (lane : LaneId) : Undecoded.Statement (.responseWaitExpiry lane) := by
  simp [Undecoded.Statement, decodeTableWord]
theorem Undecoded.dialogueDeadlineExpiry (lane : LaneId) : Undecoded.Statement (.dialogueDeadlineExpiry lane) := by
  simp [Undecoded.Statement, decodeTableWord]
theorem Undecoded.aeOperationComplete : Undecoded.Statement (.aeOperationComplete) := by
  simp [Undecoded.Statement, decodeTableWord]
theorem Undecoded.claimAnswer (lane : LaneId) : Undecoded.Statement (.claimAnswer lane) := by
  simp [Undecoded.Statement, decodeTableWord]
theorem Undecoded.screenLookupEnd (lane : LaneId) : Undecoded.Statement (.screenLookupEnd lane) := by
  simp [Undecoded.Statement, decodeTableWord]
theorem Undecoded.screenAnswer (lane : LaneId) : Undecoded.Statement (.screenAnswer lane) := by
  simp [Undecoded.Statement, decodeTableWord]
theorem Undecoded.priceAnswer (lane : LaneId) : Undecoded.Statement (.priceAnswer lane) := by
  simp [Undecoded.Statement, decodeTableWord]
theorem Undecoded.journalRecordWrite : Undecoded.Statement (.journalRecordWrite) := by
  simp [Undecoded.Statement, decodeTableWord]
theorem Undecoded.notifyTimerExpiry : Undecoded.Statement (.notifyTimerExpiry) := by
  simp [Undecoded.Statement, decodeTableWord]
theorem Undecoded.probeTimerExpiry (lane : LaneId) : Undecoded.Statement (.probeTimerExpiry lane) := by
  simp [Undecoded.Statement, decodeTableWord]
theorem Undecoded.probeWaitExpiry (lane : LaneId) : Undecoded.Statement (.probeWaitExpiry lane) := by
  simp [Undecoded.Statement, decodeTableWord]
theorem Undecoded.beamEvent (lane : LaneId) (group : BeamGroup) (beam : Beam) (held : Nat) : Undecoded.Statement (.beamEvent lane group beam held) := by
  simp [Undecoded.Statement, decodeTableWord]
theorem Undecoded.creditExpiry (lane : LaneId) (sequence : Word) : Undecoded.Statement (.creditExpiry lane sequence) := by
  simp [Undecoded.Statement, decodeTableWord]
theorem Undecoded.stuckTimerExpiry (lane : LaneId) : Undecoded.Statement (.stuckTimerExpiry lane) := by
  simp [Undecoded.Statement, decodeTableWord]
theorem Undecoded.boostEnd (lane : LaneId) : Undecoded.Statement (.boostEnd lane) := by
  simp [Undecoded.Statement, decodeTableWord]
theorem Undecoded.limitSwitchEvent (lane : LaneId) (limit : Limit) (active : Bool) : Undecoded.Statement (.limitSwitchEvent lane limit active) := by
  simp [Undecoded.Statement, decodeTableWord]
theorem Undecoded.brakeEnd (lane : LaneId) : Undecoded.Statement (.brakeEnd lane) := by
  simp [Undecoded.Statement, decodeTableWord]
theorem Undecoded.leafOverload (lane : LaneId) : Undecoded.Statement (.leafOverload lane) := by
  simp [Undecoded.Statement, decodeTableWord]
theorem Undecoded.strokeTimeout (lane : LaneId) : Undecoded.Statement (.strokeTimeout lane) := by
  simp [Undecoded.Statement, decodeTableWord]
theorem Undecoded.emergencyAsserted (held : Nat) : Undecoded.Statement (.emergencyAsserted held) := by
  simp [Undecoded.Statement, decodeTableWord]
theorem Undecoded.emergencyReleased (held : Nat) : Undecoded.Statement (.emergencyReleased held) := by
  simp [Undecoded.Statement, decodeTableWord]
theorem Undecoded.timedDisplayEnd (lane : LaneId) : Undecoded.Statement (.timedDisplayEnd lane) := by
  simp [Undecoded.Statement, decodeTableWord]
theorem Undecoded.toneEnd (lane : LaneId) : Undecoded.Statement (.toneEnd lane) := by
  simp [Undecoded.Statement, decodeTableWord]
theorem Undecoded.passbackExpiry (card : CardNumber) : Undecoded.Statement (.passbackExpiry card) := by
  simp [Undecoded.Statement, decodeTableWord]
theorem Undecoded.regrantGraceExpiry (card : CardNumber) : Undecoded.Statement (.regrantGraceExpiry card) := by
  simp [Undecoded.Statement, decodeTableWord]
theorem Undecoded.uncertaintyExpiry (card : CardNumber) : Undecoded.Statement (.uncertaintyExpiry card) := by
  simp [Undecoded.Statement, decodeTableWord]
theorem Undecoded.resetPinAsserted (cut : Nat) : Undecoded.Statement (.resetPinAsserted cut) := by
  simp [Undecoded.Statement, decodeTableWord]

end Sys2Proof.Laws
end

