-- ==== Sys2Proof/Laws/State.lean ====
section
/-! SUPPORT. What each field of the state is after each update of it. -/

namespace Sys2Proof.Machine

open Sys2Proof

variable (s : State)

/-! ## Lanes -/

@[simp] theorem PerLane.get_set_self {α : Type} (p : PerLane α) (l : LaneId) (x : α) : (p.set l x).get l = x := by
  cases l <;> rfl

theorem PerLane.get_set_ne {α : Type} (p : PerLane α) {k l : LaneId} (x : α) (h : k ≠ l) :
    (p.set l x).get k = p.get k := by
  cases k <;> cases l <;> first | rfl | exact absurd rfl h

@[simp] theorem PerLane.set_get {α : Type} (p : PerLane α) (l : LaneId) : p.set l (p.get l) = p := by
  cases l <;> rfl

@[simp] theorem State.lane_setLane_self (l : LaneId) (x : Lane) : (s.setLane l x).lane l = x :=
  PerLane.get_set_self s.lanes l x

theorem State.lane_setLane_ne {k l : LaneId} (x : Lane) (h : k ≠ l) : (s.setLane l x).lane k = s.lane k :=
  PerLane.get_set_ne s.lanes x h

@[simp] theorem State.lane_updLane_self (l : LaneId) (f : Lane → Lane) : (s.updLane l f).lane l = f (s.lane l) :=
  PerLane.get_set_self s.lanes l _

theorem State.lane_updLane_ne {k l : LaneId} (f : Lane → Lane) (h : k ≠ l) : (s.updLane l f).lane k = s.lane k :=
  PerLane.get_set_ne s.lanes _ h

/-- Two states with the same lanes have each lane in common. -/
theorem State.lane_congr {s t : State} (h : s.lanes = t.lanes) (l : LaneId) : s.lane l = t.lane l := by
  rw [State.lane, State.lane, h]


/-! ## The leaves at the open limit in FREE -/

/-- A BRAKE runs on. -/
@[simp] theorem Drive.restOpen_brake (limit : Limit) (due : Nat) : (Drive.brake limit due).restOpen = .brake limit due :=
  rfl

/-- Any drive but a BRAKE goes to HOLD. -/
theorem Drive.restOpen_hold {d : Drive} (h : ∀ limit due, d ≠ .brake limit due) : d.restOpen = .hold .atOpen := by
  cases d with
  | brake limit due => exact absurd rfl (h limit due)
  | released => rfl
  | hold limit => rfl
  | stroke toward boostEnd timeout brakeMs => rfl

@[simp] theorem Lane.restFree_pc (x : Lane) : x.restFree.pc = .free := rfl
@[simp] theorem Lane.restFree_drive (x : Lane) : x.restFree.drive = x.drive.restOpen := rfl

/-- No stroke is in progress afterwards. -/
@[simp] theorem Lane.restFree_stroking (x : Lane) : x.restFree.stroking = none := by
  unfold Lane.stroking
  cases h : x.drive <;> simp [h, Drive.restOpen]

@[simp] theorem Lane.openFree_pc (p : Parameters) (tb : Nat) (x : Lane) : (x.openFree p tb).pc = .free := rfl
@[simp] theorem Lane.openFree_stroking (p : Parameters) (tb : Nat) (x : Lane) :
    (x.openFree p tb).stroking = some .atOpen := rfl

/-- RESET LANE's fourth step in mode FREE with the open limit active. -/
theorem Lane.restore_free_atOpen {x : Lane} (p : Parameters) (tb : Nat) (m : x.mode = .free) (h : x.openLimit = true) :
    x.restore p tb = x.restFree := by
  simp [Lane.restore, m, h]

/-- RESET LANE's fourth step in mode FREE away from the open limit. -/
theorem Lane.restore_free_away {x : Lane} (p : Parameters) (tb : Nat) (m : x.mode = .free) (h : x.openLimit = false) :
    x.restore p tb = x.openFree p tb := by
  simp [Lane.restore, m, h]

/-! ## `State.setLane` -/

@[simp] theorem State.setLane_timeBase (l : LaneId) (x : Lane) : (s.setLane l x).timeBase = s.timeBase := rfl
@[simp] theorem State.setLane_nextTick (l : LaneId) (x : Lane) : (s.setLane l x).nextTick = s.nextTick := rfl
@[simp] theorem State.setLane_clock (l : LaneId) (x : Lane) : (s.setLane l x).clock = s.clock := rfl
@[simp] theorem State.setLane_params (l : LaneId) (x : Lane) : (s.setLane l x).params = s.params := rfl
@[simp] theorem State.setLane_debounceLog (l : LaneId) (x : Lane) : (s.setLane l x).debounceLog = s.debounceLog := rfl
@[simp] theorem State.setLane_scanner (l : LaneId) (x : Lane) : (s.setLane l x).scanner = s.scanner := rfl
@[simp] theorem State.setLane_lanes (l : LaneId) (x : Lane) : (s.setLane l x).lanes = s.lanes.set l x := rfl
@[simp] theorem State.setLane_emergency (l : LaneId) (x : Lane) : (s.setLane l x).emergency = s.emergency := rfl
@[simp] theorem State.setLane_engine (l : LaneId) (x : Lane) : (s.setLane l x).engine = s.engine := rfl
@[simp] theorem State.setLane_fare (l : LaneId) (x : Lane) : (s.setLane l x).fare = s.fare := rfl
@[simp] theorem State.setLane_screening (l : LaneId) (x : Lane) : (s.setLane l x).screening = s.screening := rfl
@[simp] theorem State.setLane_journal (l : LaneId) (x : Lane) : (s.setLane l x).journal = s.journal := rfl
@[simp] theorem State.setLane_orders (l : LaneId) (x : Lane) : (s.setLane l x).orders = s.orders := rfl
@[simp] theorem State.setLane_port (l : LaneId) (x : Lane) : (s.setLane l x).port = s.port := rfl
@[simp] theorem State.setLane_regs (l : LaneId) (x : Lane) : (s.setLane l x).regs = s.regs := rfl
@[simp] theorem State.setLane_sys (l : LaneId) (x : Lane) : (s.setLane l x).sys = s.sys := rfl
@[simp] theorem State.setLane_deferred (l : LaneId) (x : Lane) : (s.setLane l x).deferred = s.deferred := rfl
@[simp] theorem State.setLane_mem (l : LaneId) (x : Lane) : (s.setLane l x).mem = s.mem := rfl
@[simp] theorem State.setLane_pending (l : LaneId) (x : Lane) : (s.setLane l x).pending = s.pending := rfl

/-! ## `State.updLane` -/

@[simp] theorem State.updLane_timeBase (l : LaneId) (f : Lane → Lane) : (s.updLane l f).timeBase = s.timeBase := rfl
@[simp] theorem State.updLane_nextTick (l : LaneId) (f : Lane → Lane) : (s.updLane l f).nextTick = s.nextTick := rfl
@[simp] theorem State.updLane_clock (l : LaneId) (f : Lane → Lane) : (s.updLane l f).clock = s.clock := rfl
@[simp] theorem State.updLane_params (l : LaneId) (f : Lane → Lane) : (s.updLane l f).params = s.params := rfl
@[simp] theorem State.updLane_debounceLog (l : LaneId) (f : Lane → Lane) : (s.updLane l f).debounceLog = s.debounceLog := rfl
@[simp] theorem State.updLane_scanner (l : LaneId) (f : Lane → Lane) : (s.updLane l f).scanner = s.scanner := rfl
@[simp] theorem State.updLane_lanes (l : LaneId) (f : Lane → Lane) : (s.updLane l f).lanes = s.lanes.set l (f (s.lane l)) := rfl
@[simp] theorem State.updLane_emergency (l : LaneId) (f : Lane → Lane) : (s.updLane l f).emergency = s.emergency := rfl
@[simp] theorem State.updLane_engine (l : LaneId) (f : Lane → Lane) : (s.updLane l f).engine = s.engine := rfl
@[simp] theorem State.updLane_fare (l : LaneId) (f : Lane → Lane) : (s.updLane l f).fare = s.fare := rfl
@[simp] theorem State.updLane_screening (l : LaneId) (f : Lane → Lane) : (s.updLane l f).screening = s.screening := rfl
@[simp] theorem State.updLane_journal (l : LaneId) (f : Lane → Lane) : (s.updLane l f).journal = s.journal := rfl
@[simp] theorem State.updLane_orders (l : LaneId) (f : Lane → Lane) : (s.updLane l f).orders = s.orders := rfl
@[simp] theorem State.updLane_port (l : LaneId) (f : Lane → Lane) : (s.updLane l f).port = s.port := rfl
@[simp] theorem State.updLane_regs (l : LaneId) (f : Lane → Lane) : (s.updLane l f).regs = s.regs := rfl
@[simp] theorem State.updLane_sys (l : LaneId) (f : Lane → Lane) : (s.updLane l f).sys = s.sys := rfl
@[simp] theorem State.updLane_deferred (l : LaneId) (f : Lane → Lane) : (s.updLane l f).deferred = s.deferred := rfl
@[simp] theorem State.updLane_mem (l : LaneId) (f : Lane → Lane) : (s.updLane l f).mem = s.mem := rfl
@[simp] theorem State.updLane_pending (l : LaneId) (f : Lane → Lane) : (s.updLane l f).pending = s.pending := rfl

/-! ## `State.writeMem` -/

@[simp] theorem State.writeMem_timeBase (a : Nat) (bs : List Byte) : (s.writeMem a bs).timeBase = s.timeBase := rfl
@[simp] theorem State.writeMem_nextTick (a : Nat) (bs : List Byte) : (s.writeMem a bs).nextTick = s.nextTick := rfl
@[simp] theorem State.writeMem_clock (a : Nat) (bs : List Byte) : (s.writeMem a bs).clock = s.clock := rfl
@[simp] theorem State.writeMem_params (a : Nat) (bs : List Byte) : (s.writeMem a bs).params = s.params := rfl
@[simp] theorem State.writeMem_debounceLog (a : Nat) (bs : List Byte) : (s.writeMem a bs).debounceLog = s.debounceLog := rfl
@[simp] theorem State.writeMem_scanner (a : Nat) (bs : List Byte) : (s.writeMem a bs).scanner = s.scanner := rfl
@[simp] theorem State.writeMem_lanes (a : Nat) (bs : List Byte) : (s.writeMem a bs).lanes = s.lanes := rfl
@[simp] theorem State.writeMem_emergency (a : Nat) (bs : List Byte) : (s.writeMem a bs).emergency = s.emergency := rfl
@[simp] theorem State.writeMem_engine (a : Nat) (bs : List Byte) : (s.writeMem a bs).engine = s.engine := rfl
@[simp] theorem State.writeMem_fare (a : Nat) (bs : List Byte) : (s.writeMem a bs).fare = s.fare := rfl
@[simp] theorem State.writeMem_screening (a : Nat) (bs : List Byte) : (s.writeMem a bs).screening = s.screening := rfl
@[simp] theorem State.writeMem_journal (a : Nat) (bs : List Byte) : (s.writeMem a bs).journal = s.journal := rfl
@[simp] theorem State.writeMem_orders (a : Nat) (bs : List Byte) : (s.writeMem a bs).orders = s.orders := rfl
@[simp] theorem State.writeMem_port (a : Nat) (bs : List Byte) : (s.writeMem a bs).port = s.port := rfl
@[simp] theorem State.writeMem_regs (a : Nat) (bs : List Byte) : (s.writeMem a bs).regs = s.regs := rfl
@[simp] theorem State.writeMem_sys (a : Nat) (bs : List Byte) : (s.writeMem a bs).sys = s.sys := rfl
@[simp] theorem State.writeMem_deferred (a : Nat) (bs : List Byte) : (s.writeMem a bs).deferred = s.deferred := rfl
@[simp] theorem State.writeMem_mem (a : Nat) (bs : List Byte) : (s.writeMem a bs).mem = Memory.writeBytes s.mem a bs := rfl
@[simp] theorem State.writeMem_pending (a : Nat) (bs : List Byte) : (s.writeMem a bs).pending = s.pending := rfl
@[simp] theorem State.writeMem_lane (a : Nat) (bs : List Byte) (q : LaneId) : (s.writeMem a bs).lane q = s.lane q := rfl

/-! ## `State.raise` -/

@[simp] theorem State.raise_timeBase (c : Cause) : (s.raise c).timeBase = s.timeBase := rfl
@[simp] theorem State.raise_nextTick (c : Cause) : (s.raise c).nextTick = s.nextTick := rfl
@[simp] theorem State.raise_clock (c : Cause) : (s.raise c).clock = s.clock := rfl
@[simp] theorem State.raise_params (c : Cause) : (s.raise c).params = s.params := rfl
@[simp] theorem State.raise_debounceLog (c : Cause) : (s.raise c).debounceLog = s.debounceLog := rfl
@[simp] theorem State.raise_scanner (c : Cause) : (s.raise c).scanner = s.scanner := rfl
@[simp] theorem State.raise_lanes (c : Cause) : (s.raise c).lanes = s.lanes := rfl
@[simp] theorem State.raise_emergency (c : Cause) : (s.raise c).emergency = s.emergency := rfl
@[simp] theorem State.raise_engine (c : Cause) : (s.raise c).engine = s.engine := rfl
@[simp] theorem State.raise_fare (c : Cause) : (s.raise c).fare = s.fare := rfl
@[simp] theorem State.raise_screening (c : Cause) : (s.raise c).screening = s.screening := rfl
@[simp] theorem State.raise_journal (c : Cause) : (s.raise c).journal = s.journal := rfl
@[simp] theorem State.raise_orders (c : Cause) : (s.raise c).orders = s.orders := rfl
@[simp] theorem State.raise_port (c : Cause) : (s.raise c).port = s.port := rfl
@[simp] theorem State.raise_regs (c : Cause) : (s.raise c).regs = { s.regs with attention := s.regs.attention ||| c.bit } := rfl
@[simp] theorem State.raise_sys (c : Cause) : (s.raise c).sys = s.sys := rfl
@[simp] theorem State.raise_deferred (c : Cause) : (s.raise c).deferred = s.deferred := rfl
@[simp] theorem State.raise_mem (c : Cause) : (s.raise c).mem = s.mem := rfl
@[simp] theorem State.raise_pending (c : Cause) : (s.raise c).pending = s.pending := rfl
@[simp] theorem State.raise_lane (c : Cause) (q : LaneId) : (s.raise c).lane q = s.lane q := rfl

/-! ## `State.recordHeld` -/

@[simp] theorem State.recordHeld_timeBase (a : Nat) : (s.recordHeld a).timeBase = s.timeBase := rfl
@[simp] theorem State.recordHeld_nextTick (a : Nat) : (s.recordHeld a).nextTick = s.nextTick := rfl
@[simp] theorem State.recordHeld_clock (a : Nat) : (s.recordHeld a).clock = s.clock := rfl
@[simp] theorem State.recordHeld_params (a : Nat) : (s.recordHeld a).params = s.params := rfl
@[simp] theorem State.recordHeld_debounceLog (a : Nat) : (s.recordHeld a).debounceLog = s.debounceLog := rfl
@[simp] theorem State.recordHeld_scanner (a : Nat) : (s.recordHeld a).scanner = s.scanner := rfl
@[simp] theorem State.recordHeld_lanes (a : Nat) : (s.recordHeld a).lanes = s.lanes := rfl
@[simp] theorem State.recordHeld_emergency (a : Nat) : (s.recordHeld a).emergency = s.emergency := rfl
@[simp] theorem State.recordHeld_engine (a : Nat) : (s.recordHeld a).engine = s.engine := rfl
@[simp] theorem State.recordHeld_fare (a : Nat) : (s.recordHeld a).fare = s.fare := rfl
@[simp] theorem State.recordHeld_screening (a : Nat) : (s.recordHeld a).screening = s.screening := rfl
@[simp] theorem State.recordHeld_journal (a : Nat) : (s.recordHeld a).journal = s.journal := rfl
@[simp] theorem State.recordHeld_orders (a : Nat) : (s.recordHeld a).orders = s.orders := rfl
@[simp] theorem State.recordHeld_port (a : Nat) : (s.recordHeld a).port = s.port := rfl
@[simp] theorem State.recordHeld_regs (a : Nat) : (s.recordHeld a).regs = { s.regs with attention := s.regs.attention ||| Cause.bit .held } := rfl
@[simp] theorem State.recordHeld_sys (a : Nat) : (s.recordHeld a).sys = { s.sys with lastHeld := a } := rfl
@[simp] theorem State.recordHeld_deferred (a : Nat) : (s.recordHeld a).deferred = s.deferred := rfl
@[simp] theorem State.recordHeld_mem (a : Nat) : (s.recordHeld a).mem = Memory.writeBytes s.mem 0x14 (leBytes 4 a) := rfl
@[simp] theorem State.recordHeld_pending (a : Nat) : (s.recordHeld a).pending = s.pending := rfl
@[simp] theorem State.recordHeld_lane (a : Nat) (q : LaneId) : (s.recordHeld a).lane q = s.lane q := rfl

/-! ## `State.setReserved` -/

@[simp] theorem State.setReserved_timeBase (n : Nat) : (s.setReserved n).timeBase = s.timeBase := rfl
@[simp] theorem State.setReserved_nextTick (n : Nat) : (s.setReserved n).nextTick = s.nextTick := rfl
@[simp] theorem State.setReserved_clock (n : Nat) : (s.setReserved n).clock = s.clock := rfl
@[simp] theorem State.setReserved_params (n : Nat) : (s.setReserved n).params = s.params := rfl
@[simp] theorem State.setReserved_debounceLog (n : Nat) : (s.setReserved n).debounceLog = s.debounceLog := rfl
@[simp] theorem State.setReserved_scanner (n : Nat) : (s.setReserved n).scanner = s.scanner := rfl
@[simp] theorem State.setReserved_lanes (n : Nat) : (s.setReserved n).lanes = s.lanes := rfl
@[simp] theorem State.setReserved_emergency (n : Nat) : (s.setReserved n).emergency = s.emergency := rfl
@[simp] theorem State.setReserved_engine (n : Nat) : (s.setReserved n).engine = s.engine := rfl
@[simp] theorem State.setReserved_fare (n : Nat) : (s.setReserved n).fare = s.fare := rfl
@[simp] theorem State.setReserved_screening (n : Nat) : (s.setReserved n).screening = s.screening := rfl
@[simp] theorem State.setReserved_journal (n : Nat) : (s.setReserved n).journal = { s.journal with reserved := n } := rfl
@[simp] theorem State.setReserved_orders (n : Nat) : (s.setReserved n).orders = s.orders := rfl
@[simp] theorem State.setReserved_port (n : Nat) : (s.setReserved n).port = s.port := rfl
@[simp] theorem State.setReserved_regs (n : Nat) : (s.setReserved n).regs = s.regs := rfl
@[simp] theorem State.setReserved_sys (n : Nat) : (s.setReserved n).sys = s.sys := rfl
@[simp] theorem State.setReserved_deferred (n : Nat) : (s.setReserved n).deferred = s.deferred := rfl
@[simp] theorem State.setReserved_mem (n : Nat) : (s.setReserved n).mem = s.mem := rfl
@[simp] theorem State.setReserved_pending (n : Nat) : (s.setReserved n).pending = s.pending := rfl
@[simp] theorem State.setReserved_lane (n : Nat) (q : LaneId) : (s.setReserved n).lane q = s.lane q := rfl

/-! ## `State.enqueue` -/

@[simp] theorem State.enqueue_timeBase (r : RecordRequest) : (s.enqueue r).timeBase = s.timeBase := rfl
@[simp] theorem State.enqueue_nextTick (r : RecordRequest) : (s.enqueue r).nextTick = s.nextTick := rfl
@[simp] theorem State.enqueue_clock (r : RecordRequest) : (s.enqueue r).clock = s.clock := rfl
@[simp] theorem State.enqueue_params (r : RecordRequest) : (s.enqueue r).params = s.params := rfl
@[simp] theorem State.enqueue_debounceLog (r : RecordRequest) : (s.enqueue r).debounceLog = s.debounceLog := rfl
@[simp] theorem State.enqueue_scanner (r : RecordRequest) : (s.enqueue r).scanner = s.scanner := rfl
@[simp] theorem State.enqueue_lanes (r : RecordRequest) : (s.enqueue r).lanes = s.lanes := rfl
@[simp] theorem State.enqueue_emergency (r : RecordRequest) : (s.enqueue r).emergency = s.emergency := rfl
@[simp] theorem State.enqueue_engine (r : RecordRequest) : (s.enqueue r).engine = s.engine := rfl
@[simp] theorem State.enqueue_fare (r : RecordRequest) : (s.enqueue r).fare = s.fare := rfl
@[simp] theorem State.enqueue_screening (r : RecordRequest) : (s.enqueue r).screening = s.screening := rfl
@[simp] theorem State.enqueue_orders (r : RecordRequest) : (s.enqueue r).orders = s.orders := rfl
@[simp] theorem State.enqueue_port (r : RecordRequest) : (s.enqueue r).port = s.port := rfl
@[simp] theorem State.enqueue_regs (r : RecordRequest) : (s.enqueue r).regs = s.regs := rfl
@[simp] theorem State.enqueue_sys (r : RecordRequest) : (s.enqueue r).sys = s.sys := rfl
@[simp] theorem State.enqueue_deferred (r : RecordRequest) : (s.enqueue r).deferred = s.deferred := rfl
@[simp] theorem State.enqueue_mem (r : RecordRequest) : (s.enqueue r).mem = s.mem := rfl
@[simp] theorem State.enqueue_pending (r : RecordRequest) : (s.enqueue r).pending = s.pending := rfl
@[simp] theorem State.enqueue_lane (r : RecordRequest) (q : LaneId) : (s.enqueue r).lane q = s.lane q := rfl

/-! ## `State.setHeld` -/

@[simp] theorem State.setHeld_timeBase (h : HeldList) : (s.setHeld h).timeBase = s.timeBase := rfl
@[simp] theorem State.setHeld_nextTick (h : HeldList) : (s.setHeld h).nextTick = s.nextTick := rfl
@[simp] theorem State.setHeld_clock (h : HeldList) : (s.setHeld h).clock = s.clock := rfl
@[simp] theorem State.setHeld_params (h : HeldList) : (s.setHeld h).params = s.params := rfl
@[simp] theorem State.setHeld_debounceLog (h : HeldList) : (s.setHeld h).debounceLog = s.debounceLog := rfl
@[simp] theorem State.setHeld_scanner (h : HeldList) : (s.setHeld h).scanner = s.scanner := rfl
@[simp] theorem State.setHeld_lanes (h : HeldList) : (s.setHeld h).lanes = s.lanes := rfl
@[simp] theorem State.setHeld_emergency (h : HeldList) : (s.setHeld h).emergency = s.emergency := rfl
@[simp] theorem State.setHeld_engine (h : HeldList) : (s.setHeld h).engine = s.engine := rfl
@[simp] theorem State.setHeld_fare (h : HeldList) : (s.setHeld h).fare = s.fare := rfl
@[simp] theorem State.setHeld_screening (h : HeldList) : (s.setHeld h).screening = s.screening := rfl
@[simp] theorem State.setHeld_journal (h : HeldList) : (s.setHeld h).journal = s.journal := rfl
@[simp] theorem State.setHeld_orders (h : HeldList) : (s.setHeld h).orders = { s.orders with held := h } := rfl
@[simp] theorem State.setHeld_port (h : HeldList) : (s.setHeld h).port = s.port := rfl
@[simp] theorem State.setHeld_regs (h : HeldList) : (s.setHeld h).regs = s.regs := rfl
@[simp] theorem State.setHeld_sys (h : HeldList) : (s.setHeld h).sys = s.sys := rfl
@[simp] theorem State.setHeld_deferred (h : HeldList) : (s.setHeld h).deferred = s.deferred := rfl
@[simp] theorem State.setHeld_mem (h : HeldList) : (s.setHeld h).mem = s.mem := rfl
@[simp] theorem State.setHeld_pending (h : HeldList) : (s.setHeld h).pending = s.pending := rfl
@[simp] theorem State.setHeld_lane (h : HeldList) (q : LaneId) : (s.setHeld h).lane q = s.lane q := rfl

/-! ## `State.setStage` -/

@[simp] theorem State.setStage_timeBase (g : OrderStage) : (s.setStage g).timeBase = s.timeBase := rfl
@[simp] theorem State.setStage_nextTick (g : OrderStage) : (s.setStage g).nextTick = s.nextTick := rfl
@[simp] theorem State.setStage_clock (g : OrderStage) : (s.setStage g).clock = s.clock := rfl
@[simp] theorem State.setStage_params (g : OrderStage) : (s.setStage g).params = s.params := rfl
@[simp] theorem State.setStage_debounceLog (g : OrderStage) : (s.setStage g).debounceLog = s.debounceLog := rfl
@[simp] theorem State.setStage_scanner (g : OrderStage) : (s.setStage g).scanner = s.scanner := rfl
@[simp] theorem State.setStage_lanes (g : OrderStage) : (s.setStage g).lanes = s.lanes := rfl
@[simp] theorem State.setStage_emergency (g : OrderStage) : (s.setStage g).emergency = s.emergency := rfl
@[simp] theorem State.setStage_engine (g : OrderStage) : (s.setStage g).engine = s.engine := rfl
@[simp] theorem State.setStage_fare (g : OrderStage) : (s.setStage g).fare = s.fare := rfl
@[simp] theorem State.setStage_screening (g : OrderStage) : (s.setStage g).screening = s.screening := rfl
@[simp] theorem State.setStage_journal (g : OrderStage) : (s.setStage g).journal = s.journal := rfl
@[simp] theorem State.setStage_orders (g : OrderStage) : (s.setStage g).orders = { s.orders with service := s.orders.service.map fun o => { o with stage := g } } := rfl
@[simp] theorem State.setStage_port (g : OrderStage) : (s.setStage g).port = s.port := rfl
@[simp] theorem State.setStage_regs (g : OrderStage) : (s.setStage g).regs = s.regs := rfl
@[simp] theorem State.setStage_sys (g : OrderStage) : (s.setStage g).sys = s.sys := rfl
@[simp] theorem State.setStage_deferred (g : OrderStage) : (s.setStage g).deferred = s.deferred := rfl
@[simp] theorem State.setStage_mem (g : OrderStage) : (s.setStage g).mem = s.mem := rfl
@[simp] theorem State.setStage_pending (g : OrderStage) : (s.setStage g).pending = s.pending := rfl
@[simp] theorem State.setStage_lane (g : OrderStage) (q : LaneId) : (s.setStage g).lane q = s.lane q := rfl

/-! ## `State.setReady` -/

@[simp] theorem State.setReady_timeBase (f : Readiness → Readiness) : (s.setReady f).timeBase = s.timeBase := rfl
@[simp] theorem State.setReady_nextTick (f : Readiness → Readiness) : (s.setReady f).nextTick = s.nextTick := rfl
@[simp] theorem State.setReady_clock (f : Readiness → Readiness) : (s.setReady f).clock = s.clock := rfl
@[simp] theorem State.setReady_params (f : Readiness → Readiness) : (s.setReady f).params = s.params := rfl
@[simp] theorem State.setReady_debounceLog (f : Readiness → Readiness) : (s.setReady f).debounceLog = s.debounceLog := rfl
@[simp] theorem State.setReady_scanner (f : Readiness → Readiness) : (s.setReady f).scanner = s.scanner := rfl
@[simp] theorem State.setReady_lanes (f : Readiness → Readiness) : (s.setReady f).lanes = s.lanes := rfl
@[simp] theorem State.setReady_emergency (f : Readiness → Readiness) : (s.setReady f).emergency = s.emergency := rfl
@[simp] theorem State.setReady_engine (f : Readiness → Readiness) : (s.setReady f).engine = s.engine := rfl
@[simp] theorem State.setReady_fare (f : Readiness → Readiness) : (s.setReady f).fare = s.fare := rfl
@[simp] theorem State.setReady_screening (f : Readiness → Readiness) : (s.setReady f).screening = s.screening := rfl
@[simp] theorem State.setReady_journal (f : Readiness → Readiness) : (s.setReady f).journal = s.journal := rfl
@[simp] theorem State.setReady_orders (f : Readiness → Readiness) : (s.setReady f).orders = { s.orders with ready := f s.orders.ready } := rfl
@[simp] theorem State.setReady_port (f : Readiness → Readiness) : (s.setReady f).port = s.port := rfl
@[simp] theorem State.setReady_regs (f : Readiness → Readiness) : (s.setReady f).regs = s.regs := rfl
@[simp] theorem State.setReady_sys (f : Readiness → Readiness) : (s.setReady f).sys = s.sys := rfl
@[simp] theorem State.setReady_deferred (f : Readiness → Readiness) : (s.setReady f).deferred = s.deferred := rfl
@[simp] theorem State.setReady_mem (f : Readiness → Readiness) : (s.setReady f).mem = s.mem := rfl
@[simp] theorem State.setReady_pending (f : Readiness → Readiness) : (s.setReady f).pending = s.pending := rfl
@[simp] theorem State.setReady_lane (f : Readiness → Readiness) (q : LaneId) : (s.setReady f).lane q = s.lane q := rfl

/-! ## `State.setSlot` -/

@[simp] theorem State.setSlot_timeBase (k : Fin 8) (v : SlotState) : (s.setSlot k v).timeBase = s.timeBase := rfl
@[simp] theorem State.setSlot_nextTick (k : Fin 8) (v : SlotState) : (s.setSlot k v).nextTick = s.nextTick := rfl
@[simp] theorem State.setSlot_clock (k : Fin 8) (v : SlotState) : (s.setSlot k v).clock = s.clock := rfl
@[simp] theorem State.setSlot_params (k : Fin 8) (v : SlotState) : (s.setSlot k v).params = s.params := rfl
@[simp] theorem State.setSlot_debounceLog (k : Fin 8) (v : SlotState) : (s.setSlot k v).debounceLog = s.debounceLog := rfl
@[simp] theorem State.setSlot_scanner (k : Fin 8) (v : SlotState) : (s.setSlot k v).scanner = s.scanner := rfl
@[simp] theorem State.setSlot_lanes (k : Fin 8) (v : SlotState) : (s.setSlot k v).lanes = s.lanes := rfl
@[simp] theorem State.setSlot_emergency (k : Fin 8) (v : SlotState) : (s.setSlot k v).emergency = s.emergency := rfl
@[simp] theorem State.setSlot_engine (k : Fin 8) (v : SlotState) : (s.setSlot k v).engine = s.engine := rfl
@[simp] theorem State.setSlot_fare (k : Fin 8) (v : SlotState) : (s.setSlot k v).fare = s.fare := rfl
@[simp] theorem State.setSlot_screening (k : Fin 8) (v : SlotState) : (s.setSlot k v).screening = s.screening := rfl
@[simp] theorem State.setSlot_journal (k : Fin 8) (v : SlotState) : (s.setSlot k v).journal = s.journal := rfl
@[simp] theorem State.setSlot_orders (k : Fin 8) (v : SlotState) : (s.setSlot k v).orders = { s.orders with slots := s.orders.slots.set k v } := rfl
@[simp] theorem State.setSlot_port (k : Fin 8) (v : SlotState) : (s.setSlot k v).port = s.port := rfl
@[simp] theorem State.setSlot_regs (k : Fin 8) (v : SlotState) : (s.setSlot k v).regs = s.regs := rfl
@[simp] theorem State.setSlot_sys (k : Fin 8) (v : SlotState) : (s.setSlot k v).sys = s.sys := rfl
@[simp] theorem State.setSlot_deferred (k : Fin 8) (v : SlotState) : (s.setSlot k v).deferred = s.deferred := rfl
@[simp] theorem State.setSlot_mem (k : Fin 8) (v : SlotState) : (s.setSlot k v).mem = s.mem := rfl
@[simp] theorem State.setSlot_pending (k : Fin 8) (v : SlotState) : (s.setSlot k v).pending = s.pending := rfl
@[simp] theorem State.setSlot_lane (k : Fin 8) (v : SlotState) (q : LaneId) : (s.setSlot k v).lane q = s.lane q := rfl

/-! ## `State.setTable` -/

@[simp] theorem State.setTable_timeBase (t : List Sighting) : (s.setTable t).timeBase = s.timeBase := rfl
@[simp] theorem State.setTable_nextTick (t : List Sighting) : (s.setTable t).nextTick = s.nextTick := rfl
@[simp] theorem State.setTable_clock (t : List Sighting) : (s.setTable t).clock = s.clock := rfl
@[simp] theorem State.setTable_params (t : List Sighting) : (s.setTable t).params = s.params := rfl
@[simp] theorem State.setTable_debounceLog (t : List Sighting) : (s.setTable t).debounceLog = s.debounceLog := rfl
@[simp] theorem State.setTable_scanner (t : List Sighting) : (s.setTable t).scanner = s.scanner := rfl
@[simp] theorem State.setTable_lanes (t : List Sighting) : (s.setTable t).lanes = s.lanes := rfl
@[simp] theorem State.setTable_emergency (t : List Sighting) : (s.setTable t).emergency = s.emergency := rfl
@[simp] theorem State.setTable_engine (t : List Sighting) : (s.setTable t).engine = s.engine := rfl
@[simp] theorem State.setTable_fare (t : List Sighting) : (s.setTable t).fare = s.fare := rfl
@[simp] theorem State.setTable_screening (t : List Sighting) : (s.setTable t).screening = { s.screening with table := t } := rfl
@[simp] theorem State.setTable_journal (t : List Sighting) : (s.setTable t).journal = s.journal := rfl
@[simp] theorem State.setTable_orders (t : List Sighting) : (s.setTable t).orders = s.orders := rfl
@[simp] theorem State.setTable_port (t : List Sighting) : (s.setTable t).port = s.port := rfl
@[simp] theorem State.setTable_regs (t : List Sighting) : (s.setTable t).regs = s.regs := rfl
@[simp] theorem State.setTable_sys (t : List Sighting) : (s.setTable t).sys = s.sys := rfl
@[simp] theorem State.setTable_deferred (t : List Sighting) : (s.setTable t).deferred = s.deferred := rfl
@[simp] theorem State.setTable_mem (t : List Sighting) : (s.setTable t).mem = s.mem := rfl
@[simp] theorem State.setTable_pending (t : List Sighting) : (s.setTable t).pending = s.pending := rfl
@[simp] theorem State.setTable_lane (t : List Sighting) (q : LaneId) : (s.setTable t).lane q = s.lane q := rfl

/-! ## `State.changeEntry` -/

@[simp] theorem State.changeEntry_timeBase (c : CardNumber) (f : Sighting → Sighting) : (s.changeEntry c f).timeBase = s.timeBase := rfl
@[simp] theorem State.changeEntry_nextTick (c : CardNumber) (f : Sighting → Sighting) : (s.changeEntry c f).nextTick = s.nextTick := rfl
@[simp] theorem State.changeEntry_clock (c : CardNumber) (f : Sighting → Sighting) : (s.changeEntry c f).clock = s.clock := rfl
@[simp] theorem State.changeEntry_params (c : CardNumber) (f : Sighting → Sighting) : (s.changeEntry c f).params = s.params := rfl
@[simp] theorem State.changeEntry_debounceLog (c : CardNumber) (f : Sighting → Sighting) : (s.changeEntry c f).debounceLog = s.debounceLog := rfl
@[simp] theorem State.changeEntry_scanner (c : CardNumber) (f : Sighting → Sighting) : (s.changeEntry c f).scanner = s.scanner := rfl
@[simp] theorem State.changeEntry_lanes (c : CardNumber) (f : Sighting → Sighting) : (s.changeEntry c f).lanes = s.lanes := rfl
@[simp] theorem State.changeEntry_emergency (c : CardNumber) (f : Sighting → Sighting) : (s.changeEntry c f).emergency = s.emergency := rfl
@[simp] theorem State.changeEntry_engine (c : CardNumber) (f : Sighting → Sighting) : (s.changeEntry c f).engine = s.engine := rfl
@[simp] theorem State.changeEntry_fare (c : CardNumber) (f : Sighting → Sighting) : (s.changeEntry c f).fare = s.fare := rfl
@[simp] theorem State.changeEntry_screening (c : CardNumber) (f : Sighting → Sighting) : (s.changeEntry c f).screening = { s.screening with table := changeSighting s.screening.table c f } := rfl
@[simp] theorem State.changeEntry_journal (c : CardNumber) (f : Sighting → Sighting) : (s.changeEntry c f).journal = s.journal := rfl
@[simp] theorem State.changeEntry_orders (c : CardNumber) (f : Sighting → Sighting) : (s.changeEntry c f).orders = s.orders := rfl
@[simp] theorem State.changeEntry_port (c : CardNumber) (f : Sighting → Sighting) : (s.changeEntry c f).port = s.port := rfl
@[simp] theorem State.changeEntry_regs (c : CardNumber) (f : Sighting → Sighting) : (s.changeEntry c f).regs = s.regs := rfl
@[simp] theorem State.changeEntry_sys (c : CardNumber) (f : Sighting → Sighting) : (s.changeEntry c f).sys = s.sys := rfl
@[simp] theorem State.changeEntry_deferred (c : CardNumber) (f : Sighting → Sighting) : (s.changeEntry c f).deferred = s.deferred := rfl
@[simp] theorem State.changeEntry_mem (c : CardNumber) (f : Sighting → Sighting) : (s.changeEntry c f).mem = s.mem := rfl
@[simp] theorem State.changeEntry_pending (c : CardNumber) (f : Sighting → Sighting) : (s.changeEntry c f).pending = s.pending := rfl
@[simp] theorem State.changeEntry_lane (c : CardNumber) (f : Sighting → Sighting) (q : LaneId) : (s.changeEntry c f).lane q = s.lane q := rfl

/-! ## `State.setLists` -/

@[simp] theorem State.setLists_timeBase (a p : Option Denylist) : (s.setLists a p).timeBase = s.timeBase := rfl
@[simp] theorem State.setLists_nextTick (a p : Option Denylist) : (s.setLists a p).nextTick = s.nextTick := rfl
@[simp] theorem State.setLists_clock (a p : Option Denylist) : (s.setLists a p).clock = s.clock := rfl
@[simp] theorem State.setLists_params (a p : Option Denylist) : (s.setLists a p).params = s.params := rfl
@[simp] theorem State.setLists_debounceLog (a p : Option Denylist) : (s.setLists a p).debounceLog = s.debounceLog := rfl
@[simp] theorem State.setLists_scanner (a p : Option Denylist) : (s.setLists a p).scanner = s.scanner := rfl
@[simp] theorem State.setLists_lanes (a p : Option Denylist) : (s.setLists a p).lanes = s.lanes := rfl
@[simp] theorem State.setLists_emergency (a p : Option Denylist) : (s.setLists a p).emergency = s.emergency := rfl
@[simp] theorem State.setLists_engine (a p : Option Denylist) : (s.setLists a p).engine = s.engine := rfl
@[simp] theorem State.setLists_fare (a p : Option Denylist) : (s.setLists a p).fare = s.fare := rfl
@[simp] theorem State.setLists_screening (a p : Option Denylist) : (s.setLists a p).screening = { s.screening with active := a, pending := p } := rfl
@[simp] theorem State.setLists_journal (a p : Option Denylist) : (s.setLists a p).journal = s.journal := rfl
@[simp] theorem State.setLists_orders (a p : Option Denylist) : (s.setLists a p).orders = s.orders := rfl
@[simp] theorem State.setLists_port (a p : Option Denylist) : (s.setLists a p).port = s.port := rfl
@[simp] theorem State.setLists_regs (a p : Option Denylist) : (s.setLists a p).regs = s.regs := rfl
@[simp] theorem State.setLists_sys (a p : Option Denylist) : (s.setLists a p).sys = s.sys := rfl
@[simp] theorem State.setLists_deferred (a p : Option Denylist) : (s.setLists a p).deferred = s.deferred := rfl
@[simp] theorem State.setLists_mem (a p : Option Denylist) : (s.setLists a p).mem = s.mem := rfl
@[simp] theorem State.setLists_pending (a p : Option Denylist) : (s.setLists a p).pending = s.pending := rfl
@[simp] theorem State.setLists_lane (a p : Option Denylist) (q : LaneId) : (s.setLists a p).lane q = s.lane q := rfl

/-! ## `State.setFare` -/

@[simp] theorem State.setFare_timeBase (f : FareUnit) : (s.setFare f).timeBase = s.timeBase := rfl
@[simp] theorem State.setFare_nextTick (f : FareUnit) : (s.setFare f).nextTick = s.nextTick := rfl
@[simp] theorem State.setFare_clock (f : FareUnit) : (s.setFare f).clock = s.clock := rfl
@[simp] theorem State.setFare_params (f : FareUnit) : (s.setFare f).params = s.params := rfl
@[simp] theorem State.setFare_debounceLog (f : FareUnit) : (s.setFare f).debounceLog = s.debounceLog := rfl
@[simp] theorem State.setFare_scanner (f : FareUnit) : (s.setFare f).scanner = s.scanner := rfl
@[simp] theorem State.setFare_lanes (f : FareUnit) : (s.setFare f).lanes = s.lanes := rfl
@[simp] theorem State.setFare_emergency (f : FareUnit) : (s.setFare f).emergency = s.emergency := rfl
@[simp] theorem State.setFare_engine (f : FareUnit) : (s.setFare f).engine = s.engine := rfl
@[simp] theorem State.setFare_fare (f : FareUnit) : (s.setFare f).fare = f := rfl
@[simp] theorem State.setFare_screening (f : FareUnit) : (s.setFare f).screening = s.screening := rfl
@[simp] theorem State.setFare_journal (f : FareUnit) : (s.setFare f).journal = s.journal := rfl
@[simp] theorem State.setFare_orders (f : FareUnit) : (s.setFare f).orders = s.orders := rfl
@[simp] theorem State.setFare_port (f : FareUnit) : (s.setFare f).port = s.port := rfl
@[simp] theorem State.setFare_regs (f : FareUnit) : (s.setFare f).regs = s.regs := rfl
@[simp] theorem State.setFare_sys (f : FareUnit) : (s.setFare f).sys = s.sys := rfl
@[simp] theorem State.setFare_deferred (f : FareUnit) : (s.setFare f).deferred = s.deferred := rfl
@[simp] theorem State.setFare_mem (f : FareUnit) : (s.setFare f).mem = s.mem := rfl
@[simp] theorem State.setFare_pending (f : FareUnit) : (s.setFare f).pending = s.pending := rfl
@[simp] theorem State.setFare_lane (f : FareUnit) (q : LaneId) : (s.setFare f).lane q = s.lane q := rfl

/-! ## `State.setKeySlot` -/

@[simp] theorem State.setKeySlot_timeBase (i : Fin 8) (k : KeySlot) : (s.setKeySlot i k).timeBase = s.timeBase := rfl
@[simp] theorem State.setKeySlot_nextTick (i : Fin 8) (k : KeySlot) : (s.setKeySlot i k).nextTick = s.nextTick := rfl
@[simp] theorem State.setKeySlot_clock (i : Fin 8) (k : KeySlot) : (s.setKeySlot i k).clock = s.clock := rfl
@[simp] theorem State.setKeySlot_params (i : Fin 8) (k : KeySlot) : (s.setKeySlot i k).params = s.params := rfl
@[simp] theorem State.setKeySlot_debounceLog (i : Fin 8) (k : KeySlot) : (s.setKeySlot i k).debounceLog = s.debounceLog := rfl
@[simp] theorem State.setKeySlot_scanner (i : Fin 8) (k : KeySlot) : (s.setKeySlot i k).scanner = s.scanner := rfl
@[simp] theorem State.setKeySlot_lanes (i : Fin 8) (k : KeySlot) : (s.setKeySlot i k).lanes = s.lanes := rfl
@[simp] theorem State.setKeySlot_emergency (i : Fin 8) (k : KeySlot) : (s.setKeySlot i k).emergency = s.emergency := rfl
@[simp] theorem State.setKeySlot_engine (i : Fin 8) (k : KeySlot) : (s.setKeySlot i k).engine = { s.engine with slots := s.engine.slots.set i k } := rfl
@[simp] theorem State.setKeySlot_fare (i : Fin 8) (k : KeySlot) : (s.setKeySlot i k).fare = s.fare := rfl
@[simp] theorem State.setKeySlot_screening (i : Fin 8) (k : KeySlot) : (s.setKeySlot i k).screening = s.screening := rfl
@[simp] theorem State.setKeySlot_journal (i : Fin 8) (k : KeySlot) : (s.setKeySlot i k).journal = s.journal := rfl
@[simp] theorem State.setKeySlot_orders (i : Fin 8) (k : KeySlot) : (s.setKeySlot i k).orders = s.orders := rfl
@[simp] theorem State.setKeySlot_port (i : Fin 8) (k : KeySlot) : (s.setKeySlot i k).port = s.port := rfl
@[simp] theorem State.setKeySlot_regs (i : Fin 8) (k : KeySlot) : (s.setKeySlot i k).regs = s.regs := rfl
@[simp] theorem State.setKeySlot_sys (i : Fin 8) (k : KeySlot) : (s.setKeySlot i k).sys = s.sys := rfl
@[simp] theorem State.setKeySlot_deferred (i : Fin 8) (k : KeySlot) : (s.setKeySlot i k).deferred = s.deferred := rfl
@[simp] theorem State.setKeySlot_mem (i : Fin 8) (k : KeySlot) : (s.setKeySlot i k).mem = s.mem := rfl
@[simp] theorem State.setKeySlot_pending (i : Fin 8) (k : KeySlot) : (s.setKeySlot i k).pending = s.pending := rfl
@[simp] theorem State.setKeySlot_lane (i : Fin 8) (k : KeySlot) (q : LaneId) : (s.setKeySlot i k).lane q = s.lane q := rfl

/-! ## `State.setPort` -/

@[simp] theorem State.setPort_timeBase (f : Port → Port) : (s.setPort f).timeBase = s.timeBase := rfl
@[simp] theorem State.setPort_nextTick (f : Port → Port) : (s.setPort f).nextTick = s.nextTick := rfl
@[simp] theorem State.setPort_clock (f : Port → Port) : (s.setPort f).clock = s.clock := rfl
@[simp] theorem State.setPort_params (f : Port → Port) : (s.setPort f).params = s.params := rfl
@[simp] theorem State.setPort_debounceLog (f : Port → Port) : (s.setPort f).debounceLog = s.debounceLog := rfl
@[simp] theorem State.setPort_scanner (f : Port → Port) : (s.setPort f).scanner = s.scanner := rfl
@[simp] theorem State.setPort_lanes (f : Port → Port) : (s.setPort f).lanes = s.lanes := rfl
@[simp] theorem State.setPort_emergency (f : Port → Port) : (s.setPort f).emergency = s.emergency := rfl
@[simp] theorem State.setPort_engine (f : Port → Port) : (s.setPort f).engine = s.engine := rfl
@[simp] theorem State.setPort_fare (f : Port → Port) : (s.setPort f).fare = s.fare := rfl
@[simp] theorem State.setPort_screening (f : Port → Port) : (s.setPort f).screening = s.screening := rfl
@[simp] theorem State.setPort_journal (f : Port → Port) : (s.setPort f).journal = s.journal := rfl
@[simp] theorem State.setPort_orders (f : Port → Port) : (s.setPort f).orders = s.orders := rfl
@[simp] theorem State.setPort_port (f : Port → Port) : (s.setPort f).port = f s.port := rfl
@[simp] theorem State.setPort_regs (f : Port → Port) : (s.setPort f).regs = s.regs := rfl
@[simp] theorem State.setPort_sys (f : Port → Port) : (s.setPort f).sys = s.sys := rfl
@[simp] theorem State.setPort_deferred (f : Port → Port) : (s.setPort f).deferred = s.deferred := rfl
@[simp] theorem State.setPort_mem (f : Port → Port) : (s.setPort f).mem = s.mem := rfl
@[simp] theorem State.setPort_pending (f : Port → Port) : (s.setPort f).pending = s.pending := rfl
@[simp] theorem State.setPort_lane (f : Port → Port) (q : LaneId) : (s.setPort f).lane q = s.lane q := rfl

/-! ## `State.defer` -/

@[simp] theorem State.defer_timeBase (r : Deferred) : (s.defer r).timeBase = s.timeBase := rfl
@[simp] theorem State.defer_nextTick (r : Deferred) : (s.defer r).nextTick = s.nextTick := rfl
@[simp] theorem State.defer_clock (r : Deferred) : (s.defer r).clock = s.clock := rfl
@[simp] theorem State.defer_params (r : Deferred) : (s.defer r).params = s.params := rfl
@[simp] theorem State.defer_debounceLog (r : Deferred) : (s.defer r).debounceLog = s.debounceLog := rfl
@[simp] theorem State.defer_scanner (r : Deferred) : (s.defer r).scanner = s.scanner := rfl
@[simp] theorem State.defer_lanes (r : Deferred) : (s.defer r).lanes = s.lanes := rfl
@[simp] theorem State.defer_emergency (r : Deferred) : (s.defer r).emergency = s.emergency := rfl
@[simp] theorem State.defer_engine (r : Deferred) : (s.defer r).engine = s.engine := rfl
@[simp] theorem State.defer_fare (r : Deferred) : (s.defer r).fare = s.fare := rfl
@[simp] theorem State.defer_screening (r : Deferred) : (s.defer r).screening = s.screening := rfl
@[simp] theorem State.defer_journal (r : Deferred) : (s.defer r).journal = s.journal := rfl
@[simp] theorem State.defer_orders (r : Deferred) : (s.defer r).orders = s.orders := rfl
@[simp] theorem State.defer_port (r : Deferred) : (s.defer r).port = s.port := rfl
@[simp] theorem State.defer_regs (r : Deferred) : (s.defer r).regs = s.regs := rfl
@[simp] theorem State.defer_sys (r : Deferred) : (s.defer r).sys = s.sys := rfl
@[simp] theorem State.defer_deferred (r : Deferred) : (s.defer r).deferred = s.deferred ++ [r] := rfl
@[simp] theorem State.defer_mem (r : Deferred) : (s.defer r).mem = s.mem := rfl
@[simp] theorem State.defer_pending (r : Deferred) : (s.defer r).pending = s.pending := rfl
@[simp] theorem State.defer_lane (r : Deferred) (q : LaneId) : (s.defer r).lane q = s.lane q := rfl

end Sys2Proof.Machine
end

