-- ==== Sys2Proof/Laws/Publish.lean ====
section
/-! SUPPORT. What the end of a step does: every field but the lanes and the memory is kept, a lane keeps all but its
stamp, its mark of fields written and JOURNAL FULL, and memory changes in the status blocks and the readiness word only. -/

namespace Sys2Proof.Machine

open Sys2Proof

/-- Two states differ in their lanes and memory at most. -/
def State.SameBut (s t : State) : Prop := t = { s with lanes := t.lanes, mem := t.mem }

theorem State.SameBut.refl (s : State) : s.SameBut s := rfl

theorem State.SameBut.trans {s t u : State} (h : s.SameBut t) (k : t.SameBut u) : s.SameBut u := by
  unfold State.SameBut at *
  rw [k, h]

theorem State.settleJournalFull_same (s : State) : s.SameBut s.settleJournalFull := by
  unfold State.settleJournalFull State.SameBut
  split <;> rfl

theorem State.publishLane_same (b s : State) (l : LaneId) : s.SameBut (State.publishLane b s l) := by
  unfold State.publishLane State.SameBut
  dsimp only
  split <;> rfl

theorem State.publishReadiness_same (b s : State) : s.SameBut (State.publishReadiness b s) := by
  unfold State.publishReadiness State.SameBut
  split <;> rfl

theorem State.conclude_same_but (b s : State) : s.SameBut (State.conclude b s) := by
  unfold State.conclude
  exact (((((State.settleJournalFull_same s).trans (State.publishLane_same b _ _)).trans
    (State.publishLane_same b _ _)).trans (State.publishLane_same b _ _)).trans
    (State.publishLane_same b _ _)).trans (State.publishReadiness_same b _)

/-! ## Every field but the lanes and the memory -/

section
variable (b s : State)

@[simp] theorem State.conclude_timeBase : (State.conclude b s).timeBase = s.timeBase := by
  rw [State.conclude_same_but b s]
@[simp] theorem State.conclude_nextTick : (State.conclude b s).nextTick = s.nextTick := by
  rw [State.conclude_same_but b s]
@[simp] theorem State.conclude_deferred : (State.conclude b s).deferred = s.deferred := by
  rw [State.conclude_same_but b s]
@[simp] theorem State.conclude_clock : (State.conclude b s).clock = s.clock := by rw [State.conclude_same_but b s]
@[simp] theorem State.conclude_params : (State.conclude b s).params = s.params := by
  rw [State.conclude_same_but b s]
@[simp] theorem State.conclude_debounceLog : (State.conclude b s).debounceLog = s.debounceLog := by
  rw [State.conclude_same_but b s]
@[simp] theorem State.conclude_scanner : (State.conclude b s).scanner = s.scanner := by
  rw [State.conclude_same_but b s]
@[simp] theorem State.conclude_emergency : (State.conclude b s).emergency = s.emergency := by
  rw [State.conclude_same_but b s]
@[simp] theorem State.conclude_engine : (State.conclude b s).engine = s.engine := by
  rw [State.conclude_same_but b s]
@[simp] theorem State.conclude_fare : (State.conclude b s).fare = s.fare := by rw [State.conclude_same_but b s]
@[simp] theorem State.conclude_screening : (State.conclude b s).screening = s.screening := by
  rw [State.conclude_same_but b s]
@[simp] theorem State.conclude_journal : (State.conclude b s).journal = s.journal := by
  rw [State.conclude_same_but b s]
@[simp] theorem State.conclude_orders : (State.conclude b s).orders = s.orders := by
  rw [State.conclude_same_but b s]
@[simp] theorem State.conclude_port : (State.conclude b s).port = s.port := by rw [State.conclude_same_but b s]
@[simp] theorem State.conclude_regs : (State.conclude b s).regs = s.regs := by rw [State.conclude_same_but b s]
@[simp] theorem State.conclude_sys : (State.conclude b s).sys = s.sys := by rw [State.conclude_same_but b s]
@[simp] theorem State.conclude_pending : (State.conclude b s).pending = s.pending := by
  rw [State.conclude_same_but b s]

end

/-! ## The lanes -/

theorem Lane.Concluded.refl (x : Lane) : x.Concluded x := rfl

theorem Lane.Concluded.trans {x y z : Lane} (h : x.Concluded y) (k : y.Concluded z) : x.Concluded z := by
  unfold Lane.Concluded at *
  rw [k, h]

theorem State.settleJournalFull_lane (s : State) (l : LaneId) :
    (s.settleJournalFull).lane l =
      { s.lane l with journalFull := if 4 ≤ s.journal.openRoom then false else (s.lane l).journalFull } := by
  unfold State.settleJournalFull
  split <;> cases l <;> rfl

theorem State.publishLane_self (b s : State) (l : LaneId) :
    ((State.publishLane b s l).lane l).Concluded (s.lane l) ∧
      (s.lane l).Concluded ((State.publishLane b s l).lane l) ∧
      ((State.publishLane b s l).lane l).rewritten = [] ∧
      ((State.publishLane b s l).lane l).journalFull = (s.lane l).journalFull := by
  unfold State.publishLane
  dsimp only
  split
  case isTrue h => exact ⟨rfl, rfl, h.2, rfl⟩
  case isFalse h =>
    have e : ∀ m : List Host.Cell, ∀ x : Lane, State.lane { s.setLane l x with mem := m } l = x :=
      fun m x => State.lane_setLane_self s l x
    rw [e]
    exact ⟨rfl, rfl, rfl, rfl⟩

/-- A lane's stamp advances exactly when a shown value changed or a field was written in the step (R189). -/
theorem State.publishLane_stamp (b s : State) (l : LaneId) :
    ((State.publishLane b s l).lane l).stamp =
      if shownFields (b.lane l) b.emergency = shownFields (s.lane l) s.emergency ∧ (s.lane l).rewritten = []
      then (s.lane l).stamp else (s.lane l).stamp + 1#16 := by
  unfold State.publishLane
  dsimp only
  split
  · rfl
  · exact congrArg Lane.stamp (State.lane_setLane_self s l _)

theorem State.publishLane_other (b s : State) {k l : LaneId} (h : k ≠ l) :
    (State.publishLane b s l).lane k = s.lane k := by
  unfold State.publishLane
  dsimp only
  split
  · rfl
  · exact State.lane_setLane_ne s _ h

theorem State.publishReadiness_lane (b s : State) (l : LaneId) :
    (State.publishReadiness b s).lane l = s.lane l := by
  unfold State.publishReadiness
  split <;> rfl

/-- A lane at the end of a step. -/
theorem State.conclude_lane (b s : State) (l : LaneId) :
    ∃ stamp, (State.conclude b s).lane l =
      { s.lane l with
        stamp := stamp
        rewritten := []
        journalFull := if 4 ≤ s.journal.openRoom then false else (s.lane l).journalFull } := by
  unfold State.conclude
  dsimp only
  rw [State.publishReadiness_lane]
  have key : ∀ t u : State, t.lane l = u.lane l →
      u.lane l = { s.lane l with journalFull := if 4 ≤ s.journal.openRoom then false else (s.lane l).journalFull } →
      ∃ stamp, (State.publishLane b t l).lane l =
        { s.lane l with
          stamp := stamp
          rewritten := []
          journalFull := if 4 ≤ s.journal.openRoom then false else (s.lane l).journalFull } := by
    intro t u h1 h2
    obtain ⟨_, h3, h4, h5⟩ := State.publishLane_self b t l
    refine ⟨((State.publishLane b t l).lane l).stamp, ?_⟩
    rw [h3, h4, h5, h1, h2]
  cases l
  · rw [State.publishLane_other b _ (by decide), State.publishLane_other b _ (by decide),
      State.publishLane_other b _ (by decide)]
    exact key _ _ rfl (State.settleJournalFull_lane s .lane0)
  · rw [State.publishLane_other b _ (by decide), State.publishLane_other b _ (by decide)]
    exact key _ _ (State.publishLane_other b _ (by decide)) (State.settleJournalFull_lane s .lane1)
  · rw [State.publishLane_other b _ (by decide)]
    refine key _ s.settleJournalFull ?_ (State.settleJournalFull_lane s .lane2)
    rw [State.publishLane_other b _ (by decide), State.publishLane_other b _ (by decide)]
  · refine key _ s.settleJournalFull ?_ (State.settleJournalFull_lane s .lane3)
    rw [State.publishLane_other b _ (by decide), State.publishLane_other b _ (by decide),
      State.publishLane_other b _ (by decide)]

theorem State.conclude_concluded (b s : State) (l : LaneId) :
    (s.lane l).Concluded ((State.conclude b s).lane l) := by
  obtain ⟨stamp, h⟩ := State.conclude_lane b s l
  rw [h]
  rfl

/-! ## The memory -/

theorem publishFields_outside : ∀ (olds news : List (Nat × List Byte)) (m : List Host.Cell) (base : Nat)
    (rewritten : List Nat) (a : Nat), (∀ f ∈ news, a < base + f.1 ∨ base + f.1 + f.2.length ≤ a) →
    Memory.read (publishFields m base rewritten olds news) a = Memory.read m a
  | [], [], _, _, _, _, _ => rfl
  | [], _ :: _, _, _, _, _, _ => rfl
  | _ :: _, [], _, _, _, _, _ => rfl
  | (_, old) :: olds, (o, new) :: news, m, base, rewritten, a, h => by
    rw [publishFields, publishFields_outside olds news _ base rewritten a (fun f hf => h f (List.mem_cons_of_mem _ hf))]
    split
    · rfl
    · exact Memory.read_writeBytes_outside new m (base + o) a (h (o, new) List.mem_cons_self)

theorem publishFields_wf : ∀ (olds news : List (Nat × List Byte)) (m : List Host.Cell) (base : Nat)
    (rewritten : List Nat), Memory.wf m = true → Memory.wf (publishFields m base rewritten olds news) = true
  | [], [], _, _, _, h => h
  | [], _ :: _, _, _, _, h => h
  | _ :: _, [], _, _, _, h => h
  | (_, old) :: olds, (o, new) :: news, m, base, rewritten, h => by
    rw [publishFields]
    refine publishFields_wf olds news _ base rewritten ?_
    split
    · exact h
    · exact Memory.wf_writeBytes new m (base + o) h

theorem State.publishLane_wf (b s : State) (l : LaneId) (h : Memory.wf s.mem = true) :
    Memory.wf (State.publishLane b s l).mem = true := by
  unfold State.publishLane
  dsimp only
  split
  · exact h
  · exact Memory.wf_writeNat _ _ _ _ (publishFields_wf _ _ _ _ _ h)

theorem State.settleJournalFull_mem (s : State) : s.settleJournalFull.mem = s.mem := by
  unfold State.settleJournalFull
  split <;> rfl

theorem State.publishReadiness_wf (b s : State) (h : Memory.wf s.mem = true) :
    Memory.wf (State.publishReadiness b s).mem = true := by
  unfold State.publishReadiness
  split
  · exact h
  · exact Memory.wf_writeNat _ _ _ _ h

/-- The end of a step keeps the canonical form. -/
theorem State.conclude_wf (b s : State) (h : Memory.wf s.mem = true) : Memory.wf (State.conclude b s).mem = true := by
  unfold State.conclude
  refine State.publishReadiness_wf b _ (State.publishLane_wf b _ _ (State.publishLane_wf b _ _
    (State.publishLane_wf b _ _ (State.publishLane_wf b _ _ ?_))))
  rw [State.settleJournalFull_mem]
  exact h

theorem shownFields_bound (x : Lane) (e : Emergency) : ∀ f ∈ shownFields x e, f.1 + f.2.length ≤ 16 := by
  intro f hf
  simp only [shownFields, List.mem_cons, List.not_mem_nil, or_false] at hf
  rcases hf with h | h | h | h | h | h | h | h | h | h | h | h <;> subst h <;> simp [length_leBytes]

theorem statusBase_bounds (l : LaneId) : 0x40 ≤ statusBase l ∧ statusBase l + 32 ≤ 0xC0 := by
  cases l <;> decide

/-- A lane's publication changes no byte outside the status blocks. -/
theorem State.publishLane_read (b s : State) (l : LaneId) (a : Nat) (ha : a < 0x40 ∨ 0xC0 ≤ a) :
    Memory.read (State.publishLane b s l).mem a = Memory.read s.mem a := by
  have hb := statusBase_bounds l
  unfold State.publishLane
  dsimp only
  split
  · rfl
  · have hp : Memory.read (publishFields s.mem (statusBase l) (s.lane l).rewritten (shownFields (b.lane l) b.emergency)
        (shownFields (s.lane l) s.emergency)) a = Memory.read s.mem a := by
      refine publishFields_outside _ _ _ _ _ _ fun f hf => ?_
      have := shownFields_bound _ _ f hf
      omega
    have h2 : ∀ m n o v, o + n ≤ 32 → Memory.read (Memory.writeNat m (statusBase l + o) n v) a = Memory.read m a := by
      intro m n o v ho
      refine Memory.read_writeBytes_outside _ _ _ _ ?_
      rw [length_leBytes]
      omega
    exact (h2 _ 2 16 _ (by omega)).trans hp

/-- The end of a step changes no byte outside the status blocks and the readiness word. -/
theorem State.conclude_read (b s : State) (a : Nat) (ha : a < 0x40 ∨ 0xC0 ≤ a) (hr : a ≠ 2 ∧ a ≠ 3) :
    Memory.read (State.conclude b s).mem a = Memory.read s.mem a := by
  unfold State.conclude
  dsimp only
  have hready : ∀ t : State, Memory.read (State.publishReadiness b t).mem a = Memory.read t.mem a := by
    intro t
    unfold State.publishReadiness
    split
    · rfl
    · refine Memory.read_writeBytes_outside _ _ _ _ ?_
      rw [length_leBytes]
      omega
  rw [hready, State.publishLane_read b _ _ a ha, State.publishLane_read b _ _ a ha,
    State.publishLane_read b _ _ a ha, State.publishLane_read b _ _ a ha, State.settleJournalFull_mem]

/-! ## A step that shows nothing new -/

theorem Lane.roomAgain_of {x : Lane} (h : x.journalFull = false) : x.roomAgain = x := by
  cases x
  cases h
  rfl

theorem State.settleJournalFull_of {s : State} (h : ∀ l, 4 ≤ s.journal.openRoom → (s.lane l).journalFull = false) :
    s.settleJournalFull = s := by
  unfold State.settleJournalFull
  split
  · rename_i hr
    have h0 : s.lanes.l0.roomAgain = s.lanes.l0 := Lane.roomAgain_of (h .lane0 hr)
    have h1 : s.lanes.l1.roomAgain = s.lanes.l1 := Lane.roomAgain_of (h .lane1 hr)
    have h2 : s.lanes.l2.roomAgain = s.lanes.l2 := Lane.roomAgain_of (h .lane2 hr)
    have h3 : s.lanes.l3.roomAgain = s.lanes.l3 := Lane.roomAgain_of (h .lane3 hr)
    rw [h0, h1, h2, h3]
  · rfl

theorem State.publishLane_of {b s : State} {l : LaneId} (h : s.lane l = b.lane l) (he : s.emergency = b.emergency)
    (hr : (s.lane l).rewritten = []) : State.publishLane b s l = s := by
  unfold State.publishLane
  dsimp only
  rw [if_pos ⟨by rw [h, he], hr⟩]

/-- A step that changes no lane, no shown input and no room ends as its effect leaves it. -/
theorem State.conclude_eq {b s : State} (hl : s.lanes = b.lanes) (he : s.emergency = b.emergency)
    (hr : s.orders.ready = b.orders.ready) (hs : s.Settled) : State.conclude b s = s := by
  unfold State.conclude
  dsimp only
  rw [State.settleJournalFull_of fun l => (hs l).2,
    State.publishLane_of (State.lane_congr hl _) he (hs .lane0).1,
    State.publishLane_of (State.lane_congr hl _) he (hs .lane1).1,
    State.publishLane_of (State.lane_congr hl _) he (hs .lane2).1,
    State.publishLane_of (State.lane_congr hl _) he (hs .lane3).1]
  rw [State.publishReadiness, if_pos hr.symm]

/-- The end of a step leaves the lanes settled. -/
theorem State.conclude_settled (b s : State) : (State.conclude b s).Settled := by
  intro l
  obtain ⟨stamp, h⟩ := State.conclude_lane b s l
  rw [h, State.conclude_journal]
  exact ⟨rfl, fun hr => if_pos hr⟩

/-! ## Steps, timed steps, orders -/

/-- While the reset pin is released a step is its effect and its end. -/
theorem State.event_eq {s : State} (h : s.sys.resetPin = false) (f : State → State) :
    s.event f = State.conclude s (f s) := by
  rw [State.event, State.running, if_neg (by rw [h]; decide)]

/-- While it is asserted a step changes nothing (R191). -/
theorem State.event_pin {s : State} (h : s.sys.resetPin = true) (f : State → State) : s.event f = s := by
  rw [State.event, State.running, if_pos h]

/-- A timed event whose time has come moves the time base and has its effect; before that it changes nothing. -/
theorem State.onDue_cases (s : State) (due : Nat) (f : State → State) :
    (s.reached due = true ∧ s.onDue due f = f { s with timeBase := max s.timeBase due }) ∨
      (s.reached due = false ∧ s.onDue due f = s) := by
  unfold State.onDue
  cases s.reached due
  · exact .inr ⟨rfl, rfl⟩
  · exact .inl ⟨rfl, rfl⟩

/-- An order's row acts on the order handed to its owner, or changes nothing. -/
theorem State.withOrder_cases (s : State) (kind : Nat) (f : OrderInService → State) :
    (∃ o, s.orders.service = some o ∧ o.stage = .handed ∧ o.kind.toNat = kind ∧ s.withOrder kind f = f o) ∨
      s.withOrder kind f = s := by
  unfold State.withOrder
  cases hs : s.orders.service with
  | none => exact .inr rfl
  | some o =>
    dsimp only
    split
    · rename_i h
      exact .inl ⟨o, rfl, h.1, h.2, rfl⟩
    · exact .inr rfl

end Sys2Proof.Machine
end

