-- ==== Sys2Proof/Laws/Waiting.lean ====
section
/-! SUPPORT. What waits and how it is taken: a lookup of an order's stage, rows that waited for a grant, and the accesses
of a start-up. -/

namespace Sys2Proof.Machine

open Sys2Proof

/-! ## Orders and grants in hand -/

/-- The row of an order that has been handed to its owner. -/
theorem State.withOrder_of_handed {s : State} {o : OrderInService} {kind : Nat} (h : s.Handed o kind)
    (f : OrderInService → State) : s.withOrder kind f = f o := by
  unfold State.withOrder
  rw [h.1]
  exact if_pos h.2

/-- A lane without a dialogue has no grant in hand. -/
theorem State.granting_of_none {s : State} {l : LaneId} (h : (s.lane l).dialogue = none) : s.granting l = false := by
  unfold State.granting
  rw [h]
  rfl

/-- A grant in hand is a dialogue in CONFIRM or GRANT. -/
theorem State.granting_iff (s : State) (l : LaneId) :
    s.granting l = true ↔ ∃ d, (s.lane l).dialogue = some d ∧ (d.phase = .confirm ∨ d.phase = .grant) := by
  unfold State.granting Dialogue.granting
  cases (s.lane l).dialogue <;> simp

/-! ## Rows that waited -/

/-- With no row waiting nothing is taken. -/
theorem State.settleDeferred_of_nil {s : State} (h : s.deferred = []) : s.settleDeferred = s := by
  unfold State.settleDeferred
  rw [h]
  cases s
  cases h
  rfl

/-- One waiting row is taken as it would have been, had it come now. -/
theorem State.settleDeferred_of_one {s : State} {row : Deferred} (h : s.deferred = [row]) :
    s.settleDeferred = State.event { s with deferred := [] } fun s => s.takeDeferred row := by
  unfold State.settleDeferred
  rw [h]
  rfl

/-! ## Accesses -/

/-- Two states differ in their ports at most. -/
def State.SamePort (s t : State) : Prop := t = { s with port := t.port }

theorem State.SamePort.refl (s : State) : s.SamePort s := rfl

theorem State.SamePort.trans {s t u : State} (h : s.SamePort t) (k : t.SamePort u) : s.SamePort u := by
  unfold State.SamePort at *
  rw [k, h]

theorem State.setPort_same (s : State) (f : Port → Port) : s.SamePort (s.setPort f) := rfl

theorem State.narrowRead_same (s : State) (a : BitVec 18) : s.SamePort (s.narrowRead a).1 := by
  unfold State.narrowRead
  by_cases h : a.toNat % 2 = 0
  · rw [if_pos h]
    rfl
  · rw [if_neg h]
    rfl

/-- A read at the port changes the latches and the data lines only (R192). -/
theorem State.portRead_same (s : State) (r : PortRead) : s.SamePort (s.portRead r) := by
  unfold State.portRead
  split
  · exact rfl
  · exact rfl
  · exact rfl
  · exact ((State.narrowRead_same _ _).trans (State.narrowRead_same _ _)).trans (State.setPort_same _ _)
  · exact (State.narrowRead_same _ _).trans (State.setPort_same _ _)

/-- The reads that waited for STARTING change the port only (R191). -/
theorem State.serveReads_same : ∀ (rs : List PortRead) (s : State), s.SamePort (s.serveReads rs)
  | [], s => State.SamePort.refl s
  | r :: rest, s => (State.portRead_same s r).trans (State.serveReads_same rest (s.portRead r))

/-- The reads begun in a start-up change the port only (R191). -/
theorem State.startReads_same : ∀ (rs : List MemoryRead) (s : State), s.SamePort (s.startReads rs)
  | [], s => State.SamePort.refl s
  | r :: rest, s => by
    unfold State.startReads
    refine State.SamePort.trans ?_ (State.startReads_same rest _)
    split
    · exact State.portRead_same s _
    · exact State.setPort_same s _

end Sys2Proof.Machine
end

