-- ==== Sys2Proof/Tests/Slice0.lean ====
section
/-! SUPPORT. The well-formedness checks refuse what they should; each statement's hypotheses are met, clause by clause, by
a state and operands given here; a few steps on small states. -/

namespace Sys2Proof.Tests

open Sys2Proof Sys2Proof.Machine

set_option Elab.async false

/-! ## Well-formedness: each check refuses an ill-formed term -/

/-- A start-up with that strap and no access begun in it. -/
def strapped (strap : PortWidth) : StartInputs := ⟨strap, [], []⟩

theorem test_wf_powerOn_rising : WellFormed (.powerOn (strapped .bits16) [(5, 1#8), (5, 2#8)]) = false := by decide
theorem test_wf_powerOn_inside : WellFormed (.powerOn (strapped .bits16) [(0x40000, 1#8)]) = false := by decide
theorem test_wf_powerOn_good : WellFormed (.powerOn (strapped .bits16) [(5, 1#8), (0x3FFFF, 2#8)]) = true := by decide
theorem test_wf_powerOn_reads :
    WellFormed (.powerOn ⟨.bits8, [.byte 0#18], [.byte 0x3FFFF#18]⟩ []) = true := by decide
theorem test_wf_resetPinRelease_cut : WellFormed (.resetPinRelease (strapped .bits8) 17) = false := by decide
theorem test_wf_restart_cut : WellFormed (.restart (.low 1#8) (strapped .bits8) 17) = false := by decide
theorem test_wf_resetPinAsserted_cut : WellFormed (.resetPinAsserted 17) = false := by decide
theorem test_wf_unusedRegisterWrite_address : WellFormed (.unusedRegisterWrite 5 (.low 1#8)) = false := by decide
theorem test_wf_answerReceived_length :
    WellFormed (.answerReceived .lane0 160#8 (.single ⟨none, [0#8, 0#8]⟩)) = false := by decide
theorem test_wf_answerReceived_good :
    WellFormed (.answerReceived .lane0 160#8 (.single ⟨none, [0#8, 0#8, 0#8]⟩)) = true := by decide
theorem test_wf_passbackExpiry_card : WellFormed (.passbackExpiry 0#64) = false := by decide
theorem test_wf_regrantGraceExpiry_card : WellFormed (.regrantGraceExpiry (BitVec.allOnes 64)) = false := by decide
theorem test_wf_uncertaintyExpiry_card : WellFormed (.uncertaintyExpiry 0#64) = false := by decide

/-! ## Small states -/

/-- The reset state with lane 0 changed. -/
def atLane (f : Lane → Lane) : State := State.reset.setLane .lane0 (f Lane.reset)

/-- That state so many milliseconds of the time base later, with nothing else changed. -/
def later (ms : Nat) (s : State) : State := { s with timeBase := 10000 * ms, nextTick := 10000 * (ms + 1) }

/-- An order in slot 0, taken at time 0 with ticket 7. -/
def order (kind : Byte) (args : List Byte) (stage : OrderStage) : OrderInService := ⟨0, kind, 7#16, args, 0, stage⟩

/-- The reset state with that order in service. -/
def serving (o : OrderInService) : State :=
  { State.reset with orders := { State.reset.orders with service := some o } }

/-- The reset state with an order just handed to its owner. -/
def handed (kind : Byte) (args : List Byte) : State := serving (order kind args .handed)

/-- Lane 0 in ENTRY with a dialogue. -/
def talking (f : Dialogue → Dialogue) (link : LinkActivity) : State :=
  atLane fun x =>
    { x with
      mode := .entry
      pc := .closed
      field := .on
      link := link
      dialogue := some (f (State.reset.newDialogue .lane0)) }

/-- The dialogue of `talking`. -/
def spoken (f : Dialogue → Dialogue) : Dialogue := f (State.reset.newDialogue .lane0)

/-- A sighting entry with nothing remembered. -/
def blank (card : CardNumber) : Sighting := ⟨card, none, none, none, .none, 0, ⟨0, 0, 0⟩⟩

/-- The state with that sighting table. -/
def seen (s : State) (table : List Sighting) : State := { s with screening := { s.screening with table := table } }

/-- An uncertainty part created at the start. -/
def part : Uncertainty := ⟨1, 0#64, 2, 1#64, 5, .lane0, .entry, 0⟩

/-- No field of a lane's block waits to be written and no lane shows JOURNAL FULL. -/
def quiet (s : State) : Bool :=
  [LaneId.lane0, .lane1, .lane2, .lane3].all fun l => (s.lane l).rewritten.isEmpty && !(s.lane l).journalFull

theorem settled_of {s : State} (h : quiet s = true) : s.Settled := by
  have q : ∀ l ∈ [LaneId.lane0, .lane1, .lane2, .lane3],
      ((s.lane l).rewritten.isEmpty && !(s.lane l).journalFull) = true := List.all_eq_true.mp h
  intro l
  have := q l (by cases l <;> simp)
  simp only [Bool.and_eq_true, Bool.not_eq_eq_eq_not, Bool.not_true] at this
  exact ⟨List.isEmpty_iff.mp this.1, fun _ => this.2⟩

/-- What holds of every lane holds lane by lane. -/
theorem lanes_of {p : LaneId → Prop} (h0 : p .lane0) (h1 : p .lane1) (h2 : p .lane2) (h3 : p .lane3) : ∀ l, p l := by
  intro l
  cases l
  · exact h0
  · exact h1
  · exact h2
  · exact h3

/-! ## Steps on small states -/

/-- The commands run one after another from that state and the last state passes. -/
def runs (check : State → Bool) : List Instr → State → Bool
  | [], s => check s
  | c :: rest, s =>
    match exec c s with
    | .next t => runs check rest t
    | _ => false

theorem test_frameCheck : frameCheck [0x31#8, 0x32#8, 0x33#8, 0x34#8, 0x35#8, 0x36#8, 0x37#8, 0x38#8, 0x39#8] = 0x6F91#16 := by
  decide +kernel

/-- A start-up from power-on refuses a POSTED slot, samples the strap and ends RUNNING. -/
theorem test_powerOn :
    runs (fun t => t.sys.partState = .running && t.port.width = .bits8 && t.orders.slots[(0 : Fin 8)] = .refused &&
      t.regs.attention = 0x0021#16) [.powerOn (strapped .bits8) [(0x100, 1#8)]] State.reset = true := by
  decide +kernel

theorem test_powerOn_outside :
    exec (.powerOn (strapped .bits8) [(0x40000, 1#8)]) State.reset = .fault (.noSuchAddress 0x40000) :=
  rfl

/-- A word written is read back on the data lines. -/
theorem test_write_then_read :
    runs (fun t => t.port.dataOut = [0xCD#8, 0xAB#8])
      [.gcMemoryWrite (.word 0x200#17 0xABCD#16), .gcMemoryRead (.word 0x200#17)] State.reset = true := by
  decide +kernel

/-- The write of POSTED raises the slot's event, and its row takes the value. -/
theorem test_post :
    runs (fun t => t.orders.slots[(1 : Fin 8)] = .posted && t.orders.watchEvents = [])
      [.gcMemoryWrite (.word 0xA0#17 1#16), .orderSlotStateWordEvent 1] State.reset = true := by
  decide +kernel

theorem test_clockTick :
    runs (fun t => t.now = ⟨1, 0, 0⟩) [.clockTick]
      { State.reset with clock := { State.reset.clock with minute := 1439, ms := 59999 } } = true := by
  decide +kernel

/-- Leaves that reach open stay open while the middle group is BLOCKED. -/
theorem test_middle_blocked :
    runs (fun t => (t.lane .lane0).pc = .opened && (t.lane .lane0).drive = .brake .atOpen 400000)
      [.limitSwitchEvent .lane0 .atOpen true]
      (atLane fun x => { x with mode := .entry, pc := .opening, drive := .stroke .atOpen none 10000000 40 }) = true := by
  decide +kernel

theorem test_emergency :
    runs (fun t => (t.lane .lane0).mode = .free && (t.lane .lane0).pc = .free && (t.lane .lane0).field = .off &&
      t.regs.attention = 0x0024#16) [.emergencyAsserted 20]
      (later 20 <| atLane fun x => { x with mode := .entry, pc := .closed, field := .sniff }) = true := by
  decide +kernel

/-- A SELECT's answer that is overlapped by another card's ends the dialogue MULTIPLE. -/
theorem test_overlapped :
    runs (fun t => (t.lane .lane0).lastResult = .multiple && (t.lane .lane0).dialogue = none)
      [.answerReceived .lane0 160#8 (.overlapped 13)]
      (talking (fun d => { d with command := some .select, sendings := 1 }) (.receiving 0 false)) = true := by
  decide +kernel

/-- A bad order kind is refused KIND in its slot. -/
theorem test_unknownOrderKind :
    runs (fun t => Memory.readBytes t.mem 0x100 8 = [4#8, 0#8, 0#8, 17#8, 0#8, 0#8, 7#8, 0#8])
      [.unknownOrderKind, .clockTick, .orderEnd] (handed 14 []) = true := by
  decide +kernel

/-! ## The hypotheses of the statements are met: step, start-up, registers, port -/

theorem memoryLegal_of {s : State} (h : Memory.wf s.mem = true) : s.MemoryLegal := h

theorem test_witness_StepRunsFrontCommand :
    ({ State.reset with pending := [.clockTick, .orderTake] } : State).pending = .clockTick :: [.orderTake] ∧
    State.reset.pending = [] := ⟨rfl, rfl⟩

theorem test_witness_EveryCommandCompletesAndKeepsQueue :
    ∀ inputs contents, Instr.powerOn (strapped .bits8) [(262143, 1#8)] = .powerOn inputs contents →
      ∀ e ∈ contents, e.1 < 262144 := by
  intro inputs contents h
  cases h
  decide

/-- The reset pin is asserted, and those accesses wait. -/
def waits (accesses : List PortAccess) : State :=
  { State.reset with
    port := { State.reset.port with waiting := accesses }
    sys := { State.reset.sys with resetPin := true } }

/-- A read that waits sees STARTING, one begun in SETUP sees SETUP, a restart's read sees STARTING, and a write that
waits is made once RUNNING is written, before the read behind it. -/
theorem test_startUp_accesses :
    let word : PortRead := .word 0x1FFFF#17
    runs (fun t => t.port.dataOut = [1#8, 0#8]) [.resetPinRelease (strapped .bits16) 0] (waits [.read (.word 0#17)]) ∧
    runs (fun t => t.port.dataOut = [2#8, 0#8])
      [.resetPinRelease ⟨.bits16, [.word 0#17], [.word 0#17]⟩ 0] (waits []) ∧
    runs (fun t => t.port.dataOut = [1#8, 0#8]) [.restart (.word 1#16) ⟨.bits16, [.word 0#17], []⟩ 0] State.reset ∧
    runs (fun t => t.port.dataOut = [0xCD#8, 0xAB#8] && t.port.waiting = [])
      [.resetPinRelease (strapped .bits16) 0] (waits [.write (.word 0x1FFFF#17 0xABCD#16), .read word]) := by
  decide +kernel

theorem test_witness_StartUpResetsEveryBlock :
    State.reset.port.waiting = [] ∧ State.reset.sys.resetPin = false ∧ (∀ e ∈ [(262143, 1#8)], e.1 < 262144) ∧
    restartBit (.word 1#16) = true ∧ restartBit (.low 0xFF#8) = true ∧ (strapped .bits16).strap = .bits16 ∧
    (strapped .bits16).starting = [] ∧ (strapped .bits16).setup = [] ∧
    (waits [.read (.word 0#17)]).mem = [] ∧ (waits [.read (.word 0#17)]).port.waiting = [.read (.word 0#17)] ∧
    (⟨.bits16, [.word 0#17], [.word 0#17]⟩ : StartInputs).setup = [.word 0#17] ∧
    (waits [.mask (.word 3#16)]).port.waiting = [.mask (.word 3#16)] ∧
    0x300 ≤ 2 * (0x180#17).toNat ∧ 0x300 ≤ 2 * (0x1FFFF#17).toNat ∧
    (waits [.write (.word 0x180#17 7#16), .read (.word 0x180#17)]).port.waiting =
      [.write (.word 0x180#17 7#16), .read (.word 0x180#17)] := by
  decide +kernel

/-- Slot 0 holds 2, slot 1 holds 4, slot 2 holds 5, slot 3 holds 1, slot 4 holds 0. Slots 0 and 3 hold LOAD KEY orders,
with staging areas at 0x400 and 0x3FFF0. -/
def boards : State :=
  let states :=
    Memory.writeNat (Memory.writeNat (Memory.writeNat (Memory.writeNat [] 0x100 2 2) 0x140 2 4) 0x180 2 5) 0x1C0 2 1
  let keys := Memory.writeNat (Memory.writeNat states 0x102 1 6) 0x1C2 1 6
  { State.reset with mem := Memory.writeNat (Memory.writeNat keys 0x10A 4 0x400) 0x1CA 4 0x3FFF0 }

/-- No ring lies outside the free region where none is configured. -/
theorem noRing {s : State} (h : s.journal.ring = none) : ringInFree s := by
  intro r k
  rw [h] at k
  cases k

theorem test_witness_boards :
    boards.port.waiting = [] ∧ ringInFree boards ∧ boards.MemoryLegal ∧ boards.sys.resetPin = false ∧
    stateWord boards.mem 0 = 2 ∧ stateWord boards.mem 1 = 4 ∧ stateWord boards.mem 2 = 5 ∧ stateWord boards.mem 3 = 1 ∧
    stateWord boards.mem 4 = 0 ∧ stagingBytes boards.mem 0 0x400 ∧ stagingBytes boards.mem 0 0x40F ∧
    ¬ stagingBytes boards.mem 0 0x3FF ∧ ¬ stagingBytes boards.mem 0 0x410 ∧ (0 : Nat) ≠ 2 := by
  refine ⟨rfl, noRing rfl, memoryLegal_of (by decide +kernel), rfl, ?_⟩
  unfold stagingBytes bytesFrom
  decide +kernel

theorem test_witness_PowerOnBringsBoardToKnownState :
    (∀ e ∈ boards.mem, e.1 < 262144) ∧ stateWord (Memory.writeCells [] boards.mem) 3 = 1 ∧
    stateWord (Memory.writeCells [] boards.mem) 0 = 2 ∧ stateWord (Memory.writeCells [] boards.mem) 1 = 4 ∧
    stateWord (Memory.writeCells [] boards.mem) 4 = 0 ∧ stagingBytes (Memory.writeCells [] boards.mem) 0 0x400 ∧
    stagingBytes (Memory.writeCells [] boards.mem) 3 0x3FFFF := by
  unfold stagingBytes bytesFrom
  decide +kernel

/-- A record that nobody waits for. -/
def lapse : RecordRequest := ⟨Record.blank .lapsed .lane0 .entry .none 5#64 ⟨0, 0, 0⟩, .credit, .nobody⟩

/-- That request at the front of the queue, at the last place of the ring. -/
def recording (q : RecordRequest) (r : Ring) : State :=
  { State.reset with
    journal :=
      { State.reset.journal with
        ring := some r
        position := r.size - 1
        reserved := 4
        queue := [q]
        writeDue := 10000 } }

/-- The largest ring, at the end of the memory. -/
def largest : Ring := ⟨0x20000, 4096, 1, 10000⟩

theorem recording_inFree (q : RecordRequest) : ringInFree (recording q largest) := by
  intro r h
  cases h
  exact ⟨by decide, by decide, show largest.size - 1 < largest.size by decide⟩

/-- A ring of 64 places at the free region's start. -/
def ringed (s : State) (r : Ring) : State := { s with journal := { s.journal with ring := some r } }

theorem test_witness_ResetPinStopsThePart :
    (let s := recording lapse largest;
      s.sys.resetPin = false ∧ s.journal.queue = lapse :: [] ∧ s.journal.ring = some largest ∧ s.MemoryLegal ∧
      ringInFree s ∧ recordBytes s 0x3FFE0 ∧ recordBytes s 0x3FFFF ∧ ¬ recordBytes s 0x3FFDF) ∧
    (∀ n ∈ [0, 14, 15], n < 16) ∧ (waits []).sys.resetPin = true ∧ portOrStartRow .clockTick = false ∧
    portOrStartRow (.resetPinAsserted 3) = false ∧ 6 ≤ 6 := by
  refine ⟨⟨rfl, rfl, rfl, rfl, recording_inFree _, ⟨by decide, largest, rfl, ?_⟩, ⟨by decide, largest, rfl, ?_⟩, ?_⟩, ?_⟩
  · unfold bytesFrom
    decide +kernel
  · unfold bytesFrom
    decide +kernel
  · rintro ⟨-, r, h, k⟩
    cases h
    unfold bytesFrom at k
    exact absurd k (by decide +kernel)
  · decide +kernel

/-- A record cut short after its first word: offset 2 is written, offsets 0 and 4 are not. -/
theorem test_cut :
    runs (fun t => t.sys.resetPin && t.journal.queue = [] &&
      Memory.readBytes t.mem 0x3FFE0 6 = [0#8, 0#8] ++ ((lapse.record.bytes 0#16).drop 2).take 2 ++ [0#8, 0#8])
      [.resetPinAsserted 1, .clockTick] (recording lapse largest) ∧
    ((lapse.record.bytes 0#16).drop 2).take 2 ≠ [0#8, 0#8] := by
  decide +kernel

theorem test_witness_RegisterWrites :
    State.reset.sys.resetPin = false ∧ 6 ≤ 6 ∧ restartBit (.word 0xFFFE#16) = false ∧ restartBit (.low 2#8) = false ∧
    restartBit (.high 1#8) = false := by decide +kernel

theorem test_witness_AttentionLineFollowsRegisters :
    boards.MemoryLegal ∧ boards.port.waiting = [] ∧ ringInFree boards ∧ boards.sys.resetPin = false ∧
    (∃ k : Fin 8, stateWord boards.mem k = 2) ∧ (∃ k : Fin 8, stateWord boards.mem k = 1 ∨ stateWord boards.mem k = 2) ∧
    (¬ ∃ k : Fin 8, stateWord State.reset.mem k = 2) ∧
    ¬ ∃ k : Fin 8, stateWord State.reset.mem k = 1 ∨ stateWord State.reset.mem k = 2 :=
  ⟨memoryLegal_of (by decide +kernel), rfl, noRing rfl, rfl, by decide +kernel, by decide +kernel, by decide +kernel,
    by decide +kernel⟩

theorem test_witness_WordWriteIsServed :
    State.reset.sys.resetPin = false ∧ State.reset.port.width = .bits16 ∧ State.reset.MemoryLegal ∧
    ∀ n ∈ ([0x00, 0x02, 0x04, 0x09, 0x0B, 0x20, 0x5F, 0x80, 0x160, 0x1FFFF] : List Nat),
      ¬ zeroWord (2 * (BitVec.ofNat 17 n).toNat) ∧ State.reset.heldAt (2 * (BitVec.ofNat 17 n).toNat) = false ∧
      State.reset.heldAt (2 * (BitVec.ofNat 17 n).toNat + 1) = false := by
  refine ⟨rfl, rfl, rfl, ?_⟩
  unfold zeroWord
  decide +kernel

theorem test_witness_watched : slotBase 0 = 2 * (0x80#17).toNat ∧ slotBase 7 = 2 * (0x160#17).toNat ∧
    (∀ k, slotBase k ≠ 2 * (0x09#17).toNat) ∧ 2 * (0x09#17).toNat = 0x12 := by decide +kernel

theorem test_witness_ByteWriteIsServed :
    State.reset.sys.resetPin = false ∧ State.reset.port.width = .bits16 ∧ State.reset.MemoryLegal ∧
    ∀ n ∈ ([0x05, 0x08, 0x12, 0x13, 0x17, 0x40, 0xBF, 0x100, 0x101, 0x2C1, 0x3FFFF] : List Nat),
      ¬ zeroWord (BitVec.ofNat 18 n).toNat ∧ State.reset.heldAt (BitVec.ofNat 18 n).toNat = false := by
  refine ⟨rfl, rfl, rfl, ?_⟩
  unfold zeroWord
  decide +kernel

/-- The range 0x1000 to 0x17FF is held by the ring. -/
def holding : State :=
  { State.reset with
    orders := { State.reset.orders with held := { State.reset.orders.held with ring := some ⟨0x1000, 0x800⟩ } } }

/-- That state with the 8-bit port. -/
def onNarrow (s : State) : State := { s with port := { s.port with width := .bits8 } }

/-- The reset state with the 8-bit port. -/
def narrow : State := onNarrow State.reset

theorem test_witness_HeldAndZeroWordsAreNotWritten :
    holding.sys.resetPin = false ∧ holding.port.width = .bits16 ∧ holding.MemoryLegal ∧
    (∀ n ∈ ([0x800, 0xBFF] : List Nat),
      ¬ zeroWord (2 * (BitVec.ofNat 17 n).toNat) ∧ holding.heldAt (2 * (BitVec.ofNat 17 n).toNat) = true) ∧
    (∀ n ∈ ([0x1000, 0x17FF] : List Nat),
      ¬ zeroWord (BitVec.ofNat 18 n).toNat ∧ holding.heldAt (BitVec.ofNat 18 n).toNat = true) ∧
    (∀ n ∈ ([0x03, 0x0C, 0x1F, 0x60, 0x7F] : List Nat), zeroWord (2 * (BitVec.ofNat 17 n).toNat)) ∧
    (∀ n ∈ ([0x06, 0x07, 0x18, 0x3F, 0xC0, 0xFF] : List Nat), zeroWord (BitVec.ofNat 18 n).toNat) ∧
    (onNarrow holding).sys.resetPin = false ∧ (onNarrow holding).MemoryLegal ∧
    (onNarrow holding).port.width = .bits8 ∧
    (∀ n ∈ ([0x1000, 0x17FE] : List Nat), (BitVec.ofNat 18 n).toNat % 2 = 0 ∧
      (BitVec.ofNat 18 (n + 1)).toNat = (BitVec.ofNat 18 n).toNat + 1 ∧ ¬ zeroWord (BitVec.ofNat 18 n).toNat ∧
      (onNarrow holding).heldAt (BitVec.ofNat 18 n).toNat = true) ∧
    (∀ n ∈ ([0x06, 0xFE] : List Nat), (BitVec.ofNat 18 n).toNat % 2 = 0 ∧
      (BitVec.ofNat 18 (n + 1)).toNat = (BitVec.ofNat 18 n).toNat + 1 ∧ zeroWord (BitVec.ofNat 18 n).toNat) := by
  refine ⟨rfl, rfl, rfl, ?_⟩
  unfold zeroWord State.MemoryLegal
  decide +kernel

/-- On the 8-bit port a low byte and then its high byte write POSTED and raise the slot's event; into a held range the
completing write is discarded. -/
theorem test_narrow_writes :
    runs (fun t => t.orders.watchEvents = [7] && stateWord t.mem 7 = 1)
      [.gcMemoryWrite (.byte 0x2C0#18 1#8), .gcMemoryWrite (.byte 0x2C1#18 0#8)] narrow ∧
    runs (fun t => t.mem = [(0x15, 0x10#8)] && t.sys.lastHeld = 0x1000 && t.regs.attention = 0x0030#16)
      [.gcMemoryWrite (.byte 0x1000#18 1#8), .gcMemoryWrite (.byte 0x1001#18 0#8)] (onNarrow holding) := by
  decide +kernel

theorem test_witness_NarrowWritesAssembleWords :
    narrow.sys.resetPin = false ∧ narrow.port.width = .bits8 ∧ narrow.MemoryLegal ∧
    (∀ n ∈ ([0x12, 0x100, 0x2C0, 0x3FFFE] : List Nat), (BitVec.ofNat 18 n).toNat % 2 = 0 ∧
      (BitVec.ofNat 18 (n + 1)).toNat = (BitVec.ofNat 18 n).toNat + 1 ∧ ¬ zeroWord (BitVec.ofNat 18 n).toNat ∧
      narrow.heldAt (BitVec.ofNat 18 n).toNat = false ∧ narrow.heldAt (BitVec.ofNat 18 (n + 1)).toNat = false) ∧
    slotBase 0 = (0x100#18).toNat ∧ slotBase 7 = (0x2C0#18).toNat ∧ (∀ k, slotBase k ≠ (0x3FFFE#18).toNat) ∧
    narrow.port.byteLatch = none := by
  refine ⟨rfl, rfl, rfl, ?_⟩
  unfold zeroWord
  decide +kernel

theorem test_witness_ReadsAreServed :
    State.reset.sys.resetPin = false ∧ State.reset.port.width = .bits16 ∧ narrow.sys.resetPin = false ∧
    narrow.port.width = .bits8 ∧ (0x3FFFE#18).toNat % 2 = 0 ∧ (0x3FFFF#18).toNat = (0x3FFFE#18).toNat + 1 ∧
    (0x3FFFF#18).toNat % 2 = 1 ∧ narrow.port.readLatch = none ∧ zeroWord (0x06#18).toNat ∧ ¬ zeroWord (0x05#18).toNat ∧
    (List.range 7).map (registerWord { State.reset with regs := ⟨0x21#16, 0x3F#16⟩ }) =
      [0x21#16, 0x21#16, 0x3F#16, 0x3F#16, 2#16, 2#16, 0#16] := by
  unfold zeroWord
  decide

/-! ## Orders -/

/-- A write to the state word of slot 0 left that value, with the slot in that state. -/
def written (kept : SlotState) (value : Nat) : State :=
  { State.reset with
    mem := Memory.writeNat [] 0x100 2 value
    orders := { State.reset.orders with slots := State.reset.orders.slots.set 0 kept, watchEvents := [0] } }

theorem test_witness_SlotEventFollowsTheTable :
    (written .empty 1).sys.resetPin = false ∧ (written .empty 1).Settled ∧ (written .empty 1).MemoryLegal ∧
    (0 : Fin 8) ∈ (written .empty 1).orders.watchEvents ∧
    boardRule .empty (stateWord (written .empty 1).mem 0) = some .posted ∧
    boardRule .taken (stateWord (written .taken 0).mem 0) = some .taken ∧
    boardRule .refused (stateWord (written .refused 4).mem 0) = some .refused ∧
    boardRule .done (stateWord (written .done 0).mem 0) = some .empty ∧
    boardRule .posted (stateWord (written .posted 2).mem 0) = none ∧
    (written .posted 5).Settled ∧ (written .posted 5).MemoryLegal ∧
    boardRule .posted (stateWord (written .posted 5).mem 0) = none := by
  refine ⟨rfl, settled_of (by decide +kernel), memoryLegal_of (by decide +kernel), by decide +kernel, by decide +kernel, by decide +kernel,
    by decide +kernel, by decide +kernel, by decide +kernel, settled_of (by decide +kernel), memoryLegal_of (by decide +kernel),
    by decide +kernel⟩

/-- One slot is POSTED. -/
def posted (k : Fin 8) : State :=
  { State.reset with orders := { State.reset.orders with slots := State.reset.orders.slots.set k .posted } }

theorem test_witness_TakeCopiesTheNextPostedSlot :
    ((posted 0).sys.resetPin = false ∧ (posted 0).Settled ∧ (posted 0).MemoryLegal ∧ (posted 0).orders.service = none ∧
      (0 : Fin 8).val = ((posted 0).orders.lastTaken.val + 1 + 0) % 8 ∧ (posted 0).orders.slots[(0 : Fin 8)] = .posted) ∧
    ((posted 7).Settled ∧ (7 : Fin 8).val = ((posted 7).orders.lastTaken.val + 1 + 7) % 8 ∧
      (posted 7).orders.slots[(7 : Fin 8)] = .posted ∧
      ∀ m < 7, ∀ j : Fin 8, j.val = ((posted 7).orders.lastTaken.val + 1 + m) % 8 →
        (posted 7).orders.slots[j] ≠ .posted) ∧
    ∀ kind ∈ [0#8, 14#8], (handed kind []).sys.resetPin = false ∧
      (handed kind []).orders.service = some (order kind [] .handed) ∧ (order kind [] .handed).stage = .handed ∧
      ((order kind [] .handed).kind.toNat = 0 ∨ 13 < (order kind [] .handed).kind.toNat) := by
  refine ⟨⟨rfl, settled_of (by decide +kernel), rfl, rfl, by decide +kernel, by decide +kernel⟩,
    ⟨settled_of (by decide +kernel), by decide +kernel, by decide +kernel, by decide +kernel⟩, by decide +kernel⟩

theorem test_witness_OrderEndWritesTheResult :
    let o := order 2#8 [] (.ended true .none (.bytes [1#8]) 10000)
    (serving o).sys.resetPin = false ∧ (serving o).Settled ∧ (serving o).MemoryLegal ∧
    (serving o).orders.service = some o ∧ o.stage = .ended true .none (.bytes [1#8]) 10000 ∧
    10000 ≤ (serving o).nextTick ∧
    let now := order 9#8 [] (.ended true .none (.laneNow .lane3) 10000)
    (serving now).orders.service = some now ∧ now.stage = .ended true .none (.laneNow .lane3) 10000 :=
  ⟨rfl, settled_of (by decide +kernel), rfl, rfl, rfl, by decide +kernel, rfl, rfl⟩

/-- The mode and the state are those of the order's end. -/
theorem test_laneNow :
    runs (fun t => Memory.readBytes t.mem 0x130 3 = [1#8, 3#8, 0#8]) [.orderEnd]
      { atLane fun x => { x with mode := .entry, pc := .opened } with
        orders := (serving (order 9#8 [] (.ended true .none (.laneNow .lane0) 20))).orders } = true := by
  decide +kernel

/-- The arguments of a SET TIME. -/
def timeArgs (minute ms start : Nat) (today next : Byte) : List Byte :=
  leBytes 2 65535 ++ leBytes 2 minute ++ leBytes 2 ms ++ [today, next] ++ leBytes 2 start

theorem test_witness_SetTimeSetsTheClock :
    (let a := timeArgs 1439 59999 1439 1#8 2#8
      let o := order 1#8 a .handed
      (handed 1#8 a).sys.resetPin = false ∧ (handed 1#8 a).Settled ∧ (handed 1#8 a).MemoryLegal ∧
      (handed 1#8 a).Handed o 1 ∧ (handed 1#8 a).clock.rolloverDue = false ∧ (handed 1#8 a).clock.readoutDue = false ∧
      o.arg 2 2 < 1440 ∧ o.arg 4 2 < 60000 ∧ o.arg 8 2 < 1440 ∧ o.arg 6 1 = DayType.workday.code ∧
      o.arg 7 1 = DayType.restday.code) ∧
    (handed 1#8 (timeArgs 1440 0 0 1#8 1#8)).Handed (order 1#8 (timeArgs 1440 0 0 1#8 1#8) .handed) 1 ∧
    1440 ≤ (order 1#8 (timeArgs 1440 0 0 1#8 1#8) .handed).arg 2 2 ∧
    60000 ≤ (order 1#8 (timeArgs 0 60000 0 1#8 1#8) .handed).arg 4 2 ∧
    1440 ≤ (order 1#8 (timeArgs 0 0 1440 1#8 1#8) .handed).arg 8 2 ∧
    (order 1#8 (timeArgs 0 0 0 0#8 1#8) .handed).arg 6 1 < 1 ∧ 2 < (order 1#8 (timeArgs 0 0 0 3#8 1#8) .handed).arg 6 1 ∧
    (order 1#8 (timeArgs 0 0 0 1#8 0#8) .handed).arg 7 1 < 1 ∧
    2 < (order 1#8 (timeArgs 0 0 0 1#8 3#8) .handed).arg 7 1 := by
  refine ⟨⟨rfl, settled_of (by decide +kernel), rfl, ⟨rfl, rfl, rfl⟩, rfl, rfl, ?_⟩, ⟨rfl, rfl, rfl⟩, ?_⟩ <;> decide +kernel

/-- The reset state with its clock changed. -/
def clocked (f : StationClock → StationClock) : State := { State.reset with clock := f State.reset.clock }

theorem test_witness_TickAdvancesStationTime :
    (State.reset.sys.resetPin = false ∧ State.reset.Settled ∧ State.reset.ClockLegal ∧
      State.reset.clock.rolloverDue = false ∧ State.reset.clock.readoutDue = false ∧
      State.reset.instant + 1 < 65536 * 86400000) ∧
    let s := clocked fun c => { c with day := 65535, minute := 1439, ms := 59999 }
    s.Settled ∧ s.ClockLegal ∧ s.instant + 1 = 65536 * 86400000 := by
  unfold State.ClockLegal
  exact ⟨⟨rfl, settled_of (by decide +kernel), by decide +kernel, rfl, rfl, by decide +kernel⟩, settled_of (by decide +kernel), by decide +kernel, by decide +kernel⟩

theorem test_witness_RolloverAndReadout :
    let r := clocked fun c => { c with rolloverDue := true }
    let q := clocked fun c => { c with readoutDue := true, minute := 1439, ms := 59000 }
    r.sys.resetPin = false ∧ r.Settled ∧ r.MemoryLegal ∧ r.clock.rolloverDue = true ∧ q.Settled ∧ q.MemoryLegal ∧
    q.ClockLegal ∧ q.clock.readoutDue = true := by
  unfold State.ClockLegal
  exact ⟨rfl, settled_of (by decide +kernel), rfl, rfl, settled_of (by decide +kernel), rfl, by decide +kernel, rfl⟩

/-- Two USED marks and two parts, one of each at the end of a lowered life and one just before it. -/
def ageing : List Sighting :=
  [{ blank 5#64 with mark := .used .entry 0 }, { blank 6#64 with mark := .used .entry 1 },
   { blank 7#64 with uncertainty := some { part with created := -600000 } },
   { blank 8#64 with uncertainty := some { part with created := -599999 } }]

/-- A block of zeros lowers the passback interval to 0 s and the uncertainty life to 600 s: what is older expires at once,
and one UNRESOLVED record is asked for. -/
theorem test_parameters_expire :
    runs (fun t => t.screening.table =
        [blank 5#64, { blank 6#64 with mark := .used .entry 1 }, blank 7#64,
          { blank 8#64 with uncertainty := some { part with created := -599999 } }] &&
        t.journal.queue.map (fun q => (q.record.card, q.record.result)) = [(7#64, .unresolved)])
      [.parameterBlockReadEnd]
      (seen (serving (order 2#8 (leBytes 4 0x300) (.readingParameters 0x300))) ageing) = true := by
  decide +kernel

/-- A block of zeros is clamped in 14 fields, the first of them field 0. -/
theorem test_parameters_clamped :
    runs (fun t => t.orders.service = some (order 2#8 (leBytes 4 0x300) (.ended true .none (.bytes [14#8, 0#8, 0#8]) 20)))
      [.parameterBlockReadEnd] (serving (order 2#8 (leBytes 4 0x300) (.readingParameters 0x300))) = true := by
  decide +kernel

theorem test_witness_ParametersAreBroughtIntoRange :
    (∀ base ∈ [0x300, 0x3FFCC, 0x301, 0x2FE, 0x3FFCE],
      (handed 2#8 (leBytes 4 base)).orders.service = some (order 2#8 (leBytes 4 base) .handed) ∧
      (order 2#8 (leBytes 4 base) .handed).arg 0 4 = base) ∧
    (handed 2#8 (leBytes 4 0x300)).sys.resetPin = false ∧ (handed 2#8 (leBytes 4 0x300)).Settled ∧
    (handed 2#8 (leBytes 4 0x300)).Handed (order 2#8 (leBytes 4 0x300) .handed) 2 ∧
    (0x3FFCC + 52 ≤ 0x40000 ∧ 0x40000 < 0x3FFCE + 52) ∧
    let o := order 2#8 (leBytes 4 0x300) (.readingParameters 0x300)
    let s := seen (serving o) ageing
    s.sys.resetPin = false ∧ s.Settled ∧ s.TableLegal ∧ s.orders.service = some o ∧
    o.stage = .readingParameters 0x300 ∧ o.takenAt + 20 ≤ s.nextTick ∧
    (∀ e ∈ ageing, findSighting s.screening.table e.card = some e) ∧ findSighting s.screening.table 9#64 = none :=
  ⟨by decide +kernel, rfl, settled_of (by decide +kernel), ⟨rfl, rfl, rfl⟩, by decide +kernel, rfl,
    settled_of (by decide +kernel), ⟨by decide +kernel, by decide +kernel⟩, rfl, rfl, by decide +kernel,
    by decide +kernel, by decide +kernel⟩

/-- The arguments of a CONFIGURE JOURNAL. -/
def ringArgs (base size level delay : Nat) : List Byte := leBytes 4 base ++ leBytes 2 size ++ leBytes 2 level ++ leBytes 2 delay

/-- The size check of CONFIGURE JOURNAL, as its statement says it. -/
def sizePasses (a : List Byte) : Prop :=
  let o := order 3#8 a .handed
  64 ≤ o.arg 4 2 ∧ o.arg 4 2 ≤ 4096

/-- The level check. -/
def levelPasses (a : List Byte) : Prop :=
  let o := order 3#8 a .handed
  1 ≤ o.arg 6 2 ∧ o.arg 6 2 ≤ o.arg 4 2

/-- The area check of CONFIGURE JOURNAL, as its statement says it. -/
def ringAreaPasses (a : List Byte) : Prop :=
  let o := order 3#8 a .handed
  o.arg 0 4 % 32 = 0 ∧ 0x300 ≤ o.arg 0 4 ∧ o.arg 0 4 + 32 * o.arg 4 2 ≤ 0x40000 ∧
    { State.reset.orders.held with ring := none }.overlaps ⟨o.arg 0 4, 32 * o.arg 4 2⟩ = false

theorem test_witness_ConfigureJournalReplacesTheRing :
    (handed 3#8 (ringArgs 0x300 64 1 0)).sys.resetPin = false ∧
    (handed 3#8 (ringArgs 0x300 64 1 0)).Handed (order 3#8 (ringArgs 0x300 64 1 0) .handed) 3 ∧
    (handed 3#8 (ringArgs 0x300 64 1 0)).MemoryLegal ∧
    (∀ a ∈ [ringArgs 0x300 64 1 0, ringArgs 0x20000 4096 4096 10000],
      sizePasses a ∧ levelPasses a ∧ (order 3#8 a .handed).arg 8 2 ≤ 10000 ∧ ringAreaPasses a) ∧
    (∀ a ∈ [ringArgs 0x2E0 64 1 0, ringArgs 0x20020 4096 1 0, ringArgs 0x310 64 1 0],
      sizePasses a ∧ levelPasses a ∧ (order 3#8 a .handed).arg 8 2 ≤ 10000 ∧ ¬ ringAreaPasses a) ∧
    (∀ a ∈ [ringArgs 0x300 63 1 0, ringArgs 0x300 4097 1 0], ¬ sizePasses a) ∧
    (∀ a ∈ [ringArgs 0x300 64 0 0, ringArgs 0x300 64 65 0], sizePasses a ∧ ¬ levelPasses a) ∧
    (sizePasses (ringArgs 0x300 64 1 10001) ∧ levelPasses (ringArgs 0x300 64 1 10001) ∧
      10000 < (order 3#8 (ringArgs 0x300 64 1 10001) .handed).arg 8 2) ∧
    State.reset.journal.unconsumed = 0 ∧ State.reset.journal.reserved = 0 ∧
    { State.reset.journal with reserved := 4 }.reserved ≠ 0 ∧
    ({ State.reset.journal with ring := some ⟨0x300, 64, 1, 0⟩, written := 1#16 } : Journal).unconsumed ≠ 0 := by
  refine ⟨rfl, ⟨rfl, rfl, rfl⟩, rfl, ?_⟩
  unfold sizePasses levelPasses ringAreaPasses
  decide +kernel

/-- A ring with two unconsumed records, and that value written into the consumed tally. -/
def consuming (value : Nat) : State :=
  { State.reset with
    mem := Memory.writeNat [] 0x12 2 value
    journal := { State.reset.journal with ring := some ⟨0x300, 64, 1, 1000⟩, written := 2#16 }
    orders := { State.reset.orders with tallyEvents := 1 } }

theorem test_witness_ConsumedTallyIsJudged :
    (consuming 2).sys.resetPin = false ∧ (consuming 2).MemoryLegal ∧ 0 < (consuming 2).orders.tallyEvents ∧
    (∀ v ∈ [1, 2],
      (BitVec.ofNat 16 (Memory.readNat (consuming v).mem 0x12 2) - (consuming v).journal.consumed).toNat
        ≤ (consuming v).journal.unconsumed) ∧
    (consuming 3).MemoryLegal ∧
    ¬ (BitVec.ofNat 16 (Memory.readNat (consuming 3).mem 0x12 2) - (consuming 3).journal.consumed).toNat
        ≤ (consuming 3).journal.unconsumed :=
  ⟨rfl, memoryLegal_of (by decide +kernel), by decide +kernel, by decide +kernel, memoryLegal_of (by decide +kernel),
    by decide +kernel⟩

/-- A dialogue whose RELEASE waits for its result record. -/
def releasing (code : ResultCode) (abort : Bool) (d : Dialogue) : Dialogue :=
  { d with
    phase := .release
    identity := some ⟨5#64, 32, 7⟩
    known := true
    claimHeld := true
    outstanding := some .journal
    outcome := some code
    byAbort := abort }

/-- Its record, and lane 0 with that dialogue and that record at the front of the queue. -/
def release : RecordRequest :=
  ⟨Record.blank .refused .lane0 .entry .lost 5#64 ⟨0, 0, 0⟩, .dialogue .lane0, .release .lane0⟩

def released (code : ResultCode) (abort : Bool) : State :=
  { seen (talking (releasing code abort) .idle) [{ blank 5#64 with claim := some .lane0 }] with
    journal := (recording release largest).journal }

/-- The rest of RELEASE after its record: no claim, one place kept at UNCERTAIN, the last result, WAIT for 2 s, the
watch. -/
theorem test_release :
    runs (fun t => t.screening.table = [blank 5#64] && t.journal.reserved = 1 && (t.lane .lane0).dialogue = none &&
      (t.lane .lane0).lastResult = .uncertain && (t.lane .lane0).timedDisplay = some ⟨.wait, 20010000⟩ &&
      (t.lane .lane0).watch = some ⟨0, some 20, false⟩) [.journalRecordWrite] (released .uncertain false) = true := by
  decide +kernel

theorem test_witness_RecordIsWrittenAtTheWritePosition :
    (∀ q ∈ [lapse, { lapse with holder := .part, waiter := .screen .lane1 },
        { lapse with holder := .dialogue .lane2 }],
      let s := recording q largest
      s.sys.resetPin = false ∧ Memory.wf s.mem = true ∧ s.journal.queue = q :: [] ∧ s.journal.ring = some largest ∧
      (q.waiter = .nobody ∨ q.waiter = .screen .lane1) ∧ s.journal.writeDue ≤ s.nextTick) ∧
    ringInFree (recording lapse largest) ∧
    (∀ code ∈ [ResultCode.accept, .regrant, .uncertain, .lost, .aborted], ∀ abort : Bool,
      let s := released code abort
      let d := spoken (releasing code abort)
      s.sys.resetPin = false ∧ Memory.wf s.mem = true ∧ s.journal.queue = release :: [] ∧
      s.journal.ring = some largest ∧ release.waiter = .release .lane0 ∧ release.holder = .dialogue .lane0 ∧
      (s.lane .lane0).dialogue = some d ∧ d.outcome = some code ∧ 0 < d.reserved ∧ d.reserved ≤ s.journal.reserved ∧
      s.journal.writeDue ≤ s.nextTick ∧ (s.lane .lane0).field = .on ∧ d.byAbort = abort ∧
      findSighting s.screening.table d.card = some { blank 5#64 with claim := some .lane0 }) ∧
    ringInFree (released .lost false) ∧
    let n := { State.reset with journal := { State.reset.journal with notifyDue := some 10000 } }
    n.sys.resetPin = false ∧ n.Settled ∧ n.journal.notifyDue = some 10000 ∧ 10000 ≤ n.nextTick :=
  ⟨by decide +kernel, recording_inFree _, by decide +kernel, recording_inFree release, rfl,
    settled_of (by decide +kernel), rfl, by decide +kernel⟩

/-! ## Fare tables and pricing -/

/-- The arguments of an adoption: offset and length or count. -/
def areaArgs (base len : Nat) : List Byte := leBytes 4 base ++ leBytes 2 len

theorem test_witness_AdoptFareTableExaminesTheArea :
    let passes := fun a : List Byte =>
      let o := order 4#8 a .handed
      o.arg 0 4 % 2 = 0 ∧ 130 ≤ o.arg 4 2 ∧ o.arg 4 2 ≤ 640 ∧ 0x300 ≤ o.arg 0 4 ∧ o.arg 0 4 + o.arg 4 2 ≤ 0x40000 ∧
      State.reset.orders.held.overlaps ⟨o.arg 0 4, o.arg 4 2⟩ = false
    (handed 4#8 (areaArgs 0x300 130)).sys.resetPin = false ∧ (handed 4#8 (areaArgs 0x300 130)).Settled ∧
    (handed 4#8 (areaArgs 0x300 130)).Handed (order 4#8 (areaArgs 0x300 130) .handed) 4 ∧
    passes (areaArgs 0x300 130) ∧ passes (areaArgs 0x3FD80 640) ∧ ¬ passes (areaArgs 0x301 130) ∧
    ¬ passes (areaArgs 0x300 129) ∧ ¬ passes (areaArgs 0x300 641) ∧ ¬ passes (areaArgs 0x2FE 130) ∧
    ¬ passes (areaArgs 0x3FD82 640) := by
  refine ⟨rfl, settled_of (by decide +kernel), ⟨rfl, rfl, rfl⟩, ?_⟩
  decide +kernel

theorem test_witness_tableChecks :
    fareWord (Memory.writeNat [] 0x400 2 0) ⟨0x400, 130⟩ 0 < 1 ∧
    16 < fareWord (Memory.writeNat [] 0x400 2 17) ⟨0x400, 640⟩ 0 ∧
    (1 ≤ fareWord (Memory.writeNat [] 0x400 2 1) ⟨0x400, 131⟩ 0 ∧ 131 ≠ 128 + 2 * 1 * 1) ∧
    (fareWord (Memory.writeNat [] 0x400 2 16) ⟨0x400, 638⟩ 0 ≤ 16 ∧ 638 ≠ 128 + 2 * 16 * 16) := by
  decide +kernel

/-- A table of one zone that passes every check, at 0x400. -/
def fareTable : List Host.Cell :=
  let day := leBytes 2 1 ++ leBytes 2 0 ++ leBytes 2 256 ++ List.replicate 28 0#8
  Memory.writeBytes [] 0x400
    (leBytes 2 1 ++ day ++ day ++ (List.replicate 8 (leBytes 2 256)).flatten ++
      (List.replicate 8 (leBytes 2 600)).flatten ++ leBytes 2 5 ++ leBytes 2 45 ++ leBytes 2 100 ++ leBytes 2 180 ++
      leBytes 2 50 ++ leBytes 2 300 ++ leBytes 2 400 ++ leBytes 2 200 ++ leBytes 2 200 ++ leBytes 2 519 ++ leBytes 2 1 ++
      List.replicate 4 0#8 ++ leBytes 2 235)

theorem test_fareTable : tableFailure fareTable ⟨0x400, 130⟩ = none := by decide +kernel

/-- A validation of that table, or of one of zeros, that ends now. -/
def validating (m : List Host.Cell) (f : FareUnit → FareUnit) : State :=
  { serving (order 4#8 (areaArgs 0x400 130) (.validatingTable 9870)) with
    mem := m
    fare := f { State.reset.fare with pending := some ⟨0x400, 130⟩ } }

/-- A pricing bound to a table. -/
def pricingOf (table : Area) (direction : Direction) (product purse : List Byte) : Pricing :=
  ⟨0, table, direction, product, purse, ⟨⟨0, 0, 0⟩, 0, .workday⟩, 10000⟩

/-- An older table is active, with no pricing bound to it. -/
def older (f : FareUnit) : FareUnit := { f with active := some ⟨0x800, 130⟩ }

/-- An older table is active, with a pricing bound to it. -/
def olderBound (f : FareUnit) : FareUnit :=
  { older f with pricings := ⟨some (pricingOf ⟨0x800, 130⟩ .exit [] []), none, none, none⟩ }

theorem test_witness_ValidationEndSwitchesOrRefuses :
    (∀ m ∈ [fareTable, []], (validating m id).orders.service =
        some (order 4#8 (areaArgs 0x400 130) (.validatingTable 9870)) ∧
      (validating m id).fare.pending = some ⟨0x400, 130⟩ ∧ 9870 + 130 ≤ (validating m id).nextTick ∧
      (validating m id).sys.resetPin = false) ∧
    (validating [] id).Settled ∧ tableFailure [] ⟨0x400, 130⟩ = some (2, 0, 0) ∧ tableFailure fareTable ⟨0x400, 130⟩ = none ∧
    ((validating fareTable older).fare.active = some ⟨0x800, 130⟩ ∧
      (validating fareTable older).fare.bound ⟨0x800, 130⟩ = false) ∧
    (validating fareTable olderBound).fare.active = some ⟨0x800, 130⟩ ∧
    (validating fareTable olderBound).fare.bound ⟨0x800, 130⟩ = true :=
  ⟨by decide +kernel, settled_of (by decide +kernel), by decide +kernel, test_fareTable, by decide +kernel,
    by decide +kernel⟩

/-- A purse record with that balance, counter and trip state. -/
def purseOf (balance : Int) (counter : Nat) (trip : Byte) : List Byte :=
  signedBytes 4 balance ++ leBytes 2 counter ++ [trip, 1#8] ++ List.replicate 24 0#8

/-- A product record with that kind and expiry day. -/
def productOf (kind : Byte) (expiry : Nat) : List Byte := [kind, 0#8] ++ leBytes 2 expiry ++ List.replicate 28 0#8

theorem test_witness_ExpiryTest :
    purseCounter (purseOf 0 65535 0#8) = 65535 ∧ purseCounter (purseOf 0 65534 0#8) ≠ 65535 := by decide +kernel

/-- The charges of the table's entries and exits: none, the two penalties, a STAFF card, the stages. -/
theorem test_charges :
    let t : Area := ⟨0x400, 130⟩
    let of := fun dir kind trip => pricingOf t dir (productOf kind 0) (purseOf 199 0 trip)
    let penalised : StageFlags := ⟨false, false, false, true, false⟩
    entryCharge fareTable (of .entry 1#8 0#8) = ⟨0, StageFlags.clear, none⟩ ∧
    entryCharge fareTable (of .entry 1#8 1#8) = ⟨300, penalised, none⟩ ∧
    entryCharge fareTable (of .entry 3#8 1#8) = ⟨0, StageFlags.clear, none⟩ ∧
    exitCharge fareTable (of .exit 1#8 0#8) = ⟨400, penalised, none⟩ ∧
    exitCharge fareTable (of .exit 3#8 0#8) = ⟨0, StageFlags.clear, none⟩ ∧
    exitCharge fareTable (of .exit 3#8 1#8) = ⟨0, StageFlags.clear, some 0⟩ ∧
    exitCharge fareTable (of .exit 1#8 1#8) = ⟨235, StageFlags.clear, some 235⟩ := by
  decide +kernel

/-- The fields of the image an answer carries: balance, counter, trip state, zone, station; last exit; daily. -/
def imageFields (a : PriceAnswer) : Option (Int × List Nat) :=
  match a with
  | .priced _ image =>
    some (purseBalance image, [purseCounter image, purseTripState image, purseEntryZone image, purseEntryStation image,
      purseLastExitStation image, purseDailySum image])
  | _ => none

theorem test_witness_OverdraftFloor :
    let t : Area := ⟨0x400, 130⟩
    let p := pricingOf t .exit (productOf 1#8 0) (purseOf 199 65534 0#8)
    purseCounter p.purse < 65535 ∧ p.transaction.serviceDay ≤ productExpiry p.product ∧ p.purse.length = 32 ∧
    (overdraftLimit fareTable t, entryFloor fareTable t, stationCode fareTable t, stationZone fareTable t) =
      (200, 200, 519, 1) ∧
    price fareTable p = .lowBalance 400 ⟨false, false, false, true, false⟩ ∧
    price fareTable (pricingOf t .entry (productOf 1#8 0) (purseOf 199 0 0#8)) = .lowBalance 0 StageFlags.clear ∧
    price fareTable (pricingOf t .entry (productOf 3#8 0) (purseOf (-201) 0 1#8)) = .lowBalance 0 StageFlags.clear ∧
    imageFields (price fareTable (pricingOf t .entry (productOf 1#8 0) (purseOf 500 7 1#8))) =
      some (200, [8, 1, 1, 519, 0, 0]) ∧
    imageFields (price fareTable (pricingOf t .entry (productOf 3#8 0) (purseOf (-200) 0 1#8))) =
      some (-200, [1, 1, 1, 519, 0, 0]) ∧
    imageFields (price fareTable (pricingOf t .exit (productOf 1#8 0) (purseOf 200 0 0#8))) =
      some (-200, [1, 0, 1, 0, 519, 0]) := by
  decide +kernel

theorem test_witness_ExitStages :
    let of := fun kind balance => pricingOf ⟨0x400, 130⟩ .exit (productOf kind 0) (purseOf balance 0 1#8)
    let p := of 1#8 35
    p.direction = .exit ∧ productKind p.product ≠ 3 ∧ purseTripState p.purse = 1 ∧ purseCounter p.purse < 65535 ∧
    p.transaction.serviceDay ≤ productExpiry p.product ∧ p.purse.length = 32 ∧ p.transaction.serviceDay < 65536 ∧
    imageFields (price fareTable p) = some (-200, [1, 0, 1, 0, 519, 235]) ∧
    price fareTable (of 1#8 34) = .lowBalance 235 StageFlags.clear ∧
    imageFields (price fareTable (of 3#8 34)) = some (34, [1, 0, 1, 0, 519, 0]) := by
  decide +kernel

/-! ## Denylists and keys -/

/-- A list of three entries that rises, at 0x600. -/
def denylist (third : Byte) : List Host.Cell :=
  Memory.writeBytes [] 0x600
    (leBytes 8 5 ++ leBytes 2 1 ++ leBytes 2 0 ++ leBytes 8 7 ++ leBytes 2 2 ++ leBytes 2 9 ++ leBytes 8 9 ++
      [third, 0#8] ++ leBytes 2 0)

/-- Its scan, that ends now. -/
def scanning (m : List Host.Cell) : State :=
  { serving (order 5#8 (areaArgs 0x600 3) (.scanningDenylist 9985)) with
    mem := m
    screening := ⟨[], none, some ⟨0x600, 3⟩⟩ }

theorem test_witness_DenylistIsExaminedScannedAndSwitched :
    (∀ n ∈ ([0, 1, 8192, 8193] : List Nat), (order 5#8 (areaArgs 0x300 n) .handed).arg 4 2 = n) ∧
    (handed 5#8 (areaArgs 0x300 1)).sys.resetPin = false ∧ (handed 5#8 (areaArgs 0x300 1)).Settled ∧
    (handed 5#8 (areaArgs 0x300 1)).Handed (order 5#8 (areaArgs 0x300 1) .handed) 5 ∧
    (0x300 % 2 = 0 ∧ 0x300 + 12 * 8192 ≤ 0x40000 ∧ State.reset.orders.held.overlaps ⟨0x300, 12 * 8192⟩ = false) ∧
    (0x301 % 2 ≠ 0 ∧ 0x2FE < 0x300 ∧ 0x40000 < 0x3FFF6 + 12 * 1) ∧
    (∀ m ∈ [denylist 1#8, denylist 3#8], (scanning m).orders.service =
        some (order 5#8 (areaArgs 0x600 3) (.scanningDenylist 9985)) ∧
      (scanning m).screening.pending = some ⟨0x600, 3⟩ ∧ 9985 + 5 * 3 ≤ (scanning m).nextTick ∧
      (scanning m).sys.resetPin = false) ∧
    (scanning []).Settled ∧ (∀ i < 3, entryFits (denylist 1#8) 0x600 i) ∧
    (∀ j < 2, entryFits (denylist 3#8) 0x600 j) ∧ ¬ entryFits (denylist 3#8) 0x600 2 := by
  refine ⟨by decide +kernel, rfl, settled_of (by decide +kernel), ⟨rfl, rfl, rfl⟩, by decide +kernel, by decide +kernel,
    by decide +kernel, settled_of (by decide +kernel), ?_⟩
  unfold entryFits
  decide +kernel

/-- An adoption that waits for its switch, with a lookup that waits for the list at lane 0. -/
def switching : State :=
  { (talking (fun d => { d with outstanding := some .lookupWaiting }) .idle) with
    screening := ⟨[], none, some ⟨0x600, 3⟩⟩
    orders := { State.reset.orders with service := some (order 5#8 [] .awaitingSwitch) } }

theorem test_witness_denylistSwitch :
    switching.sys.resetPin = false ∧ switching.orders.service = some (order 5#8 [] .awaitingSwitch) ∧
    switching.screening.pending = some ⟨0x600, 3⟩ ∧ (switching.lane .lane0).waitsForList = true ∧
    ∀ l e, (switching.lane l).dialogue = some e → ∀ list due, e.outstanding ≠ some (.lookup list due) := by
  refine ⟨rfl, rfl, rfl, by decide +kernel, ?_⟩
  intro l
  cases l
  · intro e h list due k
    have q : e.outstanding = some .lookupWaiting := by rw [← Option.some.inj h]
    rw [q] at k
    exact absurd k (by simp)
  all_goals intro e h; cases h

/-- Slot 0 is LOADED with version 7. -/
def keyed (s : State) : State :=
  { s with engine := { s.engine with slots := s.engine.slots.set 0 ⟨.loaded, 7, 5#128⟩ } }

/-- The arguments of LOAD KEY. -/
def keyArgs (slot version : Byte) (base : Nat) : List Byte := [slot, version] ++ leBytes 4 base

theorem test_witness_LoadKeyTakesTheKey :
    let a := keyArgs 1#8 8#8 0x300
    (keyed (handed 6#8 a)).sys.resetPin = false ∧ (keyed (handed 6#8 a)).MemoryLegal ∧
    (keyed (handed 6#8 a)).Handed (order 6#8 a .handed) 6 ∧ (order 6#8 a .handed).arg 2 4 = 0x300 ∧
    (8 ≤ (order 6#8 (keyArgs 8#8 0#8 0x300) .handed).arg 0 1 ∧ (order 6#8 (keyArgs 7#8 0#8 0x300) .handed).arg 0 1 = 7) ∧
    (0x300 ≤ 0x3FFF0 ∧ 0x3FFF0 + 16 ≤ 0x40000 ∧ 0x40000 < 0x3FFF1 + 16) ∧
    State.reset.orders.held.overlaps ⟨0x300, 16⟩ = false ∧ State.reset.orders.held.overlaps ⟨0x3FFF0, 16⟩ = false ∧
    (keyed State.reset).engine.slots[(0 : Fin 8)].state ≠ .empty ∧
    ((keyed State.reset).engine.slots[(1 : Fin 8)].state = .empty ∧
      ∃ j : Fin 8, (keyed State.reset).engine.slots[j].state = .loaded ∧ (keyed State.reset).engine.slots[j].version = 7) ∧
    (∀ j : Fin 8, (keyed State.reset).engine.slots[j].state = .loaded → (keyed State.reset).engine.slots[j].version ≠ 8) ∧
    let o := order 6#8 (keyArgs 7#8 8#8 0x3FFF0) .loadingKey
    (serving o).orders.service = some o ∧ (serving o).sys.resetPin = false ∧ (7 : Fin 8).val = o.arg 0 1 ∧
    0x300 ≤ o.arg 2 4 ∧ o.arg 2 4 + 16 ≤ 0x40000 ∧ o.takenAt + 20 ≤ (serving o).nextTick ∧
    BitVec.ofNat 128 (Memory.readNat [] 0x3FFF0 16) = 0#128 ∧
    BitVec.ofNat 128 (Memory.readNat (Memory.writeNat [] 0x3FFF0 2 1) 0x3FFF0 16) ≠ 0#128 := by
  refine ⟨rfl, rfl, ⟨rfl, rfl, rfl⟩, ?_⟩
  decide +kernel

theorem test_witness_RetireAndEraseKey :
    (∀ n ∈ ([0, 7, 8] : List Nat), (order 7#8 (leBytes 1 n) .handed).arg 0 1 = n) ∧
    (keyed (handed 7#8 [0#8])).sys.resetPin = false ∧ (keyed (handed 7#8 [0#8])).Handed (order 7#8 [0#8] .handed) 7 ∧
    (keyed (handed 8#8 [7#8])).Handed (order 8#8 [7#8] .handed) 8 ∧
    (keyed (handed 7#8 [0#8])).engine.slots[(0 : Fin 8)].state ≠ .empty ∧
    (keyed (handed 7#8 [0#8])).engine.slots[(7 : Fin 8)].state = .empty :=
  ⟨by decide +kernel, rfl, ⟨rfl, rfl, rfl⟩, ⟨rfl, rfl, rfl⟩, by decide +kernel, by decide +kernel⟩

/-! ## Lane orders -/

/-- A lane order in service over that state. -/
def ordering (s : State) (kind : Byte) (args : List Byte) : State :=
  { s with orders := { s.orders with service := some (order kind args .handed) } }

/-- Every readiness input holds. -/
def ready (s : State) : State := { s with orders := { s.orders with ready := ⟨true, true, true, true, true⟩ } }

/-- The steps of a grant are being carried out at the lane. -/
theorem grantInHand_of {s : State} {l : LaneId} (h : s.granting l = true) : grantInHand s l := by
  unfold State.granting at h
  cases d : (s.lane l).dialogue with
  | none => rw [d] at h; cases h
  | some e =>
    refine ⟨e, d, ?_⟩
    rw [d] at h
    simpa [Option.any, Dialogue.granting] using h

theorem noGrant_of {s : State} {l : LaneId} (h : s.granting l = false) : ¬ grantInHand s l := by
  rintro ⟨e, d, k⟩
  unfold State.granting at h
  rw [d] at h
  rcases k with k | k <;> simp [Option.any, Dialogue.granting, k] at h

/-- Lane 0 in CONFIRM, with an order to take it out of service. -/
def cutting (kind : Byte) (args : List Byte) : State := ordering (talking (fun d => { d with phase := .confirm }) .idle) kind args

theorem test_witness_waits :
    (cutting 9#8 [0#8, 0#8]).Settled ∧ (cutting 9#8 [0#8, 0#8]).Handed (order 9#8 [0#8, 0#8] .handed) 9 ∧
    (order 9#8 [0#8, 0#8] .handed).arg 0 1 = LaneId.lane0.toNat ∧
    (order 9#8 [0#8, 0#8] .handed).arg 1 1 = LaneMode.out.code ∧
    grantInHand (cutting 9#8 [0#8, 0#8]) .lane0 ∧ ((cutting 9#8 [0#8, 0#8]).lane .lane0).pc ≠ .fault ∧
    ((cutting 9#8 [0#8, 0#8]).lane .lane0).mode = .entry ∧
    (cutting 10#8 [0#8]).Settled ∧ (cutting 10#8 [0#8]).Handed (order 10#8 [0#8] .handed) 10 ∧
    grantInHand (cutting 10#8 [0#8]) .lane0 :=
  ⟨settled_of (by decide +kernel), ⟨rfl, rfl, rfl⟩, by decide +kernel, by decide +kernel,
    grantInHand_of (by decide +kernel), by decide +kernel, by decide +kernel, settled_of (by decide +kernel),
    ⟨rfl, rfl, rfl⟩, grantInHand_of (by decide +kernel)⟩

theorem test_witness_LaneModeIsSetOrRefused :
    (ready (handed 9#8 [3#8, 3#8])).sys.resetPin = false ∧ (ready (handed 9#8 [3#8, 3#8])).Settled ∧
    (ready (handed 9#8 [3#8, 3#8])).Handed (order 9#8 [3#8, 3#8] .handed) 9 ∧
    (3 < (order 9#8 [4#8, 1#8] .handed).arg 0 1 ∧ 3 < (order 9#8 [0#8, 4#8] .handed).arg 1 1) ∧
    ((order 9#8 [3#8, 3#8] .handed).arg 0 1 = LaneId.lane3.toNat ∧
      (order 9#8 [3#8, 3#8] .handed).arg 1 1 = LaneMode.free.code) ∧
    (State.reset.lane .lane0).mode = .out ∧ State.reset.orders.ready.summary ≠ 31 ∧
    (ready State.reset).orders.ready.summary = 31 ∧ State.reset.emergency.asserted = false ∧
    (State.reset.lane .lane0).pc = .out ∧ (State.reset.lane .lane0).field = .off ∧
    (State.reset.lane .lane0).closedLimit = true ∧ (State.reset.lane .lane0).stroking = none ∧
    (let s := atLane fun x => { x with mode := .entry, pc := .closed, passage := some ⟨none⟩ };
      (s.lane .lane0).mode = .entry ∧ (s.lane .lane0).passage ≠ none) ∧
    (let s := atLane fun x => { x with closedLimit := false, beams := ⟨.clear, .clear, .clear⟩ };
      (s.lane .lane0).closedLimit = false ∧ (s.lane .lane0).beams.middle = .clear) ∧
    (State.reset.lane .lane0).beams.middle = .blocked ∧
    ((atLane fun x => { x with pc := .fault }).lane .lane0).pc = .fault ∧
    { State.reset with emergency := ⟨true, true, 0⟩ }.emergency.asserted = true := by
  refine ⟨rfl, settled_of (by decide +kernel), ⟨rfl, rfl, rfl⟩, ?_⟩
  decide +kernel

/-- A credit that waits until 8 s. -/
def credit (sequence : Word) : Credit := ⟨sequence, 5#64, .entry, .waiting 8000⟩

theorem test_witness_LeavingServiceEndsWhatTheLaneDoes :
    (∀ write : Bool, ∀ mode ∈ [LaneMode.out, LaneMode.free],
      let s := ordering (talking (fun d => { d with writeSent := write }) .idle) 9#8 [0#8, BitVec.ofNat 8 mode.code]
      let d := spoken fun d => { d with writeSent := write }
      let o := order 9#8 [0#8, BitVec.ofNat 8 mode.code] .handed
      s.sys.resetPin = false ∧ s.orders.service = some o ∧ o.stage = .handed ∧ o.kind.toNat = 9 ∧
      o.arg 0 1 = LaneId.lane0.toNat ∧ o.arg 1 1 = mode.code ∧ (s.lane .lane0).mode ≠ mode ∧ (s.lane .lane0).pc ≠ .fault ∧
      s.emergency.asserted = false ∧ (s.lane .lane0).dialogue = some d ∧ (s.lane .lane0).field = .on ∧
      d.outcome = none ∧ s.granting .lane0 = false ∧ d.writeSent = write) ∧
    let s := ordering (atLane fun x => { x with mode := .entry, pc := .opened, credits := [credit 1#16, credit 2#16] })
      9#8 [0#8, 0#8]
    (s.lane .lane0).dialogue = none ∧ (s.lane .lane0).credits.length = 2 ∧ (s.lane .lane0).mode ≠ .out := by
  decide +kernel

theorem test_witness_ResetLaneAndClearLaneCounts :
    let r := ordering (talking id .idle) 10#8 [0#8]
    let c := ordering (atLane fun x => { x with tailgate := 65535 }) 11#8 [0#8]
    r.sys.resetPin = false ∧ r.Settled ∧ r.Handed (order 10#8 [0#8] .handed) 10 ∧ c.Settled ∧
    c.Handed (order 11#8 [0#8] .handed) 11 ∧ (order 10#8 [0#8] .handed).arg 0 1 = LaneId.lane0.toNat ∧
    3 < (order 10#8 [4#8] .handed).arg 0 1 ∧ 3 < (order 11#8 [4#8] .handed).arg 0 1 ∧
    (r.lane .lane0).dialogue = some (spoken id) ∧ (r.lane .lane0).field = .on ∧ (spoken id).outcome = none ∧
    r.granting .lane0 = false ∧ (c.lane .lane0).dialogue = none ∧ (c.lane .lane0).mode ≠ .free ∧
    ((atLane fun x => { x with degraded := true }).lane .lane0).degraded = true ∧
    (c.lane .lane0).closedLimit = true ∧ (c.lane .lane0).stroking = none ∧
    ((atLane fun x => { x with closedLimit := false }).lane .lane0).closedLimit = false ∧
    ((atLane fun x => { x with mode := .free }).lane .lane0).mode = .free ∧
    (c.lane .lane0).beams.middle = .blocked := by
  refine ⟨rfl, settled_of (by decide +kernel), ⟨rfl, rfl, rfl⟩, settled_of (by decide +kernel), ⟨rfl, rfl, rfl⟩, ?_⟩
  decide +kernel

/-- RESET LANE of a lane in SNIFF takes its field OFF and back: the block is written and its stamp advances. -/
theorem test_reset_lane_stamp :
    runs (fun t => (t.lane .lane0).field = .sniff && (t.lane .lane0).stamp = 1#16 &&
        Memory.readNat t.mem 0x50 2 = 1 && Memory.readNat t.mem 0x43 1 = 1 && (t.lane .lane0).rewritten = [])
      [.resetLane]
      (ordering (atLane fun x => { x with mode := .entry, pc := .closed, field := .sniff, drive := .hold .atClosed })
        10#8 [0#8]) = true := by
  decide +kernel

/-- RESET LANE of lane 0 in mode FREE, with that leaf drive and open limit switch. -/
def resettingFree (drive : Drive) (openLimit : Bool) : State :=
  ordering (atLane fun x => { x with mode := .free, pc := .free, drive := drive, openLimit := openLimit }) 10#8 [0#8]

theorem test_witness_resetLaneInFree :
    let holding := resettingFree (.hold .atOpen) true
    let braking := resettingFree (.brake .atOpen 400000) true
    let away := resettingFree (.hold .atOpen) false
    holding.sys.resetPin = false ∧ holding.Settled ∧ holding.Handed (order 10#8 [0#8] .handed) 10 ∧
    braking.Settled ∧ braking.Handed (order 10#8 [0#8] .handed) 10 ∧ (braking.lane .lane0).mode = .free ∧
    (braking.lane .lane0).openLimit = true ∧ (braking.lane .lane0).drive = .brake .atOpen 400000 ∧
    braking.granting .lane0 = false ∧ (holding.lane .lane0).drive = .hold .atOpen ∧
    (away.lane .lane0).mode = .free ∧ (away.lane .lane0).openLimit = false := by
  refine ⟨rfl, settled_of (by decide +kernel), ⟨rfl, rfl, rfl⟩, settled_of (by decide +kernel), ⟨rfl, rfl, rfl⟩, ?_⟩
  decide +kernel

/-- R151: FREE's opening stroke brakes at the open limit, RESET LANE meanwhile starts no stroke (R159), so the BRAKE runs
its 40 ms and then holds. -/
theorem test_reset_lane_brake :
    runs (fun t => (t.lane .lane0).pc = .free && (t.lane .lane0).drive = .brake .atOpen 400000) [.resetLane]
      (resettingFree (.brake .atOpen 400000) true) ∧
    runs (fun t => (t.lane .lane0).pc = .free && (t.lane .lane0).drive = .hold .atOpen) [.resetLane, .brakeEnd .lane0]
      { resettingFree (.brake .atOpen 400000) true with nextTick := 400000 } := by
  decide +kernel

/-- The arguments of READ SIGHTING. -/
def sightArgs (card copy : Nat) : List Byte := leBytes 8 card ++ leBytes 4 copy

/-- A FORGET CARD of card 5 whose UNRESOLVED record is being written. -/
def unresolving : RecordRequest :=
  ⟨resolvedRecord 5#64 part .lane0 .unresolved ⟨0, 0, 0⟩ false, .part, .order⟩

def forgetting : State :=
  let o := order 13#8 (sightArgs 5 0) (.forgetting 5#64)
  { seen (recording unresolving largest) [{ blank 5#64 with uncertainty := some part }] with orders := (serving o).orders }

/-- The record is written first, then the entry goes and the order ends. -/
theorem test_forget :
    runs (fun t => t.screening.table = [{ blank 5#64 with uncertainty := some part }] &&
        t.journal.queue = [unresolving] &&
        t.orders.service = some (order 13#8 (sightArgs 5 0) (.forgetting 5#64)))
      [.forgetCard, .orderEnd]
      (seen (handed 13#8 (sightArgs 5 0)) [{ blank 5#64 with uncertainty := some part }]) ∧
    runs (fun t => t.screening.table = [] && t.journal.written = 1#16 && t.orders.slots[(0 : Fin 8)] = .done)
      [.journalRecordWrite, .orderEnd] forgetting := by
  decide +kernel

theorem test_witness_SightingOrdersReadAndForget :
    let s := seen (handed 12#8 (sightArgs 5 0x300)) [blank 5#64]
    s.sys.resetPin = false ∧ s.Settled ∧ s.MemoryLegal ∧ s.Handed (order 12#8 (sightArgs 5 0x300) .handed) 12 ∧
    (seen (handed 13#8 (sightArgs 5 0)) [blank 5#64]).Handed (order 13#8 (sightArgs 5 0) .handed) 13 ∧
    (∀ copy ∈ ([0, 0x300, 0x3FFB0, 0x301, 0x2FE, 0x3FFB2] : List Nat),
      (order 12#8 (sightArgs 5 copy) .handed).arg 8 4 = copy ∧ (order 12#8 (sightArgs 5 copy) .handed).arg 0 8 = 5) ∧
    (0x3FFB0 + 80 ≤ 0x40000 ∧ 0x40000 < 0x3FFB2 + 80) ∧
    State.reset.orders.held.overlaps ⟨0x300, 80⟩ = false ∧ State.reset.orders.held.overlaps ⟨0x3FFB0, 80⟩ = false ∧
    findSighting [blank 5#64] 5#64 = some (blank 5#64) ∧ findSighting [blank 5#64] 6#64 = none ∧
    (blank 5#64).claim = none ∧ { blank 5#64 with claim := some LaneId.lane0 }.claim ≠ none ∧
    (blank 5#64).uncertainty = none ∧ { blank 5#64 with uncertainty := some part }.uncertainty = some part := by
  refine ⟨rfl, settled_of (by decide +kernel), rfl, ⟨rfl, rfl, rfl⟩, ⟨rfl, rfl, rfl⟩, ?_⟩
  decide +kernel

theorem test_witness_forgetting :
    let o := order 13#8 (sightArgs 5 0) (.forgetting 5#64)
    forgetting.sys.resetPin = false ∧ forgetting.MemoryLegal ∧ forgetting.orders.service = some o ∧
    o.stage = .forgetting 5#64 ∧ forgetting.journal.queue = unresolving :: [] ∧
    forgetting.journal.ring = some largest ∧ unresolving.waiter = .order ∧ unresolving.holder = .part ∧
    forgetting.journal.writeDue ≤ forgetting.nextTick ∧ ringInFree forgetting ∧
    findSighting [{ blank 5#64 with uncertainty := some part }] 5#64 =
      some { blank 5#64 with uncertainty := some part } :=
  ⟨rfl, rfl, rfl, rfl, rfl, rfl, rfl, rfl, by decide +kernel, recording_inFree unresolving,
    by decide +kernel⟩

/-! ## The Presence Scanner and the card link -/

/-- The reset state with that scanner. -/
def scans (s : State) (sc : Scanner) : State := { s with scanner := sc }

theorem test_witness_ScannerMeasuresInRounds :
    let s := scans State.reset ⟨some ⟨0, 10000⟩, [], none⟩
    let t := scans State.reset ⟨none, [], some ⟨.lane0, false, 10000, false⟩⟩
    (State.reset.Settled ∧ State.reset.scanner.measuring = none ∧ State.reset.scanner.round = none) ∧
    (s.sys.resetPin = false ∧ s.Settled ∧ s.scanner.measuring = none ∧ s.scanner.round = some ⟨0, 10000⟩ ∧
      0 + 10000 ≤ s.nextTick) ∧
    t.Settled ∧ t.scanner.measuring = some ⟨.lane0, false, 10000, false⟩ ∧ 10000 ≤ t.nextTick :=
  ⟨⟨settled_of (by decide +kernel), rfl, rfl⟩, ⟨rfl, settled_of (by decide +kernel), rfl, rfl, by decide +kernel⟩,
    settled_of (by decide +kernel), rfl, by decide +kernel⟩

/-- A carrier of increment 2^27 is high after an odd number of clocks; the antenna drive stands low in the gap of a 0 bit and high
past it, and at its off level without a carrier. -/
theorem test_antenna :
    (Carrier.level ⟨0x8000000, .normal, 0⟩ 4 = true ∧ Carrier.level ⟨0x8000000, .normal, 0⟩ 2 = false) ∧
    (inGapAt [true, false] false 0 = false ∧ inGapAt [true, false] false 79 = true ∧
      inGapAt [true, false] false 98 = false ∧ inGapAt [true, false] true 157 = true ∧
      inGapAt [true, false] false 160 = false) ∧
    (∀ p ∈ [Polarity.normal, .inverted],
      (atLane fun x => { x with carrier := some ⟨67408000, p, 0⟩ }).antennaHigh .lane0 5 = (p = .normal)) ∧
    State.reset.antennaHigh .lane0 5 = false := by
  decide +kernel

theorem test_witness_antennaRules :
    (State.reset.lane .lane0).carrier = none ∧
    ((atLane fun x => { x with carrier := some ⟨67408000, .inverted, 0⟩ }).lane .lane0).carrier =
      some ⟨67408000, .inverted, 0⟩ ∧
    (∀ due c half wait, (State.reset.lane .lane0).link ≠ .sending due c half wait) ∧
    (625 * 0 ≤ 8 * 0 ∧ 8 * 0 < 625 * (0 + 1)) ∧ (625 * 1 ≤ 8 * 79 ∧ 8 * 79 < 625 * (1 + 1)) := by
  refine ⟨rfl, rfl, ?_, by decide, by decide⟩
  intro due c half wait h
  cases h

/-- A conversion at lane 0 that ends now. -/
def converting (left : Bool) (f : Lane → Lane) : State :=
  scans (atLane f) ⟨none, [.lane1], some ⟨.lane0, true, 10000, left⟩⟩

theorem test_witness_ReadingsMoveTheBaseline :
    (converting false id).sys.resetPin = false ∧ (converting false id).Settled ∧
    (converting false id).scanner.measuring = some ⟨.lane0, true, 10000, false⟩ ∧ 10000 ≤ (converting false id).nextTick ∧
    LaneId.lane0 ∉ (converting false id).scanner.rest ∧ ((converting false id).lane .lane0).learning = true ∧
    (converting true id).Settled ∧ (converting true id).scanner.measuring = some ⟨.lane0, true, 10000, true⟩ ∧
    (let s := converting false fun x => { x with learning := false };
      s.Settled ∧ (s.lane .lane0).learning = false ∧
      ((min 1023 ((523 * 256 + 128) / 256) : Nat) - ((s.lane .lane0).baseline : Int)).natAbs < s.params.detectDelta ∧
      ((min 1023 ((501 * 256 + 128) / 256) : Nat) - ((s.lane .lane0).baseline : Int)).natAbs < s.params.detectDelta) :=
  ⟨rfl, settled_of (by decide +kernel), rfl, by decide +kernel, by decide +kernel, rfl, settled_of (by decide +kernel), rfl,
    settled_of (by decide +kernel), rfl, by decide +kernel, by decide +kernel⟩

/-- The open room of the journal is that number. -/
def roomy (s : State) (room : Nat) : State :=
  { s with journal := { s.journal with ring := some ⟨0x300, 64, 1, 0⟩, reserved := 64 - room } }

theorem test_witness_DetectionStartsADialogue :
    let s := roomy (converting false fun x =>
      { x with learning := false, mode := .entry, pc := .closed, field := .sniff, credits := [credit 1#16, credit 2#16] })
    (s 4).sys.resetPin = false ∧ (s 4).Settled ∧ (s 4).scanner.measuring = some ⟨.lane0, true, 10000, false⟩ ∧
    10000 ≤ (s 4).nextTick ∧ LaneId.lane0 ∉ (s 4).scanner.rest ∧ ((s 4).lane .lane0).learning = false ∧
    (s 4).params.detectDelta ≤ (((min 1023 ((524 * 256 + 128) / 256) : Nat) : Int) - ((s 4).lane .lane0).baseline).natAbs ∧
    (((s 4).lane .lane0).pc = .closed ∧ ((s 4).lane .lane0).dialogue = none ∧ ((s 4).lane .lane0).credits.length < 3 ∧
      4 ≤ (s 4).journal.openRoom) ∧
    (s 3).Settled ∧ ¬ 4 ≤ (s 3).journal.openRoom :=
  ⟨rfl, settled_of (by decide +kernel), rfl, by decide +kernel, by decide +kernel, rfl, by decide +kernel,
    by decide +kernel, settled_of (by decide +kernel), by decide +kernel⟩

/-- Lane 0 under a removal watch. -/
def watching (w : RemovalWatch) (link : LinkActivity) : State :=
  atLane fun x => { x with mode := .entry, pc := .closed, field := .on, link := link, watch := some w }

theorem test_witness_FramesBeginAfterTheNoiseMeasurement :
    (let s := talking id (.hold 10000 50);
      s.sys.resetPin = false ∧ 10000 ≤ s.nextTick ∧ (s.lane .lane0).link = .hold 10000 50 ∧
      (s.lane .lane0).dialogue = some (spoken id)) ∧
    (let s := talking id (.noise 10000 .auth 50);
      (s.lane .lane0).link = .noise 10000 .auth 50 ∧ (s.lane .lane0).dialogue = some (spoken id) ∧ CardCommand.auth ≠ .probe) ∧
    (let s := watching ⟨0, none, false⟩ (.noise 10000 .probe 50);
      (s.lane .lane0).link = .noise 10000 .probe 50 ∧ (s.lane .lane0).dialogue = none ∧
      (s.lane .lane0).watch = some ⟨0, none, false⟩) ∧
    (let s := talking id (.sending 10000 .select false 40000);
      s.Settled ∧ (s.lane .lane0).link = .sending 10000 .select false 40000 ∧ 10000 ≤ s.nextTick) ∧
    (let s := talking id (.waiting 0 true);
      s.Settled ∧ (s.lane .lane0).link = .waiting 0 true ∧ s.timeBase ≤ 0) :=
  ⟨⟨rfl, by decide +kernel, rfl, rfl⟩, ⟨rfl, rfl, by decide⟩, ⟨rfl, rfl, rfl⟩,
    ⟨settled_of (by decide +kernel), rfl, by decide +kernel⟩, settled_of (by decide +kernel), rfl, by decide +kernel⟩

/-- A threshold taken within a measurement leaves it to the one in force as it began. -/
theorem test_noise_threshold :
    runs (fun t => (t.lane .lane0).noisyRun = 1) [.noiseMeasurementEnd .lane0 60#8]
      (let s := talking id (.noise 2000 .auth 50)
       { s with params := { s.params with noiseThreshold := 255 } }) = true := by
  decide +kernel

/-- A dialogue whose command in hand has been sent that often. -/
def sentOften (n : Nat) (write : Bool) (d : Dialogue) : Dialogue :=
  { d with command := some .select, sendings := n, writeSent := write }

theorem test_witness_UnansweredCommandsAreSentAgain :
    (∀ n ∈ ([1, 2, 3] : List Nat), ∀ write half : Bool,
      let s := talking (sentOften n write) (.waiting 10000 half)
      s.sys.resetPin = false ∧ (s.lane .lane0).dialogue = some (spoken (sentOften n write)) ∧
      (spoken (sentOften n write)).command = some .select ∧ (s.lane .lane0).link = .waiting 10000 half ∧
      10000 ≤ s.nextTick ∧ (spoken (sentOften n write)).sendings = n) ∧
    answerEnds (talking (sentOften 1 false) (.receiving 0 false)) .lane0 14 10000 ∧
    answerEnds (talking (sentOften 1 false) (.receiving 0 true)) .lane0 6 10000 ∧
    goodAnswer .select (spoken (sentOften 1 false)).blockSize ⟨some .selectAnswer, List.replicate 14 0#8⟩ = false ∧
    goodAnswer .select (spoken (sentOften 1 false)).blockSize ⟨none, [0#8, 0#8, 0#8]⟩ = false ∧
    receptionLength (.single ⟨none, List.replicate 14 0#8⟩) = 14 ∧ receptionLength (.overlapped 14) = 14 ∧
    (spoken (sentOften 1 false)).phase = .select ∧ (spoken (sentOften 1 false)).known = false ∧
    { spoken (sentOften 1 false) with phase := .read }.phase ≠ .select ∧
    ∀ owed : Bool, ((watching ⟨1, none, owed⟩ (.receiving 0 false)).lane .lane0).watch = some ⟨1, none, owed⟩ ∧
      ((watching ⟨1, none, owed⟩ (.receiving 0 false)).lane .lane0).dialogue = none := by
  refine ⟨by decide +kernel, ⟨by decide +kernel, 0, false, rfl, by decide⟩, ⟨by decide +kernel, 0, true, rfl, by decide⟩, ?_⟩
  decide +kernel

/-- A frame of that kind and fields with its frame check. -/
def framed (kind : FrameKind) (fields : List Byte) : AnswerFrame :=
  ⟨some kind, 0#8 :: fields ++ leBytes 2 (frameCheck (0#8 :: fields)).toNat⟩

/-- A dialogue that waits for the ack of its write, and expects counter 813. -/
def writing (d : Dialogue) : Dialogue :=
  { d with
    command := some (.writePurse [1#8])
    sendings := 1
    phase := .write
    writeSent := true
    identity := some ⟨5#64, 32, 7⟩
    known := true
    image := some (purseOf 100 813 0#8)
    expected := some 813 }

/-- A dialogue that has sent that command once, to a card of that block size. -/
def saying (c : CardCommand) (size : Nat) (d : Dialogue) : Dialogue :=
  { d with command := some c, sendings := 1, identity := some ⟨5#64, size, 7⟩, challenge := some 9#64 }

/-- The identity answer of a card. -/
def identity (card size : Nat) : AnswerFrame := framed .selectAnswer (leBytes 8 card ++ [BitVec.ofNat 8 size, 7#8])

/-- A good answer keeps the identity and goes on to IDENTIFY; a bad block size of a valid number is journaled FORMAT; the
block after the first is asked for. -/
theorem test_answers :
    runs (fun t => (t.lane .lane0).link = .noise (15 * 625 + 2000) (.identify 5#64) 50 && t.journal.queue = [])
      [.answerReceived .lane0 160#8 (.single (identity 5 32))] (talking (saying .select 0) (.receiving 0 false)) ∧
    runs (fun t => t.journal.queue.map (fun q => q.record.result) = [.format] && t.timeBase = 15 * 625)
      [.answerReceived .lane0 160#8 (.single (identity 5 64))] (talking (saying .select 0) (.receiving 0 false)) ∧
    runs (fun t => (t.lane .lane0).lastResult = .format && t.journal.queue = [])
      [.answerReceived .lane0 160#8 (.single (identity 0 32))] (talking (saying .select 0) (.receiving 0 false)) ∧
    runs (fun t => (t.lane .lane0).link = .noise (22 * 625 + 2000) (.read 1) 50)
      [.answerReceived .lane0 160#8 (.single (framed .readAnswer (0#8 :: List.replicate 16 3#8)))]
      (later 1 <| talking (saying (.read 0) 16) (.receiving 0 false)) := by
  decide +kernel

theorem test_witness_PurseAckConfirmsOrLeavesUncertain :
    (let s := seen (talking writing (.receiving 0 false)) [blank 5#64]
      let good := framed .purseAck (leBytes 2 813)
      let old := framed .purseAck (leBytes 2 812)
      s.sys.resetPin = false ∧ (s.lane .lane0).dialogue = some (spoken writing) ∧
      (spoken writing).command = some (.writePurse [1#8]) ∧ (s.lane .lane0).link = .receiving 0 false ∧
      7 * 625 ≤ s.nextTick ∧ good.bytes.length = 5 ∧ old.bytes.length = 5 ∧
      (spoken writing).image = some (purseOf 100 813 0#8) ∧
      goodAnswer (.writePurse [1#8]) (spoken writing).blockSize good = true ∧
      (spoken writing).expected = some (leNat ((good.bytes.drop 1).take 2)) ∧
      goodAnswer (.writePurse [1#8]) (spoken writing).blockSize old = true ∧
      (spoken writing).expected ≠ some (leNat ((old.bytes.drop 1).take 2)) ∧
      findSighting s.screening.table (spoken writing).card = some (blank 5#64)) ∧
    (∀ f ∈ [identity 5 16, identity 5 32, identity 5 64, identity 0 32, identity (2 ^ 64 - 1) 32],
      goodAnswer .select 0 f = true ∧ f.bytes.length = 13) ∧
    (goodAnswer (.identify 5#64) 32 (framed .identifyAnswer (leBytes 8 5)) = true ∧
      goodAnswer .auth 32 (framed .authAnswer (leBytes 8 77)) = true ∧
      goodAnswer (.read 1) 32 (framed .readAnswer (1#8 :: List.replicate 32 0#8)) = true) ∧
    (spoken (saying .auth 32)).challenge = some 9#64 ∧ (spoken (saying (.read 1) 32)).identity = some ⟨5#64, 32, 7⟩ ∧
    (spoken (saying .select 0)).outstanding = none ∧ ((0 + 1) * 32 < 64 ∧ 64 ≤ (1 + 1) * 32 ∧ 64 ≤ (3 + 1) * 16) := by
  refine ⟨?_, ?_, ?_, ?_⟩
  · decide +kernel
  · decide +kernel
  · decide +kernel
  · decide +kernel

/-- That dialogue with its pricing. -/
def unsure (d : Dialogue) : Dialogue := { writing d with pricing := some ⟨5, 95, StageFlags.clear, 1, 0⟩ }

/-- The uncertainty part that dialogue leaves. -/
def doubt : Uncertainty := ⟨0, 0#64, 813, 0#64, 5, .lane0, .entry, 0⟩

/-- An UNCERTAIN end attaches the part and asks for its record, before the DROPPED record of a credit that ends with it;
an abort at a claim waits for the Screening Unit. -/
theorem test_witness_uncertain :
    (let d := spoken unsure;
      let s := seen (talking unsure (.receiving 0 false)) [blank 5#64];
      findSighting s.screening.table d.card = some (blank 5#64) ∧ d.image = some (purseOf 100 813 0#8) ∧
      d.expected = some (purseCounter (purseOf 100 813 0#8)) ∧ d.pricing = some ⟨5, 95, StageFlags.clear, 1, 0⟩ ∧
      d.outstanding = none ∧ d.known = true ∧ d.writeSent = true ∧
      runs (fun t => t.screening.table = [{ blank 5#64 with uncertainty := some doubt }] &&
          t.journal.queue.map (fun q => (q.record.kind, q.record.charge, q.record.balanceAfter)) = [(.uncertain, 5, 95)])
        [.answerReceived .lane0 160#8 (.single (framed .purseAck (leBytes 2 812)))] s) ∧
    runs (fun t => t.screening.table = [{ blank 5#64 with uncertainty := some doubt, mark := .none }] &&
        t.journal.queue.map (fun q => q.record.kind) = [.uncertain, .dropped])
      [.setLaneMode]
      (let s := seen (talking unsure .idle) [{ blank 5#64 with mark := .pending .lane0 1#16 }];
        ordering (s.updLane .lane0 fun x => { x with credits := [⟨1#16, 5#64, .entry, .waiting 8000⟩] }) 9#8 [0#8, 0#8]) ∧
    runs (fun t => t.journal.queue = [] &&
        (t.lane .lane0).dialogue.any (fun d => d.outcome = some .aborted && d.outstanding = some (.claim 1 ⟨0, 0, 0⟩)))
      [.setLaneMode]
      (ordering (talking (fun d => { d with known := true, outstanding := some (.claim 1 ⟨0, 0, 0⟩) }) .idle) 9#8
        [0#8, 0#8]) ∧
    Outstanding.atScreening (.claim 1 ⟨0, 0, 0⟩) = true := by
  decide +kernel

/-! ## Grants and the shared blocks -/

/-- The record of a grant, which lane 0's dialogue waits for. -/
def grantRequest : RecordRequest :=
  ⟨Record.blank .fareEntry .lane0 .entry .accept 5#64 ⟨0, 0, 0⟩, .dialogue .lane0, .grant .lane0⟩

/-- A dialogue in CONFIRM. -/
def confirming (d : Dialogue) : Dialogue := { writing d with phase := .confirm, outstanding := some .journal, claimHeld := true }

/-- Lane 0 with that dialogue, its record at the front of the queue. -/
def granting (f : Lane → Lane) : State :=
  let s := seen (talking confirming .idle) [blank 5#64]
  let s := s.setLane .lane0 (f (s.lane .lane0))
  { s with
    journal :=
      { s.journal with ring := some ⟨0x300, 64, 1, 0⟩, reserved := 4, queue := [grantRequest], writeDue := 10000 } }

theorem test_witness_GrantHandsTheCreditOver :
    (let s := granting id;
      s.sys.resetPin = false ∧ s.journal.queue = grantRequest :: [] ∧ s.journal.ring = some ⟨0x300, 64, 1, 0⟩ ∧
      grantRequest.waiter = .grant .lane0 ∧ grantRequest.holder = .dialogue .lane0 ∧
      (s.lane .lane0).dialogue = some (spoken confirming) ∧ (spoken confirming).reserved ≤ s.journal.reserved ∧
      0 < (spoken confirming).reserved ∧ s.journal.writeDue ≤ s.nextTick ∧ (s.lane .lane0).pc = .closed ∧
      (s.lane .lane0).approachBlocked = true ∧ (s.lane .lane0).passage = none ∧ (s.lane .lane0).field = .on ∧
      findSighting s.screening.table (spoken confirming).card = some (blank 5#64)) ∧
    (let s := granting fun x => { x with beams := ⟨.clear, .clear, .clear⟩, pc := .opened };
      (s.lane .lane0).dialogue = some (spoken confirming) ∧ (s.lane .lane0).approachBlocked = false ∧
      (s.lane .lane0).pc = .opened) ∧
    (let s := granting fun x => { x with passage := some ⟨none⟩, pc := .closing };
      (s.lane .lane0).dialogue = some (spoken confirming) ∧ (s.lane .lane0).passage ≠ none ∧
      (s.lane .lane0).pc = .closing) := by
  decide +kernel

/-- A grant with a SET LANE MODE OUT that waits for it. -/
def grantThenOut : State :=
  let s := ordering (granting id) 9#8 [0#8, 0#8]
  { s with deferred := [.setLaneMode] }

/-- The order waits while the grant is in hand, and is taken as its record is written. -/
theorem test_deferred :
    runs (fun t => t.deferred = [.setLaneMode] && (t.lane .lane0).mode = .entry && (t.lane .lane0).dialogue.isSome)
      [.setLaneMode] (ordering (granting id) 9#8 [0#8, 0#8]) ∧
    runs (fun t => t.deferred = [] && (t.lane .lane0).mode = .out && (t.lane .lane0).lastResult = .accept &&
        (t.lane .lane0).credits = [] && t.journal.queue.map (fun q => q.record.kind) = [.dropped] &&
        t.journal.written = 1#16 && (t.lane .lane0).stamp = 2#16 && Memory.readNat t.mem 0x50 2 = 2)
      [.journalRecordWrite] grantThenOut := by
  decide +kernel

theorem test_witness_deferred :
    (granting id).deferred = [] ∧ grantThenOut.deferred = [.setLaneMode] ∧ grantThenOut.sys.resetPin = false ∧
    grantThenOut.Handed (order 9#8 [0#8, 0#8] .handed) 9 ∧
    (order 9#8 [0#8, 0#8] .handed).arg 0 1 = LaneId.lane0.toNat ∧ (order 9#8 [0#8, 0#8] .handed).arg 1 1 = 0 ∧
    (grantThenOut.lane .lane0).mode ≠ .out ∧ (grantThenOut.lane .lane0).pc ≠ .fault ∧
    grantThenOut.emergency.asserted = false ∧ grantThenOut.journal.queue = grantRequest :: [] ∧
    grantThenOut.journal.ring = some ⟨0x300, 64, 1, 0⟩ ∧ (grantThenOut.lane .lane0).dialogue = some (spoken confirming) :=
  ⟨rfl, rfl, rfl, ⟨rfl, rfl, rfl⟩, by decide +kernel, by decide +kernel, by decide +kernel, by decide +kernel, rfl, rfl,
    rfl, rfl⟩

/-- A dialogue of a known card whose deadline is now. -/
def overdue (known write : Bool) (d : Dialogue) : Dialogue :=
  { d with identity := some ⟨5#64, 32, 7⟩, known := known, writeSent := write, deadline := 0, outstanding := some .engine }

theorem test_witness_DeadlineEndsADialogueBeforeItsWrite :
    (∀ known : Bool,
      let s := talking (overdue known false) .idle
      let d := spoken (overdue known false)
      s.sys.resetPin = false ∧ (s.lane .lane0).dialogue = some d ∧ d.outcome = none ∧ d.writeSent = false ∧
      s.granting .lane0 = false ∧ d.deadline ≤ s.instant ∧ d.known = known ∧ d.outstanding = some .engine ∧
      Outstanding.engine.atScreening = false) ∧
    (talking (overdue true true) .idle).Settled ∧ (spoken (overdue true true)).writeSent = true ∧
    (cutting 9#8 []).Settled ∧ grantInHand (cutting 9#8 []) .lane0 ∧
    (talking id .idle).Settled ∧ (talking id .idle).instant < (spoken id).deadline := by
  refine ⟨by decide +kernel, settled_of (by decide +kernel), by decide +kernel, settled_of (by decide +kernel),
    grantInHand_of (by decide +kernel), settled_of (by decide +kernel), by decide +kernel⟩

/-- A dialogue that waits for the engine. -/
def asking (d : Dialogue) : Dialogue := { d with identity := some ⟨5#64, 32, 7⟩, known := true, outstanding := some .engine }

/-- The engine with an operation for lane 0 that completes now. -/
def serviced (operation : AeOperation) (store : WorkingStore) (tag : Nat) : State :=
  let s := talking asking .idle
  { s with engine := { s.engine with service := some ⟨.lane0, tag, operation, 10000, store⟩ } }

/-- A number read back from its bytes. -/
theorem leNat_leBytes : ∀ n v : Nat, v < 256 ^ n → leNat (leBytes n v) = v
  | 0, v, h => by simp only [Nat.pow_zero, Nat.lt_one_iff] at h; simp [leNat, leBytes, h]
  | n + 1, v, h => by
    have k : v / 256 < 256 ^ n := by
      rw [Nat.div_lt_iff_lt_mul (by decide)]
      rw [Nat.pow_succ] at h
      exact h
    simp only [leNat, leBytes, leNat_leBytes n (v / 256) k, BitVec.toNat_ofNat]
    omega

/-- A record whose check value is that number. -/
def checked (image : List Byte) (check : CheckValue) : List Byte := image.take 24 ++ leBytes 8 check.toNat

theorem check_of_checked (check : CheckValue) :
    BitVec.ofNat 64 (fieldAt (checked (List.replicate 24 0#8) check) 24 8) = check := by
  have : fieldAt (checked (List.replicate 24 0#8) check) 24 8 = leNat (leBytes 8 check.toNat) := by
    simp [fieldAt, checked, leBytes]
  rw [this, leNat_leBytes 8 _ (by have := check.isLt; simpa using this)]
  simp

theorem take_of_checked (check : CheckValue) : (checked (List.replicate 24 0#8) check).take 24 = List.replicate 24 0#8 := by
  simp [checked]

/-- Another value. -/
theorem add_one_ne (x : CheckValue) : x ≠ x + 1#64 := by bv_omega

theorem test_witness_EngineDeliversItsResult :
    (∀ store ∈ [WorkingStore.key 5#128, .keyRetired, .keyUnknown],
      let s := serviced (.derive 5#64 7) store 0
      s.sys.resetPin = false ∧ s.engine.service = some ⟨.lane0, 0, .derive 5#64 7, 10000, store⟩ ∧ 10000 ≤ s.nextTick ∧
      s.engine.requests = [] ∧ (s.lane .lane0).dialogue = some (spoken asking) ∧ (spoken asking).tag = 0 ∧
      (spoken asking).outcome = none ∧ (spoken asking).outstanding = some .engine) ∧
    (spoken asking).tag ≠ 1 ∧
    (serviced (.authCheck (authAnswerOf 5#128 9#64 5#64) 9#64 5#64) (.key 5#128) 0).engine.service =
      some ⟨.lane0, 0, .authCheck (authAnswerOf 5#128 9#64 5#64) 9#64 5#64, 10000, .key 5#128⟩ ∧
    authAnswerOf 5#128 9#64 5#64 ≠ authAnswerOf 5#128 9#64 5#64 + 1#64 ∧
    (∀ k p, p = checked (List.replicate 24 0#8) (productCheckOf k (List.replicate 24 0#8)) →
      productCheckOf k p = productCheck p) ∧
    (∀ k p, p = checked (List.replicate 24 0#8) (purseCheckOf k (List.replicate 24 0#8)) →
      purseCheckOf k p = purseCheck p) ∧
    (∀ k p, p = checked (List.replicate 24 0#8) (productCheckOf k (List.replicate 24 0#8) + 1#64) →
      productCheckOf k p ≠ productCheck p) ∧
    (serviced (.seal (purseOf 0 0 0#8)) (.key 5#128) 0).engine.service =
      some ⟨.lane0, 0, .seal (purseOf 0 0 0#8), 10000, .key 5#128⟩ := by
  refine ⟨by decide +kernel, by decide +kernel, rfl, add_one_ne _, ?_, ?_, ?_, rfl⟩
  · intro k p h
    rw [h, productCheck, check_of_checked, productCheckOf, productCheckOf, take_of_checked]
    simp
  · intro k p h
    rw [h, purseCheck, check_of_checked, purseCheckOf, purseCheckOf, take_of_checked]
    simp
  · intro k p h
    rw [h, productCheck, check_of_checked]
    have : productCheckOf k (checked (List.replicate 24 0#8) (productCheckOf k (List.replicate 24 0#8) + 1#64)) =
        productCheckOf k (List.replicate 24 0#8) := by
      rw [productCheckOf, take_of_checked, productCheckOf]
      simp
    rw [this]
    exact add_one_ne _

/-- Three requests wait behind the operation: the earliest deadline goes first, the lower lane among equals. -/
def queued : State :=
  let s := serviced (.derive 5#64 7) .keyUnknown 0
  { s with engine := { s.engine with
    requests := [⟨.lane3, 0, .derive 6#64 7, 90⟩, ⟨.lane2, 0, .derive 7#64 7, 80⟩, ⟨.lane1, 0, .derive 8#64 7, 80⟩] } }

theorem test_grants_waiting_request :
    runs (fun t => t.engine.service.any (fun w => w.lane = .lane1) &&
      t.engine.requests.map (fun r => r.lane) = [.lane3, .lane2] && (t.lane .lane0).dialogue.any (fun d => d.outcome = some .keyUnknown))
      [.aeOperationComplete] queued ∧
    queued.engine.requests ≠ [] ∧ queued.sys.resetPin = false ∧ 10000 ≤ queued.nextTick := by
  decide +kernel

/-- The engine with those slots, lane 1's request waiting with that operation, and lane 1 in a dialogue with a card key. -/
def awaiting (slots : List KeySlot) (operation : AeOperation) : State :=
  let s := queued.setLane .lane1 { State.reset.lane .lane1 with dialogue := some { spoken asking with cardKey := some 9#128 } }
  { s with engine :=
    { s.engine with
      requests := [⟨.lane1, 0, operation, 80⟩]
      slots := Vector.ofFn fun i => slots.getD i.val KeySlot.blank } }

/-- The working store of the request granted at the completion: one LOADED slot, RETIRED slots only, no slot, and the
dialogue's card key. -/
theorem test_working_store :
    (∀ c ∈ [([⟨.retired, 7, 1#128⟩, ⟨.loaded, 7, 2#128⟩], AeOperation.derive 8#64 7, WorkingStore.key 2#128),
        ([⟨.retired, 7, 1#128⟩, ⟨.loaded, 6, 2#128⟩], .derive 8#64 7, .keyRetired),
        ([⟨.loaded, 6, 2#128⟩], .derive 8#64 7, .keyUnknown), ([], .seal [], .key 9#128)],
      runs (fun t => t.engine.service.any fun w => w.lane = .lane1 && w.store = c.2.2) [.aeOperationComplete]
        (awaiting c.1 c.2.1)) ∧
    ((awaiting [] (.seal [])).lane .lane1).dialogue = some { spoken asking with cardKey := some 9#128 } := by
  decide +kernel

/-- A dialogue whose claim answers now. -/
def claiming (d : Dialogue) : Dialogue :=
  { d with identity := some ⟨5#64, 32, 7⟩, known := true, outstanding := some (.claim 10000 ⟨0, 0, 0⟩) }

/-- 512 entries, none of them card 5's, the first with that claim and the rest claimed. -/
def crowd (first : Option LaneId) : List Sighting :=
  { blank 1000#64 with claim := first } ::
    (List.range 511).map fun i => { blank (BitVec.ofNat 64 (1001 + i)) with claim := some .lane1 }

theorem test_witness_ClaimHoldsConcurrentOrBusy :
    (let s := seen (talking claiming .idle) [];
      s.sys.resetPin = false ∧ (s.lane .lane0).dialogue = some (spoken claiming) ∧
      (spoken claiming).outstanding = some (.claim 10000 ⟨0, 0, 0⟩) ∧ (spoken claiming).outcome = none ∧
      (spoken claiming).identity = some ⟨5#64, 32, 7⟩ ∧ 10000 ≤ s.nextTick ∧
      findSighting s.screening.table 5#64 = none ∧ s.screening.table.length < 512) ∧
    findSighting ((crowd none).drop 1) 5#64 = none ∧ ((crowd none).drop 1).length < 512 ∧
    (findSighting [blank 5#64] 5#64 = some (blank 5#64) ∧ (blank 5#64).claim = none) ∧
    (let e := { blank 5#64 with claim := some LaneId.lane0 };
      findSighting [e] 5#64 = some e ∧ e.claim = some .lane0) ∧
    (∀ n ∈ ([0, 2, 3] : List Nat),
      let e := { blank 5#64 with claim := some LaneId.lane1, suspect := n }
      findSighting [e] 5#64 = some e ∧ e.claim = some .lane1 ∧ LaneId.lane1 ≠ .lane0 ∧ e.suspect = n) ∧
    findSighting (crowd (some .lane2)) 5#64 = none ∧ 512 ≤ (crowd (some .lane2)).length ∧
    (∀ e ∈ crowd (some .lane2), e.isProtected = true) ∧
    findSighting (crowd none) 5#64 = none ∧ 512 ≤ (crowd none).length ∧ ∃ e ∈ crowd none, e.isProtected = false := by
  decide +kernel

/-- That dialogue, with its claim asked for at day 9 and its outcome decided. -/
def tooLate (d : Dialogue) : Dialogue :=
  { claiming d with outstanding := some (.claim 10000 ⟨9, 8, 7⟩), outcome := some .tooSlow }

/-- A new entry takes the request's station time; a claim answered after the outcome was decided does its work, and
RELEASE begins with the REFUSED record. -/
theorem test_claim_after_the_outcome :
    runs (fun t =>
        t.screening.table = [{ blank 5#64 with claim := some .lane0, touched := ⟨9, 8, 7⟩ }] &&
        t.journal.queue.map (fun q => q.record.result) = [.tooSlow] && t.engine.service.isNone &&
        (t.lane .lane0).dialogue.any (fun d => d.phase = .release && d.claimHeld))
      [.claimAnswer .lane0] (seen (talking tooLate .idle) []) ∧
    runs (fun t => t.journal.queue.map (fun q => (q.record.kind, q.record.result)) =
          [(.alert, .concurrent), (.refused, .tooSlow)] &&
        t.screening.table.map (fun e => e.suspect) = [3])
      [.claimAnswer .lane0]
      (seen (talking tooLate .idle) [{ blank 5#64 with claim := some .lane1, suspect := 2 }]) ∧
    (spoken tooLate).outcome = some .tooSlow ∧ (spoken tooLate).known = true ∧
    (spoken tooLate).identity = some ⟨5#64, 32, 7⟩ := by
  decide +kernel

/-- 510 protected entries with three that may go: a suspect one, one marked USED, one marked NONE, in that order. -/
def mixed (none_ : List Sighting) : List Sighting :=
  ((crowd none).drop 1).take 509 ++
    [{ blank 2000#64 with suspect := 1 }, { blank 2001#64 with mark := .used .entry 0 }] ++ none_

theorem test_witness_eviction :
    (∀ t ∈ [mixed [blank 2002#64], mixed [blank 2002#64, blank 2003#64]],
      findSighting t 5#64 = none ∧ 512 ≤ t.length ∧
      t = mixed [] ++ blank 2002#64 :: t.drop 512 ∧
      (∀ x ∈ t, x.isProtected = false → evictionRank (blank 2002#64) ≤ evictionRank x) ∧
      ∀ x ∈ mixed [], x.isProtected = false → evictionRank (blank 2002#64) < evictionRank x) ∧
    (blank 2002#64).isProtected = false ∧
    (let s := { seen (talking claiming .idle) [blank 5#64] with
        orders := (serving (order 13#8 (sightArgs 5 0) (.forgetting 5#64))).orders };
      s.Settled ∧ s.orders.service = some (order 13#8 (sightArgs 5 0) (.forgetting 5#64)) ∧
      (order 13#8 (sightArgs 5 0) (.forgetting 5#64)).stage = .forgetting 5#64) := by
  refine ⟨by decide +kernel, by decide +kernel, settled_of (by decide +kernel), rfl, rfl⟩

theorem test_witness_ScreenChecksComeInOrder :
    let e := { blank 5#64 with lastImage := some ⟨812, 3#64⟩ }
    (∃ x, (some ⟨5#64, 1, 0⟩ : Option DenyEntry) = some x ∧ x.kind = 1) ∧
    (∃ x, (some ⟨5#64, 2, 813⟩ : Option DenyEntry) = some x ∧ x.kind = 2 ∧ 812 < x.floor) ∧
    (¬ (∃ x, (some ⟨5#64, 2, 812⟩ : Option DenyEntry) = some x ∧ x.kind = 1) ∧
      ¬ ∃ x, (some ⟨5#64, 2, 812⟩ : Option DenyEntry) = some x ∧ x.kind = 2 ∧ 812 < x.floor) ∧
    { e with suspect := 3 }.suspect = 3 ∧ e.suspect ≠ 3 ∧ { e with uncertainty := some part }.uncertainty = some part ∧
    (2 = part.newCounter ∧ 1#64 = part.newCheck ∧ part.direction = .entry) ∧
    (1 = part.oldCounter ∧ 0#64 = part.oldCheck ∧ 1 ≠ part.newCounter) ∧
    (3 ≠ part.newCounter ∧ 3 ≠ part.oldCounter ∧ part.oldCounter ≤ 3) ∧
    (0 ≠ part.newCounter ∧ 0 ≠ part.oldCounter ∧ 0 < part.oldCounter) ∧ part.direction ≠ .exit ∧ e.uncertainty = none ∧
    (∃ i, e.lastImage = some i ∧ (811 < i.counter ∨ 811 = i.counter ∧ 3#64 ≠ i.check)) ∧
    (∃ i, e.lastImage = some i ∧ (812 < i.counter ∨ 812 = i.counter ∧ 4#64 ≠ i.check)) ∧
    (¬ ∃ i, e.lastImage = some i ∧ (812 < i.counter ∨ 812 = i.counter ∧ 3#64 ≠ i.check)) ∧
    (∃ i, e.lastImage = some i ∧ i.counter < 813) ∧
    (∃ i, e.lastImage = some i ∧ 812 = i.counter) ∧
    { e with mark := .unused .entry 0 }.mark = .unused .entry 0 ∧ { e with mark := .used .entry 0 }.mark = .used .entry 0 ∧
    { e with mark := .used .exit 0 }.mark = .used .exit 0 ∧
    { e with mark := .pending .lane0 0#16 }.mark = .pending .lane0 0#16 ∧ e.mark = .none := by
  refine ⟨⟨_, rfl, rfl⟩, ⟨_, rfl, rfl, by decide⟩, ⟨?_, ?_⟩, rfl, by decide, rfl, by decide, by decide, by decide, by decide, by decide,
    rfl, ⟨_, rfl, by decide⟩, ⟨_, rfl, by decide⟩, ?_, ⟨_, rfl, by decide⟩, ⟨_, rfl, rfl⟩, rfl, rfl, rfl, rfl, rfl⟩
  · rintro ⟨x, h, k⟩
    cases h
    cases k
  · rintro ⟨x, h, -, k⟩
    cases h
    exact absurd k (by decide)
  · rintro ⟨i, h, k⟩
    cases h
    exact absurd k (by decide)

/-- What a screen at an EXIT lane makes of an entry with that part: outcome, answer, last image, suspect count. -/
def resolution (c : Nat) (v : CheckValue) : Option ResultCode × ScreenAnswer × Option LastImage × Nat :=
  let r := screenChecks none { blank 5#64 with lastImage := some ⟨1, 0#64⟩, uncertainty := some part } .exit c v
  (r.resolved, r.answer, r.entry.lastImage, r.entry.suspect)

/-- The rows of R122 that do not regrant, and what follows: a TOOK of the other direction, a VOID, a counter below the
old one, any other. -/
theorem test_resolutions :
    resolution 2 1#64 = (some .took, .pass, some ⟨2, 1#64⟩, 0) ∧
    resolution 1 0#64 = (some .void, .pass, some ⟨1, 0#64⟩, 0) ∧
    resolution 0 0#64 = (some .overtaken, .clone, some ⟨1, 0#64⟩, 1) ∧
    resolution 3 9#64 = (some .overtaken, .pass, some ⟨3, 9#64⟩, 0) := by
  decide +kernel

/-- A dialogue in SCREEN, with that work at the Screening Unit. -/
def screening (o : Outstanding) (d : Dialogue) : Dialogue :=
  { d with
    phase := .screen
    identity := some ⟨5#64, 32, 7⟩
    known := true
    claimHeld := true
    recordArea := productOf 1#8 0 ++ purseOf 100 812 0#8
    outstanding := some o }

theorem test_witness_ScreenIsMadeAndAnswered :
    (let d := screening (.lookup none 10000);
      let s := seen (talking d .idle) [{ blank 5#64 with uncertainty := some part }];
      s.sys.resetPin = false ∧ (s.lane .lane0).dialogue = some (spoken d) ∧
      (spoken d).outstanding = some (.lookup none 10000) ∧ 10000 ≤ s.nextTick ∧
      findSighting s.screening.table (spoken d).card = some { blank 5#64 with uncertainty := some part } ∧
      (screenChecks (lookupDeny s.mem none (spoken d).card).2 { blank 5#64 with uncertainty := some part } .entry
        (purseCounter (spoken d).purse) (purseCheck (spoken d).purse)).resolved = some .overtaken) ∧
    ∀ a ∈ [ScreenAnswer.pass, .regrant, .denied, .clone, .suspect, .passback],
      let d := screening (.screened a 10000)
      let s := { talking d .idle with fare := older State.reset.fare }
      s.sys.resetPin = false ∧ (s.lane .lane0).dialogue = some (spoken d) ∧
      (spoken d).outstanding = some (.screened a 10000) ∧ (spoken d).outcome = none ∧
      s.awaitsRecord (.screen .lane0) = false ∧ s.fare.active = some ⟨0x800, 130⟩ ∧ 10000 ≤ s.nextTick := by
  decide +kernel

/-- A screen answered after the outcome was decided: RELEASE begins with the REFUSED record. -/
theorem test_screen_after_the_outcome :
    let d := fun x => { screening (.screened .pass 10000) x with outcome := some .tooSlow }
    runs (fun t => t.journal.queue.map (fun q => q.record.result) = [.tooSlow] &&
        t.fare.pricings = ⟨none, none, none, none⟩)
      [.screenAnswer .lane0] (talking d .idle) ∧
    (spoken d).outstanding = some (.screened .pass 10000) ∧ (spoken d).outcome = some .tooSlow ∧
    (talking d .idle).awaitsRecord (.screen .lane0) = false := by
  decide +kernel

/-- A dialogue that waits for its pricing. -/
def pricing (d : Dialogue) : Dialogue := screening .price d

/-- Lane 0 with that pricing, which answers now. -/
def priced (p : Pricing) : State :=
  { talking pricing .idle with mem := fareTable, fare := { State.reset.fare with pricings := ⟨some p, none, none, none⟩ } }

theorem test_witness_PriceIsAnswered :
    (let p := pricingOf ⟨0x400, 130⟩ .entry (productOf 1#8 0) (purseOf 200 0 0#8);
      (priced p).sys.resetPin = false ∧ (priced p).fare.pricings.get .lane0 = some p ∧ p.due ≤ (priced p).nextTick ∧
      (priced p).orders.service = none ∧ ((priced p).lane .lane0).dialogue = some (spoken pricing) ∧
      (spoken pricing).tag = p.tag ∧ (spoken pricing).outcome = none ∧ (spoken pricing).outstanding = some .price) ∧
    (price fareTable (pricingOf ⟨0x400, 130⟩ .entry (productOf 1#8 0) (purseOf 200 65535 0#8)) = .cardSpent) ∧
    (price fareTable { pricingOf ⟨0x400, 130⟩ .entry (productOf 1#8 0) (purseOf 200 0 0#8) with
      transaction := ⟨⟨0, 0, 0⟩, 1, .workday⟩ } = .expired) ∧
    (price fareTable (pricingOf ⟨0x400, 130⟩ .entry (productOf 1#8 0) (purseOf 199 0 0#8)) =
      .lowBalance 0 StageFlags.clear) ∧
    (price fareTable (pricingOf ⟨0x400, 130⟩ .entry (productOf 1#8 0) (purseOf 200 0 0#8)) =
      .priced ⟨0, 200, StageFlags.clear, 1, 0⟩
        (entryImage fareTable (pricingOf ⟨0x400, 130⟩ .entry (productOf 1#8 0) (purseOf 200 0 0#8)) 200)) ∧
    (spoken id).outstanding ≠ some .price ∧ (spoken pricing).known = true := by
  decide +kernel

/-- Lane 0's pricing is bound to the old table while its adoption waits for the pricings. -/
def lastPricing (other : Option Pricing) : State :=
  let p := pricingOf ⟨0x800, 130⟩ .exit (productOf 1#8 0) (purseOf 200 0 0#8)
  { serving (order 4#8 [] .awaitingPricings) with
    mem := fareTable
    fare := ⟨some ⟨0x400, 130⟩, none, some ⟨0x800, 130⟩, ⟨some p, other, none, none⟩⟩ }

theorem test_witness_lastPricing :
    (∀ other ∈ [none, some (pricingOf ⟨0x800, 130⟩ .exit [] []), some (pricingOf ⟨0x400, 130⟩ .exit [] [])],
      (lastPricing other).orders.service = some (order 4#8 [] .awaitingPricings) ∧
      (lastPricing other).fare.active = some ⟨0x400, 130⟩ ∧ (lastPricing other).fare.previous = some ⟨0x800, 130⟩ ∧
      (lastPricing other).fare.pricings.get .lane1 = other) ∧
    runs (fun t => t.fare.previous = none && t.orders.slots[(0 : Fin 8)] = .done && t.orders.ready.fareAdopted)
      [.priceAnswer .lane0, .orderEnd] (lastPricing none) ∧
    runs (fun t => t.fare.previous = some ⟨0x800, 130⟩ && t.orders.service.isSome)
      [.priceAnswer .lane0, .orderEnd] (lastPricing (some (pricingOf ⟨0x800, 130⟩ .exit [] []))) := by
  decide +kernel

theorem test_witness_RemovalWatchProbesAndConfirms :
    (∀ link ∈ [LinkActivity.idle, .receiving 0 false],
      let s := watching ⟨0, some 0, false⟩ link
      s.sys.resetPin = false ∧ (s.lane .lane0).watch = some ⟨0, some 0, false⟩ ∧ 0 ≤ s.instant ∧
      (s.lane .lane0).link = link) ∧
    ∀ n ∈ ([0, 1, 2] : List Nat), ∀ owed half : Bool,
      let s := watching ⟨n, none, owed⟩ (.waiting 10000 half)
      s.sys.resetPin = false ∧ (s.lane .lane0).watch = some ⟨n, none, owed⟩ ∧
      (s.lane .lane0).link = .waiting 10000 half ∧ 10000 ≤ s.nextTick := by
  decide +kernel

/-! ## Passages, leaves, marks -/

/-- Lane 0 in that mode and state, with every beam group CLEAR and those credits. -/
def walking (mode : LaneMode) (pc : PcState) (credits : List Credit) (passage : Option Passage) (beams : Beams) : State :=
  atLane fun x => { x with mode := mode, pc := pc, credits := credits, passage := passage, beams := beams }

/-- A credit in use. -/
def using_ (sequence : Word) (far : Bool) : Credit := ⟨sequence, 5#64, .entry, .inUse 4000 far⟩

/-- At 30 ms of the time base the input has read the other value for the default debounce time; at 29 ms it has not, nor
when the group changed 1 ms after the start. -/
theorem test_witness_debounced :
    (∀ g ∈ [BeamGroup.entrySide, .middle, .exitSide], debounced (later 30 State.reset) .lane0 g 30 300000) ∧
    debounced (later 29 State.reset) .lane0 .middle 30 300000 ∧
    (later 28 State.reset).nextTick < ((later 28 State.reset).lane .lane0).beamSince.get .middle + 10000 * 30 ∧
    29 < (later 30 State.reset).debounceAt (max (later 30 State.reset).timeBase (0 + 10000 * 29) - 10000 * 29) ∧
    (later 28 State.reset).Settled ∧ (later 30 State.reset).Settled ∧
    runs (fun t => (t.lane .lane0).beams.middle = .clear && (t.lane .lane0).beamSince.middle = 300000)
      [.beamEvent .lane0 .middle .clear 30] (later 30 State.reset) ∧
    runs (fun t => (t.lane .lane0).beams.middle = .blocked)
      [.beamEvent .lane0 .middle .clear 30, .beamEvent .lane0 .middle .clear 29] (later 28 State.reset) := by
  refine ⟨by unfold debounced; decide +kernel, by unfold debounced; decide +kernel, by decide +kernel, by decide +kernel,
    settled_of (by decide +kernel), settled_of (by decide +kernel), by decide +kernel, by decide +kernel⟩

theorem test_witness_BeamsFollowThePassengers :
    let allClear : Beams := ⟨.clear, .clear, .clear⟩
    State.reset.debounceAt (State.reset.timeBase - 10000 * 30) ≤ 30 ∧
    (∀ pc ∈ [PcState.out, .free, .fault, .closed, .closing],
      let s := walking .entry pc [] none allClear
      s.sys.resetPin = false ∧ (s.lane .lane0).beams.get .middle ≠ .blocked ∧ (s.lane .lane0).pc = pc) ∧
    (∀ pc ∈ [PcState.opening, .opened], ∀ mode ∈ [LaneMode.entry, .exit],
      let s := walking mode pc [using_ 1#16 false, credit 2#16] none allClear
      (s.lane .lane0).pc = pc ∧ (s.lane .lane0).mode = mode ∧
      (s.lane .lane0).beams.get (approachGroup (s.lane .lane0)) = .clear ∧
      (s.lane .lane0).beams.get (farGroup (s.lane .lane0)) = .clear ∧
      (s.lane .lane0).credits = [using_ 1#16 false] ++ credit 2#16 :: [] ∧
      (∀ k ∈ [using_ 1#16 false], k.isWaiting = false) ∧ (credit 2#16).state = .waiting 8000 ∧
      (s.lane .lane0).passage = none) ∧
    (let s := walking .entry .opened [using_ 1#16 false] (some ⟨none⟩) ⟨.clear, .blocked, .clear⟩;
      (∀ k ∈ (s.lane .lane0).credits, k.isWaiting = false) ∧ (s.lane .lane0).credits ≠ [] ∧
      (s.lane .lane0).beams.middle = .blocked ∧ (s.lane .lane0).passage ≠ none ∧
      (s.lane .lane0).credits = [] ++ using_ 1#16 false :: [] ∧ (using_ 1#16 false).state = .inUse 4000 false) ∧
    (let s := walking .entry .opened [using_ 1#16 true, credit 2#16] (some ⟨none⟩) allClear;
      (s.lane .lane0).credits = [using_ 1#16 true] ++ credit 2#16 :: [] ∧
      (∀ k ∈ (s.lane .lane0).credits, k.onTheWay = false) ∧ ∀ k ∈ [using_ 1#16 true], k.isWaiting = false) ∧
    (let s := walking .entry .opened [using_ 1#16 true] (some ⟨none⟩) ⟨.clear, .clear, .blocked⟩;
      (s.lane .lane0).passage ≠ none ∧ (s.lane .lane0).beams.set .exitSide .clear = allClear ∧
      (s.lane .lane0).beams.get .exitSide = .blocked ∧ ((s.lane .lane0).credits.filter fun c => !c.reachedFar) = []) := by
  decide +kernel

/-- An alarm whose count stands at 65535 leaves it there and still updates the block. -/
theorem test_saturated_alarm :
    runs (fun t => (t.lane .lane0).intrusion = 65535 && (t.lane .lane0).stamp = 1#16 &&
        Memory.readNat t.mem 0x50 2 = 1 && Memory.readNat t.mem 0x4A 2 = 65535 && (t.lane .lane0).rewritten = [])
      [.beamEvent .lane0 .middle .blocked 30]
      (later 30 (atLane fun x =>
        { x with mode := .entry, pc := .closed, beams := ⟨.clear, .clear, .clear⟩, intrusion := 65535 })) = true := by
  decide +kernel

/-- The items of the indicator, each over those after it. -/
theorem test_indicator :
    let lane := State.reset.lane .lane0
    let busy := { lane with mode := .entry, inProgress := true, waitRequest := true }
    let paid := { busy with credits := [credit 1#16] }
    let shown := { paid with timedDisplay := some ⟨.cross, 0⟩ }
    { shown with mode := .out }.indicator = .cross ∧ { shown with pc := .fault }.indicator = .cross ∧
    { shown with pc := .free }.indicator = .arrow ∧ { shown with pc := .opened }.indicator = .cross ∧
    { paid with pc := .opened }.indicator = .arrow ∧ { busy with pc := .opened }.indicator = .wait ∧
    { busy with pc := .opened, inProgress := false }.indicator = .wait ∧
    { lane with mode := .entry, pc := .opened }.indicator = .dark := by
  decide +kernel

/-- REFUSE sounds in its first, third and fifth 80 ms. -/
theorem test_refuse :
    ([0, 799999, 800000, 1599999, 1600000, 2400000, 3200000, 3999999, 4000000].map
      fun t => Sounding.sounds ⟨.refuse, 2400, 4000000⟩ t) =
      [true, true, false, false, true, false, true, true, false] := by
  decide +kernel

theorem test_witness_LaneTimersRunOut :
    (let c : Credit := ⟨2#16, 5#64, .entry, .waiting 0⟩
      let s := seen (walking .entry .opened [using_ 1#16 false, c] none ⟨.clear, .clear, .clear⟩)
        [{ blank 5#64 with mark := .pending .lane0 2#16 }];
      s.sys.resetPin = false ∧ (s.lane .lane0).credits = [using_ 1#16 false] ++ c :: [] ∧ c.state = .waiting 0 ∧
      0 ≤ s.instant ∧ (∀ k ∈ [using_ 1#16 false], k.sequence ≠ c.sequence) ∧ s.Settled ∧
      findSighting s.screening.table c.card = some { blank 5#64 with mark := .pending .lane0 2#16 } ∧
      (s.lane .lane0).pc = .opened) ∧
    (let s := walking .entry .opened [] (some ⟨some 0⟩) ⟨.clear, .clear, .clear⟩;
      s.sys.resetPin = false ∧ (s.lane .lane0).passage = some ⟨some 0⟩ ∧ 0 ≤ s.instant) ∧
    (let s := atLane fun x => { x with timedDisplay := some ⟨.arrow, 10000⟩, tone := some ⟨.accept, 2400, 10000⟩ };
      s.Settled ∧ (s.lane .lane0).timedDisplay = some ⟨.arrow, 10000⟩ ∧ (s.lane .lane0).tone = some ⟨.accept, 2400, 10000⟩ ∧
      10000 ≤ s.nextTick) :=
  ⟨⟨rfl, rfl, rfl, by decide +kernel, by decide +kernel, settled_of (by decide +kernel), by decide +kernel, rfl⟩,
    ⟨rfl, rfl, by decide +kernel⟩, settled_of (by decide +kernel), rfl, rfl, by decide +kernel⟩

/-- Lane 0 with that leaf drive. -/
def driven (drive : Drive) (run : Nat) : State :=
  atLane fun x => { x with mode := .entry, pc := .closing, drive := drive, obstructionRun := run, closedLimit := false }

/-- Lane 0 in GRANT with that leaf drive. -/
def drivenInGrant (drive : Drive) : State :=
  let s := talking (fun d => { d with phase := .grant }) .idle
  s.setLane .lane0 { s.lane .lane0 with drive := drive, pc := .closing, obstructionRun := 2 }

theorem test_witness_strokesWait :
    (∀ drive ∈ [Drive.released, .hold .atOpen, .brake .atOpen 5, .stroke .atOpen none 5 0],
      ((driven drive 0).lane .lane0).drive = drive) ∧ (driven .released 0).Settled ∧
    (let s := drivenInGrant (.stroke .atClosed none 10000 40);
      s.Settled ∧ grantInHand s .lane0 ∧ (s.lane .lane0).drive = .stroke .atClosed none 10000 40 ∧
      10000 ≤ s.nextTick ∧ 2 ≤ (s.lane .lane0).obstructionRun) ∧
    ¬ grantInHand (driven (.stroke .atClosed none 10000 40) 2) .lane0 ∧
    (let s := (talking id .idle).updLane .lane0 fun x => { x with drive := .stroke .atClosed none 10000 40, pc := .closing };
      ¬ grantInHand s .lane0 ∧ (s.lane .lane0).dialogue = some (spoken id) ∧ (s.lane .lane0).field = .on ∧
      (spoken id).outcome = none ∧ (spoken id).outstanding = none) :=
  ⟨by decide +kernel, settled_of (by decide +kernel),
    ⟨settled_of (by decide +kernel), grantInHand_of (by decide +kernel), rfl, by decide +kernel, by decide +kernel⟩,
    noGrant_of (by decide +kernel), noGrant_of (by decide +kernel), rfl, rfl, rfl, rfl⟩

theorem test_witness_StrokesRunToTheirLimit :
    (∀ toward ∈ [Limit.atOpen, .atClosed],
      let s := driven (.stroke toward (some 10000) 10000 40) 1
      s.sys.resetPin = false ∧ (s.lane .lane0).drive = .stroke toward (some 10000) 10000 40 ∧ 10000 ≤ s.nextTick ∧
      (s.lane .lane0).obstructionRun < 2) ∧
    (driven (.stroke .atOpen none 10000 0) 0).Settled ∧
    ((driven (.stroke .atClosed none 10000 0) 2).lane .lane0).drive = .stroke .atClosed none 10000 0 ∧
    2 ≤ ((driven (.stroke .atClosed none 10000 0) 2).lane .lane0).obstructionRun ∧
    (driven (.brake .atOpen 10000) 0).Settled ∧
    ((driven (.brake .atOpen 10000) 0).lane .lane0).drive = .brake .atOpen 10000 ∧
    ((driven (.brake .atOpen 10000) 0).lane .lane0).stroking ≠ some .atOpen ∧
    ((driven (.stroke .atOpen none 10000 0) 0).lane .lane0).beams.middle = .blocked ∧
    (let s := atLane fun x => { x with drive := .stroke .atOpen none 10000 0, beams := ⟨.clear, .clear, .clear⟩ };
      (s.lane .lane0).pc ≠ .free ∧ (s.lane .lane0).credits = [] ∧ (s.lane .lane0).passage = none ∧
      (s.lane .lane0).beams.middle = .clear) :=
  ⟨by decide +kernel, settled_of (by decide +kernel), rfl, by decide +kernel, settled_of (by decide +kernel), rfl,
    by decide +kernel, rfl, by decide +kernel, rfl, rfl, rfl⟩

theorem test_witness_EmergencyFreesEveryLane :
    (later 20 State.reset).sys.resetPin = false ∧ 20 ≤ 20 ∧ (later 20 State.reset).emergency.asserted = false ∧
    (later 20 State.reset).Settled ∧
    (later 20 State.reset).emergency.since + 10000 * 20 ≤ (later 20 State.reset).nextTick ∧
    (∀ l, ¬ grantInHand (later 20 State.reset) l) ∧
    ({ State.reset with emergency := ⟨true, true, 0⟩ }.emergency.asserted = true ∧
      { State.reset with emergency := ⟨false, true, 0⟩ }.emergency.seen = true ∧ State.reset.emergency.seen = false) ∧
    ((atLane fun x => { x with pc := .fault }).lane .lane0).pc = .fault ∧
    ((State.reset.lane .lane0).pc ≠ .fault ∧ (State.reset.lane .lane0).mode ≠ .free) ∧
    (let s := later 20 (cutting 9#8 []);
      s.Settled ∧ grantInHand s .lane0 ∧ (s.lane .lane0).mode ≠ .free ∧ (s.lane .lane0).pc ≠ .fault) :=
  ⟨rfl, by decide, rfl, settled_of (by decide +kernel), by decide +kernel,
    fun l => noGrant_of (by cases l <;> decide +kernel), ⟨rfl, rfl, rfl⟩, rfl, by decide +kernel,
    ⟨settled_of (by decide +kernel), grantInHand_of (by decide +kernel), by decide +kernel, by decide +kernel⟩⟩

/-- The emergency waits for the grant, and is taken with it. -/
theorem test_emergency_waits :
    runs (fun t => (t.lane .lane0).mode = .free && t.emergency = ⟨true, true, 200000⟩ && t.deferred = [] &&
        (t.lane .lane0).lastResult = .accept && t.journal.queue.map (fun q => q.record.kind) = [.dropped])
      [.emergencyAsserted 20, .journalRecordWrite] (later 20 (granting id)) = true := by
  decide +kernel

/-- The part's life has passed while a FORGET CARD of the card waits for its record. -/
theorem test_witness_part_of_forgotten_card :
    let old := { blank 5#64 with uncertainty := some { part with created := -7200000 } }
    let s := { forgetting with screening := { forgetting.screening with table := [old] } }
    s.sys.resetPin = false ∧ s.Settled ∧ s.TableLegal ∧ findSighting s.screening.table 5#64 = some old ∧
    s.orders.service = some (order 13#8 (sightArgs 5 0) (.forgetting 5#64)) ∧
    (-7200000 : Int) + 1000 * s.params.uncertaintyLife ≤ s.instant ∧
    runs (fun t => t.screening.table = [old]) [.uncertaintyExpiry 5#64] s :=
  ⟨rfl, settled_of (by decide +kernel), ⟨by decide +kernel, by decide +kernel⟩, by decide +kernel, rfl,
    by decide +kernel, by decide +kernel⟩

theorem test_witness_MarksAndPartsExpire :
    (∀ e ∈ [{ blank 5#64 with mark := .used .entry (-300000) }, { blank 5#64 with mark := .used .entry (-299999) },
        { blank 5#64 with mark := .unused .exit 0 }, { blank 5#64 with mark := .unused .exit 1 },
        { blank 5#64 with uncertainty := some { part with created := -7200000 } },
        { blank 5#64 with uncertainty := some { part with created := -7199999 } }, blank 5#64],
      findSighting (seen State.reset [e]).screening.table 5#64 = some e) ∧
    State.reset.sys.resetPin = false ∧ State.reset.Settled ∧ (seen State.reset [blank 5#64]).TableLegal ∧
    ((-300000 : Int) + 1000 * State.reset.params.passbackInterval ≤ State.reset.instant ∧
      State.reset.instant < (-299999 : Int) + 1000 * State.reset.params.passbackInterval) ∧
    ((0 : Int) ≤ State.reset.instant ∧ State.reset.instant < (1 : Int)) ∧
    ((-7200000 : Int) + 1000 * State.reset.params.uncertaintyLife ≤ State.reset.instant ∧
      State.reset.instant < (-7199999 : Int) + 1000 * State.reset.params.uncertaintyLife) := by
  refine ⟨by decide +kernel, rfl, settled_of (by decide +kernel), ⟨by decide +kernel, by decide +kernel⟩, ?_⟩
  decide +kernel

/-! ## The laws hold at reset -/

theorem test_witness_laws :
    State.reset.MemoryLegal ∧ State.reset.ClockLegal ∧ State.reset.RegistersLegal ∧ State.reset.TableLegal ∧
    State.reset.Settled ∧ (∀ l, (State.reset.lane l).LeavesSafe) ∧ (∀ l, (State.reset.lane l).CreditsLegal) ∧
    (∀ l, (State.reset.lane l).LinkLegal) ∧ (∀ l, (State.reset.lane l).CountsLegal) ∧ step State.reset = .next State.reset := by
  refine ⟨rfl, ?_, ?_, ⟨by decide +kernel, by decide +kernel⟩, settled_of (by decide +kernel), ?_, ?_, ?_, ?_, rfl⟩
  · unfold State.ClockLegal
    decide +kernel
  · unfold State.RegistersLegal
    decide +kernel
  · intro l
    cases l <;> (intro _ _ _ h; cases h)
  · exact lanes_of (by unfold Lane.CreditsLegal; decide +kernel) (by unfold Lane.CreditsLegal; decide +kernel)
      (by unfold Lane.CreditsLegal; decide +kernel) (by unfold Lane.CreditsLegal; decide +kernel)
  · intro l
    cases l <;> exact ⟨by decide +kernel, by decide +kernel, by decide +kernel, by decide +kernel, fun w h => by cases h⟩
  · intro l
    cases l <;> exact ⟨by decide +kernel, by decide +kernel, by decide +kernel, by decide +kernel⟩

theorem test_witness_StatusBlocksShowTheLanes :
    State.reset.MemoryLegal ∧ (∀ l, shows State.reset l) ∧
    Memory.readNat State.reset.mem 0x02 2 = State.reset.orders.ready.summary ∧ State.reset.port.waiting = [] ∧
    ringInFree State.reset ∧ State.reset.orders.service = none ∧
    sparesShownBytes (.gcMemoryWrite (.word 0x180#17 1#16)) ∧ sparesShownBytes (.gcMemoryWrite (.byte 0x100#18 1#8)) ∧
    sparesShownBytes .clockTick ∧ (∃ t, exec .clockTick State.reset = .next t) ∧
    (∃ t, exec (.restart (.word 1#16) (strapped .bits16) 0) State.reset = .next t) ∧
    startsUp (.restart (.word 1#16) (strapped .bits16) 0) = true ∧ startsUp .clockTick = false ∧
    (let s := { State.reset with sys := { State.reset.sys with resetPin := true } };
      s.MemoryLegal ∧ (∀ l, shows s l) ∧ s.port.waiting = [] ∧
      startsUp (.resetPinRelease (strapped .bits16) 0) = true ∧
      (∀ w inputs cut, Instr.resetPinRelease (strapped .bits16) 0 ≠ .restart w inputs cut) ∧
      ∃ t, exec (.resetPinRelease (strapped .bits16) 0) s = .next t) ∧
    shownFields ((atLane fun x => { x with gain := 17 }).lane .lane0) State.reset.emergency ≠
      shownFields (State.reset.lane .lane0) State.reset.emergency := by
  unfold shows sparesShownBytes shownByte
  refine ⟨rfl, lanes_of (by decide +kernel) (by decide +kernel) (by decide +kernel) (by decide +kernel),
    by decide +kernel, rfl, noRing rfl, rfl, ⟨?_, ?_⟩, ⟨?_, ?_⟩, ⟨?_, ?_⟩, ⟨_, rfl⟩, ⟨_, rfl⟩, rfl, rfl,
    ⟨rfl, lanes_of (by decide +kernel) (by decide +kernel) (by decide +kernel) (by decide +kernel), rfl, rfl,
      fun _ _ _ h => Instr.noConfusion h, _, rfl⟩, by decide +kernel⟩
  · intro wa v h
    cases h
    decide +kernel
  · intro a v h
    cases h
  · intro wa v h
    cases h
  · intro a v h
    cases h
    decide +kernel
  · intro wa v h
    cases h
  · intro a v h
    cases h

end Sys2Proof.Tests
end

section
/-! SUPPORT. The bytes of an image: what a field of a patched or joined list of bytes reads as, and the range of a
field's value. -/

namespace Sys2Proof.Machine

open Sys2Proof

/-! ## Little-endian numbers and their ranges -/

theorem leNat_lt : ∀ bs : List Byte, leNat bs < 256 ^ bs.length
  | [] => Nat.one_pos
  | b :: rest => by
    have hrest := leNat_lt rest
    have hb := b.isLt
    rw [leNat, List.length_cons, Nat.pow_succ]
    omega

theorem leNat_leBytes_mod : ∀ n v : Nat, leNat (leBytes n v) = v % 256 ^ n
  | 0, v => by rw [leBytes, leNat, Nat.pow_zero, Nat.mod_one]
  | n + 1, v => by
    have hsplit : v % 256 ^ (n + 1) = v % 256 + 256 * (v / 256 % 256 ^ n) := by rw [Nat.pow_succ', Nat.mod_mul]
    rw [leBytes, leNat, leNat_leBytes_mod n, BitVec.toNat_ofNat, hsplit]

@[simp] theorem length_signedBytes (n : Nat) (v : Int) : (signedBytes n v).length = n := length_leBytes n _

/-- Two's complement: a number in the range of its bytes is read back from them. -/
theorem signedOf_leNat_signedBytes {n : Nat} {v : Int} (hn : 0 < n) (hlow : -(2 ^ (8 * n - 1) : Nat) ≤ v)
    (hhigh : v < (2 ^ (8 * n - 1) : Nat)) : signedOf n (leNat (signedBytes n v)) = v := by
  have hdouble : 2 ^ (8 * n) = 2 * 2 ^ (8 * n - 1) := by
    rw [← Nat.pow_succ']
    congr 1
    omega
  have hbase : 256 ^ n = 2 ^ (8 * n) := by rw [Nat.pow_mul]
  rw [signedBytes, leNat_leBytes_mod, hbase, signedOf, hdouble]
  generalize 2 ^ (8 * n - 1) = half at *
  obtain hv | hv := Int.lt_or_le v 0
  · have hmod : v % ((2 * half : Nat) : Int) = v + (2 * half : Nat) := by
      rw [← Int.add_emod_right, Int.emod_eq_of_lt (by omega) (by omega)]
    rw [hmod, Nat.mod_eq_of_lt (by omega), if_neg (by omega)]
    omega
  · rw [Int.emod_eq_of_lt hv (by omega), Nat.mod_eq_of_lt (by omega), if_pos (by omega)]
    omega

theorem signedOf_four_lt {v : Nat} (hv : v < 256 ^ 4) : signedOf 4 v < 2147483648 := by
  unfold signedOf
  split <;> omega

theorem Memory.length_readBytes (m : List Host.Cell) : ∀ n a : Nat, (Memory.readBytes m a n).length = n
  | 0, _ => rfl
  | n + 1, a => by rw [Memory.readBytes, List.length_cons, Memory.length_readBytes m n]

theorem fareWord_lt (m : List Host.Cell) (t : Area) (off : Nat) : fareWord m t off < 65536 := by
  have hlt := leNat_lt (Memory.readBytes m (t.base + off) 2)
  rwa [Memory.length_readBytes] at hlt

/-! ## Fields -/

theorem fieldAt_lt (image : List Byte) (off n : Nat) : fieldAt image off n < 256 ^ n :=
  Nat.lt_of_lt_of_le (leNat_lt _) (Nat.pow_le_pow_right (by decide) (List.length_take_le n _))

theorem fieldAt_append_left {xs : List Byte} {off n : Nat} (ys : List Byte) (h : off + n ≤ xs.length) :
    fieldAt (xs ++ ys) off n = fieldAt xs off n := by
  rw [fieldAt, List.drop_append_of_le_length (by omega), List.take_append_of_le_length (by simp; omega), fieldAt]

theorem fieldAt_append_right {xs : List Byte} {off : Nat} (ys : List Byte) (n : Nat) (h : xs.length ≤ off) :
    fieldAt (xs ++ ys) off n = fieldAt ys (off - xs.length) n := by
  rw [fieldAt, List.drop_append, List.drop_eq_nil_of_le h, List.nil_append, fieldAt]

@[simp] theorem fieldAt_leBytes (n v : Nat) : fieldAt (leBytes n v) 0 n = v % 256 ^ n := by
  rw [fieldAt, List.drop_zero, List.take_of_length_le (Nat.le_of_eq (length_leBytes n v)), leNat_leBytes_mod]

@[simp] theorem fieldAt_leBytes_append (n v : Nat) (ys : List Byte) :
    fieldAt (leBytes n v ++ ys) 0 n = v % 256 ^ n := by
  rw [fieldAt_append_left ys (by simp [length_leBytes]), fieldAt_leBytes]

@[simp] theorem fieldAt_leBytes_append_right {k off : Nat} (v : Nat) (ys : List Byte) (n : Nat) (h : k ≤ off) :
    fieldAt (leBytes k v ++ ys) off n = fieldAt ys (off - k) n := by
  rw [fieldAt_append_right ys n ((length_leBytes k v).symm ▸ h), length_leBytes]

/-! ## Patches -/

variable {image bs : List Byte} {a off n : Nat}

theorem length_patch (h : a + bs.length ≤ image.length) : (patch image a bs).length = image.length := by
  simp only [patch, List.length_append, List.length_take, List.length_drop]
  omega

theorem drop_patch_after (ha : a ≤ image.length) (h : a + bs.length ≤ off) :
    (patch image a bs).drop off = image.drop off := by
  have hlen : (image.take a ++ bs).length = a + bs.length := by simp [ha]
  rw [patch, List.drop_append, List.drop_eq_nil_of_le (by omega), List.nil_append, List.drop_drop, hlen]
  congr 1
  omega

theorem slice_patch_before (ha : a ≤ image.length) (h : off + n ≤ a) :
    ((patch image a bs).drop off).take n = (image.drop off).take n := by
  have hlen : (image.take a).length = a := List.length_take_of_le ha
  rw [patch, List.append_assoc, List.drop_append_of_le_length (by omega),
    List.take_append_of_le_length (by simp; omega), List.drop_take, List.take_take, Nat.min_eq_left (by omega)]

theorem fieldAt_patch_before (ha : a ≤ image.length) (h : off + n ≤ a) :
    fieldAt (patch image a bs) off n = fieldAt image off n := by
  rw [fieldAt, slice_patch_before ha h, fieldAt]

theorem fieldAt_patch_inside (ha : a ≤ image.length) (hlow : a ≤ off) (hhigh : off + n ≤ a + bs.length) :
    fieldAt (patch image a bs) off n = fieldAt bs (off - a) n := by
  have hlen : (image.take a).length = a := List.length_take_of_le ha
  rw [patch, List.append_assoc, fieldAt_append_right _ _ (by omega), hlen, fieldAt_append_left _ (by omega)]

end Sys2Proof.Machine
end

section
/-! SUPPORT. What a pricing answers: the tests of R88 in their order, over the charge and the image of either
direction; and that charge and image are those of the entry, exit and STAFF rules. -/

namespace Sys2Proof.Machine

open Sys2Proof

/-! ## A pricing of either direction -/

/-- The charge of a pricing's direction. -/
def directionCharge (m : List Host.Cell) (p : Pricing) : Charge :=
  match p.direction with
  | .entry => entryCharge m p
  | .exit => exitCharge m p

/-- The image of a pricing's direction. -/
def directionImage (m : List Host.Cell) (p : Pricing) (balance : Int) : List Byte :=
  match p.direction with
  | .entry => entryImage m p balance
  | .exit => exitImage m p balance (exitCharge m p).daily

/-- The balance left by the charge. -/
def balanceAfter (m : List Host.Cell) (p : Pricing) : Int := purseBalance p.purse - (directionCharge m p).charge

/-- The balance left is below the entry floor, at an entry that tests it (R91), or below the overdraft floor (R101). -/
def belowFloor (m : List Host.Cell) (p : Pricing) : Prop :=
  (p.direction = .entry ∧ productKind p.product ≠ 3 ∧ balanceAfter m p < entryFloor m p.table) ∨
    balanceAfter m p < -(overdraftLimit m p.table : Int)

/-- What a pricing above the floors carries to the Lane Reader (03 R60). -/
def pricedResult (m : List Host.Cell) (p : Pricing) : PricingResult :=
  { charge := (directionCharge m p).charge
    newBalance := balanceAfter m p
    flags := (directionCharge m p).flags
    entryZone := (if p.direction = .entry then stationZone m p.table
      else if purseTripState p.purse = 1 then purseEntryZone p.purse else 0)
    exitZone := (if p.direction = .entry then 0 else stationZone m p.table) }

section
variable {m : List Host.Cell} {p : Pricing}

theorem isStaff_eq_false_iff (product : List Byte) : isStaff product = false ↔ productKind product ≠ 3 := by
  simp [isStaff]

theorem price_spent (h : purseCounter p.purse = 65535) : price m p = .cardSpent := if_pos h

theorem price_expired (hcounter : purseCounter p.purse ≠ 65535)
    (h : productExpiry p.product < p.transaction.serviceDay) : price m p = .expired := by
  rw [price, if_neg hcounter, if_pos h]

/-- Past the counter and expiry tests a pricing answers by its floors alone. -/
theorem price_below_floor (hcounter : purseCounter p.purse ≠ 65535)
    (hexpiry : ¬ productExpiry p.product < p.transaction.serviceDay) (h : belowFloor m p) :
    price m p = .lowBalance (directionCharge m p).charge (directionCharge m p).flags := by
  rw [price, if_neg hcounter, if_neg hexpiry]
  cases hd : p.direction <;>
    simp only [belowFloor, balanceAfter, directionCharge, hd, reduceCtorEq, true_and, false_and, false_or] at h ⊢
  case entry =>
    simp only [priceEntry, isStaff_eq_false_iff, settlePrice]
    split
    · rfl
    · next hfloor => rw [if_pos (h.resolve_left hfloor)]
  case exit => simp only [priceExit, settlePrice, if_pos h]

theorem price_above_floor (hcounter : purseCounter p.purse ≠ 65535)
    (hexpiry : ¬ productExpiry p.product < p.transaction.serviceDay) (h : ¬ belowFloor m p) :
    price m p = .priced (pricedResult m p) (directionImage m p (balanceAfter m p)) := by
  rw [price, if_neg hcounter, if_neg hexpiry]
  cases hd : p.direction <;>
    simp only [belowFloor, pricedResult, directionImage, balanceAfter, directionCharge, hd, reduceCtorEq, true_and,
      false_and, false_or, not_or, if_true, if_false] at h ⊢
  case entry => simp only [priceEntry, isStaff_eq_false_iff, settlePrice, if_neg h.1, if_neg h.2]
  case exit => simp only [priceExit, settlePrice, if_neg h, purseOpen, decide_eq_true_eq]

/-! ## The charge -/

theorem saturate_le (n : Nat) : saturate n ≤ 65535 := Nat.min_le_left _ _

theorem directionCharge_le (m : List Host.Cell) (p : Pricing) : (directionCharge m p).charge ≤ 65535 := by
  have hunclosed : unclosedPenalty m p.table ≤ 65535 := Nat.le_of_lt_succ (fareWord_lt _ _ _)
  have hnoEntry : noEntryPenalty m p.table ≤ 65535 := Nat.le_of_lt_succ (fareWord_lt _ _ _)
  have hstages : (exitStages m p).charge ≤ 65535 := saturate_le _
  cases hd : p.direction with
  | entry =>
    simp only [directionCharge, hd, entryCharge]
    split
    · exact hunclosed
    · exact Nat.zero_le _
  | exit =>
    simp only [directionCharge, hd, exitCharge]
    split
    · exact Nat.zero_le _
    · split
      · exact hstages
      · exact hnoEntry

theorem dailySoFar_eq_dailyPresented (p : Pricing) :
    dailySoFar p.purse p.transaction.serviceDay = dailyPresented p := rfl

theorem dailyPresented_lt (p : Pricing) : dailyPresented p < 65536 := by
  have hsum : purseDailySum p.purse < 65536 := fieldAt_lt _ _ _
  unfold dailyPresented
  split <;> omega

/-- The law of R98: with the fare cut to the cap's room, the sum stays within the cap or at the sum presented. -/
theorem exitCharge_daily_le {sum : Nat} (h : (exitCharge m p).daily = some sum) :
    sum ≤ max (dailyCap m p.table (productClass p.product)) (dailyPresented p) := by
  simp only [exitCharge, exitStages, dailySoFar_eq_dailyPresented] at h
  split at h
  · have hsum := Option.some.inj (Option.ite_none_right_eq_some.mp h).2
    omega
  · split at h
    · have hsum := Option.some.inj h
      omega
    · contradiction

theorem exitCharge_daily_lt {sum : Nat} (h : (exitCharge m p).daily = some sum) : sum < 65536 := by
  have hcap : dailyCap m p.table (productClass p.product) < 65536 := fareWord_lt _ _ _
  have hpresented := dailyPresented_lt p
  have hsum := exitCharge_daily_le h
  omega

/-- The search from the last place finds the last number that passes. -/
theorem find?_reverse_range {P : Nat → Bool} {i : Nat} (hP : P i = true) : ∀ {n : Nat}, i < n →
    (∀ j < n, i < j → P j = false) → (List.range n).reverse.find? P = some i
  | n + 1, hi, hlast => by
    rw [List.range_succ, List.reverse_append, List.reverse_singleton, List.singleton_append]
    obtain rfl | hlt := Nat.eq_or_lt_of_le (Nat.le_of_lt_succ hi)
    · exact List.find?_cons_of_pos hP
    · rw [List.find?_cons_of_neg (by simp [hlast n n.lt_succ_self hlt])]
      exact find?_reverse_range hP hlt fun j hj => hlast j (Nat.lt_trans hj n.lt_succ_self)

/-- The band read last among those whose start is not above the minute gives the multiplier (R81). -/
theorem bandFor_multiplies (m : List Host.Cell) (t : Area) (d : DayType) (minute : Nat) :
    bandMultiplies m t d minute (bandFor m t d minute) := by
  intro i hi hstart hlast
  have hfind : ((List.range (bandCount m t d)).reverse.find? fun j => bandStart m t d j ≤ minute) = some i :=
    find?_reverse_range (by simpa using hstart) hi fun j hj hij => by simpa using hlast j hj hij
  rw [bandFor, hfind]

/-- The transfer conditions of R97, with the gap written out. -/
theorem transferHolds_eq_decide (m : List Host.Cell) (t : Area) (purse : List Byte) :
    let gap : Int := ((purseEntryDay purse : Int) - purseLastExitDay purse) * 1440 +
      purseEntryMinute purse - purseLastExitMinute purse
    transferHolds m t purse =
      decide (0 ≤ gap ∧ gap ≤ transferWindow m t ∧ purseLastExitStation purse ≠ purseEntryStation purse) := by
  rw [Bool.eq_iff_iff]
  simp only [transferHolds, Bool.and_eq_true, decide_eq_true_eq, and_assoc]
  rfl

/-- The overstay condition of R99, with the duration written out. -/
theorem overstays_eq_decide (m : List Host.Cell) (t : Area) (purse : List Byte) (time : StationTime) :
    let duration : Int := ((time.day : Int) - purseEntryDay purse) * 1440 + time.minute - purseEntryMinute purse
    overstays m t purse time = decide ((maximumTrip m t : Int) < max 0 duration) := rfl

/-- An amount taken off where a condition holds. -/
theorem sub_ite_zero (c : Prop) [Decidable c] (a b : Nat) :
    (a - if c then b else 0) = if c then a - b else a := by
  split <;> rfl

/-- The stages of the model are those of R94 to R99. -/
theorem exitStages_stagesGive (m : List Host.Cell) (p : Pricing) :
    ∃ daily, (exitStages m p).daily = some daily ∧
      stagesGive m p (exitStages m p).charge (exitStages m p).flags daily := by
  simp only [exitStages, transferHolds_eq_decide, overstays_eq_decide, dailySoFar_eq_dailyPresented,
    decide_eq_true_eq, sub_ite_zero]
  refine ⟨_, rfl, _, _, _, _, _, rfl, bandFor_multiplies _ _ _ _, rfl, rfl, rfl, rfl, ?_, rfl⟩
  simp only [Bool.decide_or, Bool.or_assoc]
  rfl

/-- The charge of each direction is that of the entry, exit and STAFF rules. -/
theorem directionCharge_chargedBy (m : List Host.Cell) (p : Pricing) : chargedBy m p (directionCharge m p) := by
  refine ⟨fun hstaff => ?staff, fun hfare hd hopen => ?unclosed, fun hfare hd hclosed => ?entry,
    fun hfare hd hclosed => ?noEntry, fun hfare hd hopen => ?stages⟩
  case staff =>
    cases hd : p.direction
    case entry => simp [directionCharge, hd, entryCharge, isStaff, hstaff, StageFlags.clear]
    case exit =>
      simp [directionCharge, hd, exitCharge, isStaff, hstaff, purseOpen, StageFlags.clear, dailySoFar_eq_dailyPresented]
  case unclosed => simp [directionCharge, hd, entryCharge, isStaff, hfare, purseOpen, hopen, StageFlags.clear]
  case entry => simp [directionCharge, hd, entryCharge, purseOpen, hclosed, StageFlags.clear]
  case noEntry => simp [directionCharge, hd, exitCharge, isStaff, hfare, purseOpen, hclosed, StageFlags.clear]
  case stages =>
    have hcharge : directionCharge m p = exitStages m p := by
      simp [directionCharge, hd, exitCharge, isStaff, hfare, purseOpen, hopen]
    rw [hcharge]
    exact exitStages_stagesGive m p

/-! ## The image -/

section
variable {purse : List Byte} {balance : Int}

theorem length_payImage (hlen : purse.length = 32) : (payImage purse balance).length = 32 := by
  simp [payImage, length_patch, length_leBytes, hlen]

/-- Above balance and counter the image is the card's. -/
theorem drop_payImage (hlen : purse.length = 32) {off : Nat} (hoff : 6 ≤ off) :
    (payImage purse balance).drop off = purse.drop off := by
  rw [payImage, drop_patch_after (by simp [length_patch, hlen]) (by simpa [length_leBytes] using hoff),
    drop_patch_after (by omega) (by simp; omega)]

theorem fieldAt_payImage (hlen : purse.length = 32) {off : Nat} (n : Nat) (hoff : 6 ≤ off) :
    fieldAt (payImage purse balance) off n = fieldAt purse off n := by
  rw [fieldAt, drop_payImage hlen hoff, fieldAt]

theorem purseBalance_payImage (hlen : purse.length = 32) (hlow : -2147483648 ≤ balance)
    (hhigh : balance < 2147483648) : purseBalance (payImage purse balance) = balance := by
  have hfield : fieldAt (payImage purse balance) 0 4 = leNat (signedBytes 4 balance) := by
    rw [payImage, fieldAt_patch_before (by simp [length_patch, hlen]) (by omega),
      fieldAt_patch_inside (by omega) (by omega) (by simp), fieldAt, List.drop_zero, List.take_of_length_le (by simp)]
  rw [purseBalance, hfield, signedOf_leNat_signedBytes (by decide) hlow hhigh]

theorem purseCounter_payImage (hlen : purse.length = 32) (hcounter : purseCounter purse < 65535) :
    purseCounter (payImage purse balance) = purseCounter purse + 1 := by
  have hfit : purseCounter purse + 1 < 256 ^ 2 := by omega
  rw [purseCounter, payImage, fieldAt_patch_inside (by simp [length_patch, hlen]) (Nat.le_refl _)
    (by simp [length_leBytes]), Nat.sub_self, fieldAt_leBytes, Nat.mod_eq_of_lt hfit]

end

/-! ### ENTRY -/

theorem length_entryImage (hlen : p.purse.length = 32) (balance : Int) : (entryImage m p balance).length = 32 := by
  simp [entryImage, length_patch, length_leBytes, length_payImage hlen]

/-- Balance and counter are those paid. -/
theorem fieldAt_entryImage_paid (hlen : p.purse.length = 32) {balance : Int} {off n : Nat} (h : off + n ≤ 6) :
    fieldAt (entryImage m p balance) off n = fieldAt (payImage p.purse balance) off n := by
  rw [entryImage, fieldAt_patch_before (by simp [length_payImage hlen]) h]

/-- The fields of the new trip are those of the bytes placed. -/
theorem fieldAt_entryImage_trip (hlen : p.purse.length = 32) {balance : Int} {off n : Nat} (hlow : 6 ≤ off)
    (hhigh : off + n ≤ 14) :
    fieldAt (entryImage m p balance) off n =
      fieldAt (leBytes 1 1 ++ leBytes 1 (stationZone m p.table) ++ leBytes 2 (stationCode m p.table) ++
        leBytes 2 p.transaction.time.day ++ leBytes 2 p.transaction.time.minute) (off - 6) n := by
  rw [entryImage, fieldAt_patch_inside (by simp [length_payImage hlen]) hlow (by simpa [length_leBytes] using hhigh)]

/-- The fields of R92, each as its bytes hold it. -/
theorem entryImage_imagePriced {balance : Int} (daily : Option Nat) (hlen : p.purse.length = 32)
    (hcounter : purseCounter p.purse < 65535) (hlow : -2147483648 ≤ balance) (hhigh : balance < 2147483648)
    (hd : p.direction = .entry) : imagePriced m p daily balance (entryImage m p balance) := by
  refine ⟨length_entryImage hlen balance, ?balance, ?counter, fun _ => ⟨?trip, ?rest, ?station, fun hzone => ?zone,
    fun hday => ?day, fun hminute => ?minute⟩, fun hexit => absurd (hd.symm.trans hexit) (by decide)⟩
  case balance =>
    rw [purseBalance, fieldAt_entryImage_paid hlen (by decide)]
    exact purseBalance_payImage hlen hlow hhigh
  case counter =>
    rw [purseCounter, fieldAt_entryImage_paid hlen (by decide)]
    exact purseCounter_payImage hlen hcounter
  case rest =>
    rw [entryImage, drop_patch_after (by simp [length_payImage hlen]) (by simp [length_leBytes]),
      drop_payImage hlen (by decide)]
  case trip => simp [purseTripState, fieldAt_entryImage_trip hlen]
  case zone => simpa [purseEntryZone, fieldAt_entryImage_trip hlen] using hzone
  case station =>
    have hcode : stationCode m p.table < 65536 := fareWord_lt _ _ _
    simpa [purseEntryStation, fieldAt_entryImage_trip hlen] using hcode
  case day => simpa [purseEntryDay, fieldAt_entryImage_trip hlen] using hday
  case minute =>
    have hfit : p.transaction.time.minute < 65536 := by omega
    simpa [purseEntryMinute, fieldAt_entryImage_trip hlen] using hfit

/-! ### EXIT -/

/-- The paid image with the trip closed. -/
def closedImage (purse : List Byte) (balance : Int) : List Byte := patch (payImage purse balance) 6 (leBytes 1 0)

/-- The bytes of the last exit: station, day and minute. -/
def lastExitBytes (m : List Host.Cell) (p : Pricing) : List Byte :=
  leBytes 2 (stationCode m p.table) ++ leBytes 2 p.transaction.time.day ++ leBytes 2 p.transaction.time.minute

theorem exitImage_none (m : List Host.Cell) (p : Pricing) (balance : Int) :
    exitImage m p balance none = patch (closedImage p.purse balance) 14 (lastExitBytes m p) := rfl

/-- Where a daily sum is written, it is placed with its day on the image without one. -/
theorem exitImage_some (m : List Host.Cell) (p : Pricing) (balance : Int) (sum : Nat) :
    exitImage m p balance (some sum) =
      patch (exitImage m p balance none) 20 (leBytes 2 p.transaction.serviceDay ++ leBytes 2 sum) := rfl

theorem length_lastExitBytes (m : List Host.Cell) (p : Pricing) : (lastExitBytes m p).length = 6 := by
  simp [lastExitBytes, length_leBytes]

section
variable (hlen : p.purse.length = 32) {balance : Int} {daily : Option Nat} {off n : Nat}
include hlen

theorem length_closedImage : (closedImage p.purse balance).length = 32 := by
  simp [closedImage, length_patch, length_leBytes, length_payImage hlen]

theorem length_exitImage_none : (exitImage m p balance none).length = 32 := by
  simp [exitImage_none, length_patch, length_lastExitBytes, length_closedImage hlen]

theorem length_exitImage : (exitImage m p balance daily).length = 32 := by
  cases daily with
  | none => exact length_exitImage_none hlen
  | some sum => simp [exitImage_some, length_patch, length_leBytes, length_exitImage_none hlen]

/-- Below the daily fields the image does not depend on the daily sum. -/
theorem slice_exitImage (h : off + n ≤ 20) :
    ((exitImage m p balance daily).drop off).take n = ((exitImage m p balance none).drop off).take n := by
  cases daily with
  | none => rfl
  | some sum => rw [exitImage_some, slice_patch_before (by simp [length_exitImage_none hlen]) h]

/-- Below the last exit fields the image is the paid one with the trip closed. -/
theorem slice_exitImage_closed (h : off + n ≤ 14) :
    ((exitImage m p balance daily).drop off).take n = ((closedImage p.purse balance).drop off).take n := by
  rw [slice_exitImage hlen (by omega), exitImage_none, slice_patch_before (by simp [length_closedImage hlen]) h]

theorem drop_closedImage (h : 7 ≤ off) : (closedImage p.purse balance).drop off = p.purse.drop off := by
  rw [closedImage, drop_patch_after (by simp [length_payImage hlen]) (by simpa [length_leBytes] using h),
    drop_payImage hlen (by omega)]

theorem fieldAt_exitImage_paid (h : off + n ≤ 6) :
    fieldAt (exitImage m p balance daily) off n = fieldAt (payImage p.purse balance) off n := by
  rw [fieldAt, slice_exitImage_closed hlen (by omega), closedImage,
    slice_patch_before (by simp [length_payImage hlen]) h, fieldAt]

theorem purseTripState_exitImage : purseTripState (exitImage m p balance daily) = 0 := by
  rw [purseTripState, fieldAt, slice_exitImage_closed hlen (by decide), ← fieldAt, closedImage,
    fieldAt_patch_inside (by simp [length_payImage hlen]) (Nat.le_refl _) (by simp [length_leBytes]), Nat.sub_self]
  exact (fieldAt_leBytes 1 0).trans (Nat.zero_mod _)

/-- The last exit fields are those of the bytes placed. -/
theorem fieldAt_exitImage_lastExit (hlow : 14 ≤ off) (hhigh : off + n ≤ 20) :
    fieldAt (exitImage m p balance daily) off n = fieldAt (lastExitBytes m p) (off - 14) n := by
  rw [fieldAt, slice_exitImage hlen hhigh, ← fieldAt, exitImage_none,
    fieldAt_patch_inside (by simp [length_closedImage hlen]) hlow (by simpa [length_lastExitBytes] using hhigh)]

/-- Without a daily sum the image from the daily fields on is the card's. -/
theorem drop_exitImage_none (h : 20 ≤ off) : (exitImage m p balance none).drop off = p.purse.drop off := by
  rw [exitImage_none, drop_patch_after (by simp [length_closedImage hlen]) (by simpa [length_lastExitBytes] using h),
    drop_closedImage hlen (by omega)]

/-- Above the daily fields the image is the card's. -/
theorem drop_exitImage (h : 24 ≤ off) : (exitImage m p balance daily).drop off = p.purse.drop off := by
  cases daily with
  | none => exact drop_exitImage_none hlen (by omega)
  | some sum =>
    rw [exitImage_some, drop_patch_after (by simp [length_exitImage_none hlen]) (by simpa [length_leBytes] using h),
      drop_exitImage_none hlen (by omega)]

/-- The daily fields are those of the bytes placed, where a daily sum is written. -/
theorem fieldAt_exitImage_daily {sum : Nat} (hlow : 20 ≤ off) (hhigh : off + n ≤ 24) :
    fieldAt (exitImage m p balance (some sum)) off n =
      fieldAt (leBytes 2 p.transaction.serviceDay ++ leBytes 2 sum) (off - 20) n := by
  rw [exitImage_some, fieldAt_patch_inside (by simp [length_exitImage_none hlen]) hlow
    (by simpa [length_leBytes] using hhigh)]

end

/-- The fields of R102, each as its bytes hold it. -/
theorem exitImage_imagePriced {balance : Int} {daily : Option Nat} (hlen : p.purse.length = 32)
    (hcounter : purseCounter p.purse < 65535) (hlow : -2147483648 ≤ balance) (hhigh : balance < 2147483648)
    (hdaily : ∀ sum, daily = some sum → sum < 65536) (hd : p.direction = .exit) :
    imagePriced m p daily balance (exitImage m p balance daily) := by
  refine ⟨length_exitImage hlen, ?balance, ?counter, fun hentry => absurd (hd.symm.trans hentry) (by decide),
    fun _ => ⟨purseTripState_exitImage hlen, ?trip, drop_exitImage hlen (Nat.le_refl _), ?station, fun hday => ?day,
      fun hminute => ?minute, fun hnone => ?kept, fun hservice sum hsome => ?daily⟩⟩
  case balance =>
    rw [purseBalance, fieldAt_exitImage_paid hlen (by decide)]
    exact purseBalance_payImage hlen hlow hhigh
  case counter =>
    rw [purseCounter, fieldAt_exitImage_paid hlen (by decide)]
    exact purseCounter_payImage hlen hcounter
  case trip => rw [slice_exitImage_closed hlen (by decide), drop_closedImage hlen (Nat.le_refl _)]
  case station =>
    have hcode : stationCode m p.table < 65536 := fareWord_lt _ _ _
    simpa [purseLastExitStation, fieldAt_exitImage_lastExit hlen, lastExitBytes] using hcode
  case day => simpa [purseLastExitDay, fieldAt_exitImage_lastExit hlen, lastExitBytes] using hday
  case minute =>
    have hfit : p.transaction.time.minute < 65536 := by omega
    simpa [purseLastExitMinute, fieldAt_exitImage_lastExit hlen, lastExitBytes] using hfit
  case kept =>
    subst hnone
    simp only [purseDailyDay, purseDailySum, fieldAt, drop_exitImage_none hlen (by decide : 20 ≤ 20),
      drop_exitImage_none hlen (by decide : 20 ≤ 22), and_self]
  case daily =>
    subst hsome
    have hsum := hdaily sum rfl
    constructor
    · simpa [purseDailyDay, fieldAt_exitImage_daily hlen] using hservice
    · simpa [purseDailySum, fieldAt_exitImage_daily hlen] using hsum

/-! ## The floors -/

/-- A balance above the overdraft floor fits the four bytes of the purse. -/
theorem balanceAfter_fits (hfloor : ¬ belowFloor m p) :
    -2147483648 ≤ balanceAfter m p ∧ balanceAfter m p < 2147483648 := by
  have hlimit : overdraftLimit m p.table < 65536 := fareWord_lt _ _ _
  have hover := (not_or.mp hfloor).2
  have hread : purseBalance p.purse < 2147483648 := signedOf_four_lt (fieldAt_lt _ _ _)
  unfold balanceAfter at *
  omega

theorem directionImage_imagePriced (hlen : p.purse.length = 32) (hcounter : purseCounter p.purse < 65535)
    (hfloor : ¬ belowFloor m p) :
    imagePriced m p (directionCharge m p).daily (balanceAfter m p) (directionImage m p (balanceAfter m p)) := by
  obtain ⟨hlow, hhigh⟩ := balanceAfter_fits hfloor
  cases hd : p.direction with
  | entry =>
    simp only [directionImage, hd]
    exact entryImage_imagePriced _ hlen hcounter hlow hhigh hd
  | exit =>
    simp only [directionImage, directionCharge, hd]
    exact exitImage_imagePriced hlen hcounter hlow hhigh (fun _ => exitCharge_daily_lt) hd

end

/-! ## The statements -/

/-- Settles O27: past the counter test EXPIRED is the answer of the expiry test alone, since the floors answer LOW
BALANCE or a price. -/
theorem expiryTest : Obligations.ExpiryTest := by
  intro m p
  refine ⟨price_spent, fun hcounter => ⟨fun hprice => ?_, price_expired hcounter⟩⟩
  refine Decidable.byContradiction fun hexpiry => ?_
  by_cases hfloor : belowFloor m p
  · rw [price_below_floor hcounter hexpiry hfloor] at hprice
    contradiction
  · rw [price_above_floor hcounter hexpiry hfloor] at hprice
    contradiction

/-- Settles O28: the charge is that of the pricing's direction, and the answer past the counter and expiry tests turns
on whether the balance left is below a floor. -/
theorem overdraftFloor : Obligations.OverdraftFloor := by
  intro m p hcounter hexpiry
  have hspent : purseCounter p.purse ≠ 65535 := Nat.ne_of_lt hcounter
  have hvalid : ¬ productExpiry p.product < p.transaction.serviceDay := Nat.not_lt.mpr hexpiry
  refine ⟨directionCharge m p, directionCharge_chargedBy m p, directionCharge_le m p, fun hover => ?overdraft,
    fun hd hfare hentry => ?entryFloor, fun hover hentry => ?above, fun r image hprice => ?result⟩
  case overdraft => exact price_below_floor hspent hvalid (.inr hover)
  case entryFloor => exact price_below_floor hspent hvalid (.inl ⟨hd, hfare, hentry⟩)
  case above =>
    have hfloor : ¬ belowFloor m p := by
      rintro (⟨hd, hfare, hbelow⟩ | hbelow)
      · obtain hexit | hstaff | hpasses := hentry
        · exact absurd (hd.symm.trans hexit) (by decide)
        · exact hfare hstaff
        · exact Int.not_lt.mpr hpasses hbelow
      · exact Int.not_lt.mpr hover hbelow
    exact ⟨_, price_above_floor hspent hvalid hfloor, fun hlen => directionImage_imagePriced hlen hcounter hfloor⟩
  case result =>
    by_cases hfloor : belowFloor m p
    · rw [price_below_floor hspent hvalid hfloor] at hprice
      contradiction
    · rw [price_above_floor hspent hvalid hfloor] at hprice
      obtain ⟨rfl, -⟩ := PriceAnswer.priced.inj hprice
      exact ⟨rfl, rfl, Int.not_lt.mp (not_or.mp hfloor).2⟩

end Sys2Proof.Machine
end

section
/-! SUPPORT. A memory written again from its own list, and the bytes of the order board that a write elsewhere
leaves. -/

namespace Sys2Proof.Machine

open Sys2Proof

/-! ## Memory -/

theorem Memory.readBytes_congr {m m' : List Host.Cell} : ∀ n a : Nat,
    (∀ b, bytesFrom a n b → Memory.read m' b = Memory.read m b) → Memory.readBytes m' a n = Memory.readBytes m a n
  | 0, _, _ => rfl
  | n + 1, a, h => by
    have hfirst : Memory.read m' a = Memory.read m a := h a ⟨Nat.le_refl a, by omega⟩
    have hrest := Memory.readBytes_congr n (a + 1) fun b hb => h b (by unfold bytesFrom at hb ⊢; omega)
    rw [Memory.readBytes, Memory.readBytes, hfirst, hrest]

/-- Writing cells above the first entry of a memory leaves that entry in front. -/
theorem Memory.writeCells_cons_below (b : Nat) (w : Byte) : ∀ (cs m : List Host.Cell),
    Memory.wfFrom (b + 1) cs = true → Memory.writeCells ((b, w) :: m) cs = (b, w) :: Memory.writeCells m cs
  | [], _, _ => rfl
  | (a, v) :: rest, m, h => by
    simp only [Memory.wfFrom, Bool.and_eq_true, decide_eq_true_eq] at h
    obtain ⟨⟨⟨hlow, hsize⟩, -⟩, hrest⟩ := h
    have hput : Memory.write ((b, w) :: m) a v = (b, w) :: Memory.write m a v := by
      simp [Memory.write, hsize, Memory.put, Nat.not_lt.mpr (Nat.le_of_succ_le hlow), (Nat.ne_of_lt hlow).symm]
    rw [Memory.writeCells, hput, Memory.writeCells_cons_below b w rest _ (Memory.wfFrom_mono (by omega) rest hrest),
      Memory.writeCells]

/-- A canonical memory is written again from its own list. -/
theorem Memory.writeCells_nil_self : ∀ (m : List Host.Cell) (low : Nat), Memory.wfFrom low m = true →
    Memory.writeCells [] m = m
  | [], _, _ => rfl
  | (a, v) :: rest, low, h => by
    simp only [Memory.wfFrom, Bool.and_eq_true, decide_eq_true_eq, bne_iff_ne] at h
    obtain ⟨⟨⟨-, hsize⟩, hv⟩, hrest⟩ := h
    have hfirst : Memory.write [] a v = [(a, v)] := by simp [Memory.write, hsize, Memory.put, hv]
    rw [Memory.writeCells, hfirst, Memory.writeCells_cons_below a v rest [] hrest,
      Memory.writeCells_nil_self rest (a + 1) hrest]

/-- A canonical memory lists no byte outside the exchange memory. -/
theorem outsideMemory_of_wf : ∀ (m : List Host.Cell) (low : Nat), Memory.wfFrom low m = true → outsideMemory m = none
  | [], _, _ => rfl
  | (a, v) :: rest, low, h => by
    simp only [Memory.wfFrom, Bool.and_eq_true, decide_eq_true_eq] at h
    obtain ⟨⟨⟨-, hsize⟩, -⟩, hrest⟩ := h
    have ih := outsideMemory_of_wf rest (a + 1) hrest
    simpa [outsideMemory, List.find?_cons, Nat.not_le.mpr hsize] using ih

/-! ## The order board's bytes -/

/-- Two memories read alike over the order board (R187). -/
def SameBoard (m m' : List Host.Cell) : Prop := ∀ a, 0x100 ≤ a → a < 0x300 → Memory.read m' a = Memory.read m a

theorem SameBoard.trans {m m' m'' : List Host.Cell} (h : SameBoard m m') (h' : SameBoard m' m'') : SameBoard m m'' :=
  fun a hlow hhigh => (h' a hlow hhigh).trans (h a hlow hhigh)

theorem sameBoard_writeBytes_below {m : List Host.Cell} {a : Nat} {bs : List Byte} (h : a + bs.length ≤ 0x100) :
    SameBoard m (Memory.writeBytes m a bs) :=
  fun b hlow _ => Memory.read_writeBytes_outside bs m a b (.inr (Nat.le_trans h hlow))

theorem sameBoard_writeBytes_free {m : List Host.Cell} {a : Nat} {bs : List Byte} (h : 0x300 ≤ a) :
    SameBoard m (Memory.writeBytes m a bs) :=
  fun b _ hhigh => Memory.read_writeBytes_outside bs m a b (.inl (Nat.lt_of_lt_of_le hhigh h))

/-- A slot's state word is two bytes of the slot. -/
theorem stateWord_congr {m m' : List Host.Cell} {k : Fin 8}
    (h : ∀ a, bytesFrom (slotBase k) 2 a → Memory.read m' a = Memory.read m a) : stateWord m' k = stateWord m k :=
  congrArg leNat (Memory.readBytes_congr 2 (slotBase k) h)

theorem SameBoard.stateWord {m m' : List Host.Cell} (h : SameBoard m m') (k : Fin 8) :
    stateWord m' k = stateWord m k := by
  refine stateWord_congr fun a ⟨hlow, hhigh⟩ => h a ?_ ?_ <;> unfold slotBase at * <;> omega

end Sys2Proof.Machine
end

section
/-! SUPPORT. What a start-up leaves in the registers: the order board's bytes up to its examination, the slots that the
examination refuses, and the causes these raise (10 R202 to R206). -/

namespace Sys2Proof.Machine

open Sys2Proof

/-! ## A record cut short -/

theorem sameBoard_writeRecordWords {base : Nat} (record : List Byte) (h : 0x300 ≤ base) :
    ∀ (offsets : List Nat) (m : List Host.Cell), SameBoard m (writeRecordWords m base record offsets)
  | [], _ => fun _ _ _ => rfl
  | _ :: rest, _ =>
    (sameBoard_writeBytes_free (Nat.le_add_right_of_le h)).trans (sameBoard_writeRecordWords record h rest _)

/-- A record cut short stands in the ring, which lies in the free region (R175, R208). -/
theorem State.cutRecord_sameBoard {s : State} (cut : Nat) (h : ringInFree s) :
    SameBoard s.mem (s.cutRecord cut).mem := by
  unfold State.cutRecord
  split
  next q rest r hqueue hring =>
    obtain ⟨hbase, -, -⟩ := h r hring
    exact sameBoard_writeRecordWords _ (Nat.le_add_right_of_le hbase) _ _
  next => exact fun _ _ _ => rfl

@[simp] theorem State.cutRecord_port (s : State) (cut : Nat) : (s.cutRecord cut).port = s.port := by
  unfold State.cutRecord
  split <;> rfl

/-! ## The steps before the board's examination -/

@[simp] theorem State.resetBlocks_regs (s : State) (kind : StartKind) (strap : PortWidth) :
    (s.resetBlocks kind strap).regs = ⟨0x0020#16, 0#16⟩ := rfl
@[simp] theorem State.resetBlocks_mem (s : State) (kind : StartKind) (strap : PortWidth) :
    (s.resetBlocks kind strap).mem = s.mem := rfl
@[simp] theorem State.resetBlocks_waiting (s : State) (kind : StartKind) (strap : PortWidth) :
    (s.resetBlocks kind strap).port.waiting = s.port.waiting := rfl

@[simp] theorem State.setPartState_regs (s : State) (p : PartState) : (s.setPartState p).regs = s.regs := rfl
@[simp] theorem State.setPartState_port (s : State) (p : PartState) : (s.setPartState p).port = s.port := rfl

theorem State.setPartState_sameBoard (s : State) (p : PartState) : SameBoard s.mem (s.setPartState p).mem :=
  sameBoard_writeBytes_below (by simp [length_leBytes])

@[simp] theorem State.writeHeader_regs (s : State) : s.writeHeader.regs = s.regs := by
  simp only [State.writeHeader, State.writeMem_regs]
@[simp] theorem State.writeHeader_port (s : State) : s.writeHeader.port = s.port := by
  simp only [State.writeHeader, State.writeMem_port]

theorem State.writeHeader_sameBoard (s : State) : SameBoard s.mem s.writeHeader.mem := by
  simp only [State.writeHeader, State.writeMem_mem]
  exact SameBoard.trans (sameBoard_writeBytes_below (by simp [length_leBytes])) (sameBoard_writeBytes_below (by simp))

@[simp] theorem State.serveReads_regs (s : State) (rs : List PortRead) : (s.serveReads rs).regs = s.regs := by
  rw [State.serveReads_same rs s]
@[simp] theorem State.serveReads_mem (s : State) (rs : List PortRead) : (s.serveReads rs).mem = s.mem := by
  rw [State.serveReads_same rs s]
@[simp] theorem State.startReads_regs (s : State) (rs : List MemoryRead) : (s.startReads rs).regs = s.regs := by
  rw [State.startReads_same rs s]
@[simp] theorem State.startReads_mem (s : State) (rs : List MemoryRead) : (s.startReads rs).mem = s.mem := by
  rw [State.startReads_same rs s]

@[simp] theorem State.narrowRead_waiting (s : State) (a : BitVec 18) :
    (s.narrowRead a).1.port.waiting = s.port.waiting := by
  unfold State.narrowRead
  by_cases h : a.toNat % 2 = 0
  · rw [if_pos h]
    rfl
  · rw [if_neg h]
    rfl

/-- A read that is served leaves the accesses that wait. -/
@[simp] theorem State.portRead_waiting (s : State) (r : PortRead) : (s.portRead r).port.waiting = s.port.waiting := by
  unfold State.portRead
  split
  case h_4 => exact (State.narrowRead_waiting _ _).trans (State.narrowRead_waiting _ _)
  case h_5 => exact State.narrowRead_waiting _ _
  all_goals rfl

/-- Where no access waits, the reads begun in a start-up are served at once (R191). -/
theorem State.startReads_waiting : ∀ (rs : List MemoryRead) (s : State), s.port.waiting = [] →
    (s.startReads rs).port.waiting = []
  | [], _, h => h
  | r :: rest, s, h => by
    have hserved : (s.startReads (r :: rest)) = (s.portRead (memoryAccess r)).startReads rest := by
      simp [State.startReads, h]
    rw [hserved]
    exact State.startReads_waiting rest _ ((State.portRead_waiting s _).trans h)

/-- The start-up up to STARTING, with the reads that waited for it served. -/
def State.starting (s : State) (kind : StartKind) (strap : PortWidth) : State :=
  let s := (s.resetBlocks kind strap).setPartState .starting
  let reads := leadingReads s.port.waiting
  (s.serveReads reads.1).setPort fun p => { p with waiting := reads.2 }

/-- The start-up up to the examination of the board (R205 step 4). -/
def State.beforeBoard (s : State) (kind : StartKind) (inputs : StartInputs) : State :=
  (((s.starting kind inputs.strap).startReads inputs.starting).writeHeader.setPartState .setup).startReads inputs.setup

theorem State.startSteps_eq (s : State) (kind : StartKind) (inputs : StartInputs) :
    s.startSteps kind inputs =
      ((List.finRange 8).foldl (State.examineSlot kind) (s.beforeBoard kind inputs)).setPartState .running := rfl

@[simp] theorem State.beforeBoard_regs (s : State) (kind : StartKind) (inputs : StartInputs) :
    (s.beforeBoard kind inputs).regs = ⟨0x0020#16, 0#16⟩ := by
  simp [State.beforeBoard, State.starting]

theorem State.beforeBoard_sameBoard (s : State) (kind : StartKind) (inputs : StartInputs) :
    SameBoard s.mem (s.beforeBoard kind inputs).mem := by
  have hstarting : SameBoard s.mem (s.starting kind inputs.strap).mem := by
    simpa [State.starting] using (s.resetBlocks kind inputs.strap).setPartState_sameBoard .starting
  rw [State.beforeBoard, State.startReads_mem]
  refine SameBoard.trans ?_ ((State.writeHeader_sameBoard _).trans (State.setPartState_sameBoard _ _))
  rwa [State.startReads_mem]

theorem State.beforeBoard_waiting {s : State} (kind : StartKind) (inputs : StartInputs) (h : s.port.waiting = []) :
    (s.beforeBoard kind inputs).port.waiting = [] := by
  have hstarting : (s.starting kind inputs.strap).port.waiting = [] := by simp [State.starting, h, leadingReads]
  refine State.startReads_waiting inputs.setup _ ?_
  rw [State.setPartState_port, State.writeHeader_port]
  exact State.startReads_waiting inputs.starting _ hstarting

/-! ## The board's examination -/

/-- A start-up of that kind refuses a slot whose state word holds that value: TAKEN, and at power-on POSTED too
(R205 step 4, R206). -/
def refusesWord (kind : StartKind) (w : Nat) : Bool := w = 2 || (kind = .powerOn && w = 1)

/-- A slot that is refused is written over and raises ORDER; any other only gets its state, with the word EMPTY where it
held no state to keep. -/
theorem State.examineSlot_cases (kind : StartKind) (s : State) (k : Fin 8) :
    (refusesWord kind (stateWord s.mem k) = true ∧
      State.examineSlot kind s k = (s.zeroSlotStaging k).refuseSlot k) ∨
    (refusesWord kind (stateWord s.mem k) = false ∧
      ((∃ v, State.examineSlot kind s k = s.setSlot k v) ∨
        State.examineSlot kind s k =
          (s.setSlot k .empty).writeMem (slotBase k) (leBytes 2 SlotState.empty.code))) := by
  unfold State.examineSlot refusesWord stateWord
  generalize Memory.readNat s.mem (slotBase k) 2 = w
  match kind, w with
  | _, 2 => exact .inl ⟨rfl, rfl⟩
  | .powerOn, 1 => exact .inl ⟨rfl, rfl⟩
  | .powerOn, 0 => exact .inr ⟨rfl, .inr rfl⟩
  | .powerOn, 3 => exact .inr ⟨rfl, .inr rfl⟩
  | .powerOn, 4 => exact .inr ⟨rfl, .inr rfl⟩
  | .restart, 0 => exact .inr ⟨rfl, .inl ⟨_, rfl⟩⟩
  | .restart, 1 => exact .inr ⟨rfl, .inl ⟨_, rfl⟩⟩
  | .restart, 3 => exact .inr ⟨rfl, .inl ⟨_, rfl⟩⟩
  | .restart, 4 => exact .inr ⟨rfl, .inl ⟨_, rfl⟩⟩
  | .powerOn, n + 5 => exact .inr ⟨by simp, .inr rfl⟩
  | .restart, n + 5 => exact .inr ⟨by simp, .inr rfl⟩

@[simp] theorem State.zeroSlotStaging_regs (s : State) (k : Fin 8) : (s.zeroSlotStaging k).regs = s.regs := by
  simp only [State.zeroSlotStaging]
  split <;> rfl
@[simp] theorem State.zeroSlotStaging_port (s : State) (k : Fin 8) : (s.zeroSlotStaging k).port = s.port := by
  simp only [State.zeroSlotStaging]
  split <;> rfl

/-- The staging area that is zeroed lies in the free region. -/
theorem State.zeroSlotStaging_sameBoard (s : State) (k : Fin 8) : SameBoard s.mem (s.zeroSlotStaging k).mem := by
  simp only [State.zeroSlotStaging]
  split
  next h =>
    obtain ⟨-, hfree⟩ := h
    simp only [Area.inFree, Bool.and_eq_true, decide_eq_true_eq] at hfree
    exact sameBoard_writeBytes_free hfree.1
  next => exact fun _ _ _ => rfl

@[simp] theorem State.refuseSlot_regs (s : State) (k : Fin 8) :
    (s.refuseSlot k).regs = { s.regs with attention := s.regs.attention ||| Cause.order.bit } := by
  simp only [State.refuseSlot, State.raise_regs, State.setSlot_regs, State.writeMem_regs]
@[simp] theorem State.refuseSlot_port (s : State) (k : Fin 8) : (s.refuseSlot k).port = s.port := by
  simp only [State.refuseSlot, State.raise_port, State.setSlot_port, State.writeMem_port]

/-- Refusing a slot writes bytes of that slot only. -/
theorem State.refuseSlot_read (s : State) {k : Fin 8} {a : Nat} (h : ¬ bytesFrom (slotBase k) 64 a) :
    Memory.read (s.refuseSlot k).mem a = Memory.read s.mem a := by
  unfold bytesFrom at h
  simp only [State.refuseSlot, State.raise_mem, State.setSlot_mem, State.writeMem_mem]
  iterate 4
    rw [Memory.read_writeBytes_outside _ _ _ _ (by
      simp only [length_leBytes, Memory.length_readBytes, List.length_replicate]
      omega)]

@[simp] theorem State.examineSlot_port (kind : StartKind) (s : State) (k : Fin 8) :
    (State.examineSlot kind s k).port = s.port := by
  obtain ⟨-, h⟩ | ⟨-, ⟨v, h⟩ | h⟩ := State.examineSlot_cases kind s k <;> simp [h]

/-- The examination of one slot leaves the other slots' bytes. -/
theorem State.examineSlot_read (kind : StartKind) (s : State) {k : Fin 8} {a : Nat} (hlow : 0x100 ≤ a)
    (hhigh : a < 0x300) (ha : ¬ bytesFrom (slotBase k) 64 a) :
    Memory.read (State.examineSlot kind s k).mem a = Memory.read s.mem a := by
  obtain ⟨-, h⟩ | ⟨-, ⟨v, h⟩ | h⟩ := State.examineSlot_cases kind s k <;> rw [h]
  · exact (State.refuseSlot_read _ ha).trans (State.zeroSlotStaging_sameBoard s k a hlow hhigh)
  · rfl
  · refine Memory.read_writeBytes_outside _ _ _ _ ?_
    rw [length_leBytes]
    unfold bytesFrom at ha
    omega

theorem State.examineSlot_stateWord_ne (kind : StartKind) (s : State) {k j : Fin 8} (h : j ≠ k) :
    stateWord (State.examineSlot kind s k).mem j = stateWord s.mem j := by
  have hne : j.val ≠ k.val := Fin.val_ne_of_ne h
  refine stateWord_congr fun a ⟨hlow, hhigh⟩ => State.examineSlot_read kind s ?_ ?_ ?_ <;>
    unfold bytesFrom slotBase at * <;> omega

/-! ## The causes -/

/-- The bit ORDER of ATTENTION, or no bit. -/
def orderIf (b : Bool) : Word := if b then Cause.order.bit else 0#16

theorem orderIf_or (a b : Bool) : orderIf a ||| orderIf b = orderIf (a || b) := by
  cases a <;> cases b <;> rfl

theorem State.examineSlot_regs (kind : StartKind) (s : State) (k : Fin 8) :
    (State.examineSlot kind s k).regs =
      { s.regs with attention := s.regs.attention ||| orderIf (refusesWord kind (stateWord s.mem k)) } := by
  obtain ⟨hrefused, h⟩ | ⟨hkept, ⟨v, h⟩ | h⟩ := State.examineSlot_cases kind s k
  · simp [h, hrefused, orderIf]
  · simp [h, hkept, orderIf]
  · simp [h, hkept, orderIf]

theorem State.examineSlots_port (kind : StartKind) : ∀ (ks : List (Fin 8)) (s : State),
    (ks.foldl (State.examineSlot kind) s).port = s.port
  | [], _ => rfl
  | k :: rest, s => (State.examineSlots_port kind rest _).trans (State.examineSlot_port kind s k)

/-- The examination raises ORDER exactly when one of the slots held a word that is refused. -/
theorem State.examineSlots_regs (kind : StartKind) : ∀ (ks : List (Fin 8)) (s : State), ks.Nodup →
    (ks.foldl (State.examineSlot kind) s).regs =
      { s.regs with
        attention := s.regs.attention ||| orderIf (ks.any fun k => refusesWord kind (stateWord s.mem k)) }
  | [], s, _ => by simp [orderIf]
  | k :: rest, s, hnodup => by
    obtain ⟨hk, hrest⟩ := List.nodup_cons.mp hnodup
    have hothers : (rest.any fun j => refusesWord kind (stateWord (State.examineSlot kind s k).mem j)) =
        rest.any fun j => refusesWord kind (stateWord s.mem j) := by
      rw [Bool.eq_iff_iff, List.any_eq_true, List.any_eq_true]
      refine exists_congr fun j => and_congr_right fun hj => ?_
      rw [State.examineSlot_stateWord_ne kind s (ne_of_mem_of_not_mem hj hk)]
    rw [List.foldl_cons, State.examineSlots_regs kind rest _ hrest, hothers, State.examineSlot_regs, BitVec.or_assoc,
      orderIf_or, List.any_cons]

/-- A start-up of that kind refuses an order over that memory. -/
def refusesAny (kind : StartKind) (m : List Host.Cell) : Bool :=
  (List.finRange 8).any fun k => refusesWord kind (stateWord m k)

theorem refusesAny_restart (m : List Host.Cell) : refusesAny .restart m = true ↔ ∃ k : Fin 8, stateWord m k = 2 := by
  simp [refusesAny, refusesWord]

theorem refusesAny_powerOn (m : List Host.Cell) :
    refusesAny .powerOn m = true ↔ ∃ k : Fin 8, stateWord m k = 1 ∨ stateWord m k = 2 := by
  simp [refusesAny, refusesWord, or_comm]

theorem SameBoard.refusesAny {m m' : List Host.Cell} (h : SameBoard m m') (kind : StartKind) :
    refusesAny kind m' = refusesAny kind m := by
  simp only [Machine.refusesAny, h.stateWord]

/-- A start-up leaves CLOCK, and ORDER when it refused an order, and the mask zero (R205, R206). -/
theorem State.startSteps_regs (s : State) (kind : StartKind) (inputs : StartInputs) :
    (s.startSteps kind inputs).regs = ⟨0x0020#16 ||| orderIf (refusesAny kind s.mem), 0#16⟩ := by
  rw [State.startSteps_eq, State.setPartState_regs, State.examineSlots_regs kind _ _ (List.nodup_finRange 8),
    State.beforeBoard_regs, ← (s.beforeBoard_sameBoard kind inputs).refusesAny kind, refusesAny]

theorem State.startSteps_waiting {s : State} (kind : StartKind) (inputs : StartInputs) (h : s.port.waiting = []) :
    (s.startSteps kind inputs).port.waiting = [] := by
  rw [State.startSteps_eq, State.setPartState_port, State.examineSlots_port]
  exact State.beforeBoard_waiting kind inputs h

/-- With no access waiting a whole start-up leaves what its six steps leave. -/
theorem State.startUp_regs {s : State} (kind : StartKind) (inputs : StartInputs) (h : s.port.waiting = []) :
    (s.startUp kind inputs).regs = ⟨0x0020#16 ||| orderIf (refusesAny kind s.mem), 0#16⟩ := by
  rw [← State.startSteps_regs s kind inputs]
  simp only [State.startUp, State.startSteps_waiting kind inputs h, State.serveWaiting, State.setPort_regs]

/-! ## The rows of the start-ups -/

/-- POWER_ON over a canonical memory starts up over that memory. -/
theorem exec_powerOn_of_wf (inputs : StartInputs) (s : State) {m : List Host.Cell} (h : Memory.wf m = true) :
    exec (.powerOn inputs m) s =
      .next (State.startUp { s with mem := m, port := { s.port with waiting := [], dataOut := [] } } .powerOn
        inputs) := by
  change execPowerOn inputs m s = _
  rw [execPowerOn, outsideMemory_of_wf m 0 h, Memory.writeCells_nil_self m 0 h]

/-- RESTART with bit 0 of the word set, the reset pin released (R204). -/
theorem exec_restart_of_bit (inputs : StartInputs) (cut : Nat) {s : State} (h : s.sys.resetPin = false) :
    exec (.restart (.word 1#16) inputs cut) s =
      .next ((s.clearLatches.cutRecord cut).startSteps .restart inputs) := by
  change execRestart (.word 1#16) inputs cut s = _
  simp [execRestart, State.access, h, State.writeControl, regBits]

/-! ## The attention line -/

theorem State.attentionLine_iff (s : State) :
    s.attentionLine = true ↔
      ∃ i : Nat, i < 16 ∧ s.regs.attention.getLsbD i = true ∧ s.regs.mask.getLsbD i = true := by
  have hzero : s.attentionLine = false ↔ ∀ i, i < 16 → (s.regs.attention &&& s.regs.mask).getLsbD i = false := by
    rw [State.attentionLine, bne_eq_false_iff_eq]
    constructor
    · intro h i _
      rw [h, BitVec.getLsbD_zero]
    · intro h
      exact BitVec.eq_of_getLsbD_eq fun i hi => (h i hi).trans BitVec.getLsbD_zero.symm
  rw [← Bool.not_eq_false, hzero]
  simp [BitVec.getLsbD_and]

/-- With the mask zero no cause asserts the line. -/
theorem State.attentionLine_of_mask_zero {s : State} (h : s.regs.mask = 0#16) : s.attentionLine = false := by
  simp [State.attentionLine, h]

/-- The registers after a start-up as R203 reads them. -/
theorem State.released_of_regs {t : State} {refused : Bool} {p : Prop} [Decidable p] (hp : refused = true ↔ p)
    (h : t.regs = ⟨0x0020#16 ||| orderIf refused, 0#16⟩) :
    t.regs.mask = 0#16 ∧ t.attentionLine = false ∧ t.regs.attention = if p then 0x0021#16 else 0x0020#16 := by
  have hmask : t.regs.mask = 0#16 := by rw [h]
  refine ⟨hmask, State.attentionLine_of_mask_zero hmask, ?_⟩
  rw [h]
  by_cases hrefused : p
  · rw [if_pos hrefused, hp.mpr hrefused]
    rfl
  · rw [if_neg hrefused, Bool.eq_false_iff.mpr (mt hp.mp hrefused)]
    rfl

/-- Settles O9: step 1 of a start-up leaves CLOCK and the mask zero, and only the examination of the board adds to them,
ORDER for each slot it refuses. -/
theorem attentionLineFollowsRegisters : Obligations.AttentionLineFollowsRegisters := by
  refine ⟨State.attentionLine_iff, fun inputs s hmem => ⟨fun cut hwaiting hring => ⟨_, rfl, ?release⟩,
    fun cut hpin _ hring => ⟨_, exec_restart_of_bit inputs cut hpin, ?restart⟩,
    ⟨_, exec_powerOn_of_wf inputs s hmem, ?powerOn⟩⟩⟩
  case release =>
    have hregs := State.startUp_regs (s := s.cutRecord cut) .restart inputs (by rwa [State.cutRecord_port])
    rw [(State.cutRecord_sameBoard cut hring).refusesAny] at hregs
    exact State.released_of_regs (refusesAny_restart s.mem) hregs
  case restart =>
    have hboard : SameBoard s.mem (s.clearLatches.cutRecord cut).mem := State.cutRecord_sameBoard cut hring
    have hregs := (s.clearLatches.cutRecord cut).startSteps_regs .restart inputs
    rw [hboard.refusesAny] at hregs
    exact State.released_of_regs (refusesAny_restart s.mem) hregs
  case powerOn => exact State.released_of_regs (refusesAny_powerOn s.mem) (State.startUp_regs .powerOn inputs rfl)

end Sys2Proof.Machine
end

section
/-! SUPPORT. What the effects of commands keep: the laws of the part, the queue, the shown bytes and the stamps. One
lemma for each operation of the model; the step's laws follow by composing them. -/

namespace Sys2Proof.Machine

open Sys2Proof

/-! ## What an effect keeps -/

/-- The change of a lane keeps each law of a lane that held before it. -/
structure Lane.Keeps (x y : Lane) : Prop where
  leaves : x.LeavesSafe → y.LeavesSafe
  credits : x.CreditsLegal → y.CreditsLegal
  link : x.LinkLegal → y.LinkLegal
  counts : x.CountsLegal → y.CountsLegal

/-- A lane's change within an event: the laws are kept, and the stamp waits for the event's end (R189). -/
structure Lane.Effect (x y : Lane) : Prop extends Lane.Keeps x y where
  stamp : y.stamp = x.stamp

theorem Lane.Effect.refl (x : Lane) : x.Effect x := ⟨⟨id, id, id, id⟩, rfl⟩

theorem Lane.Effect.trans {x y z : Lane} (h : x.Effect y) (k : y.Effect z) : x.Effect z :=
  ⟨⟨k.leaves ∘ h.leaves, k.credits ∘ h.credits, k.link ∘ h.link, k.counts ∘ h.counts⟩, k.stamp.trans h.stamp⟩

/-- What the part writes of its own accord lies in the free region: its ring (R175) and the staging area of a key that
is being loaded (R69). -/
def State.WritesFree (s : State) : Prop :=
  ringInFree s ∧ ∀ o, s.orders.service = some o → o.stage = .loadingKey → 0x300 ≤ o.arg 2 4

/-- What an event's effect keeps before the event's end: the laws of the part, the queue, the stamps, and the bytes that
only the event's end writes. -/
structure State.Effect (s t : State) : Prop where
  lanes : ∀ l, (s.lane l).Effect (t.lane l)
  memory : s.MemoryLegal → t.MemoryLegal
  table : s.TableLegal → t.TableLegal
  clock : s.ClockLegal → t.ClockLegal
  regs : s.RegistersLegal → t.RegistersLegal
  pending : t.pending = s.pending
  shown : s.WritesFree → t.WritesFree ∧ ∀ a, shownByte a → Memory.read t.mem a = Memory.read s.mem a

theorem State.Effect.refl (s : State) : s.Effect s :=
  ⟨fun l => .refl (s.lane l), id, id, id, id, rfl, fun h => ⟨h, fun _ _ => rfl⟩⟩

theorem State.Effect.trans {s t u : State} (h : s.Effect t) (k : t.Effect u) : s.Effect u where
  lanes l := (h.lanes l).trans (k.lanes l)
  memory := k.memory ∘ h.memory
  table := k.table ∘ h.table
  clock := k.clock ∘ h.clock
  regs := k.regs ∘ h.regs
  pending := k.pending.trans h.pending
  shown hs := by
    obtain ⟨ht, hread⟩ := h.shown hs
    obtain ⟨hu, hread'⟩ := k.shown ht
    exact ⟨hu, fun a ha => (hread' a ha).trans (hread a ha)⟩

/-- The same with the last operation named first. -/
theorem State.Effect.after {s t u : State} (k : t.Effect u) (h : s.Effect t) : s.Effect u := h.trans k

/-- The parts of the state that the laws speak of. -/
def State.lawParts (s : State) :=
  (s.lanes, s.mem, s.screening.table, s.clock, s.regs, s.pending, s.journal.ring, s.journal.position,
    s.orders.service)

/-- An operation on other parts of the state keeps every law. -/
theorem State.Effect.of_lawParts {s t : State} (h : t.lawParts = s.lawParts) : s.Effect t := by
  simp only [State.lawParts, Prod.mk.injEq] at h
  obtain ⟨hlanes, hmem, htable, hclock, hregs, hpending, hring, hposition, hservice⟩ := h
  refine ⟨fun l => ?_, ?_, ?_, ?_, ?_, hpending, ?_⟩
  · rw [State.lane_congr hlanes]
    exact .refl _
  · rw [State.MemoryLegal, State.MemoryLegal, hmem]
    exact id
  · rw [State.TableLegal, State.TableLegal, htable]
    exact id
  · rw [State.ClockLegal, State.ClockLegal, hclock]
    exact id
  · rw [State.RegistersLegal, State.RegistersLegal, hregs]
    exact id
  · rw [State.WritesFree, State.WritesFree, ringInFree, ringInFree, hring, hposition, hservice, hmem]
    exact fun hs => ⟨hs, fun _ _ => rfl⟩

/-- An effect from a state that differs in other parts only. -/
theorem State.Effect.from_lawParts {s t u : State} (h : t.Effect u) (k : t.lawParts = s.lawParts) : s.Effect u :=
  (State.Effect.of_lawParts k).trans h

/-! ## The named updates -/

variable (s : State)

theorem State.setLane_effect {l : LaneId} {x : Lane} (h : (s.lane l).Effect x) : s.Effect (s.setLane l x) := by
  refine ⟨fun k => ?_, id, id, id, id, rfl, fun hs => ⟨hs, fun _ _ => rfl⟩⟩
  by_cases hk : k = l
  · rw [hk, State.lane_setLane_self]
    exact h
  · rw [State.lane_setLane_ne s x hk]
    exact .refl _

theorem State.updLane_effect {l : LaneId} {f : Lane → Lane} (h : ∀ x : Lane, x.Effect (f x)) :
    s.Effect (s.updLane l f) := s.setLane_effect (h _)

theorem State.onLane_effect {l : LaneId} {f : Parameters → Nat → Lane → Lane}
    (h : ∀ p tb (x : Lane), x.Effect (f p tb x)) : s.Effect (s.onLane l f) := s.setLane_effect (h _ _ _)

/-- A write outside the shown bytes. -/
theorem State.writeMem_effect {a : Nat} {bs : List Byte}
    (h : s.WritesFree → ∀ b, bytesFrom a bs.length b → ¬ shownByte b) : s.Effect (s.writeMem a bs) := by
  refine ⟨fun _ => .refl _, Memory.wf_writeBytes bs s.mem a, id, id, id, rfl, fun hs => ⟨hs, fun b hb => ?_⟩⟩
  refine Memory.read_writeBytes_outside bs s.mem a b ?_
  have hout : ¬ bytesFrom a bs.length b := fun hin => h hs b hin hb
  unfold bytesFrom at hout
  omega

/-- A write from the order board on. -/
theorem State.writeMem_effect_above {a : Nat} {bs : List Byte} (h : s.WritesFree → 0xC0 ≤ a) :
    s.Effect (s.writeMem a bs) :=
  s.writeMem_effect fun hs b hb => by
    have ha := h hs
    unfold bytesFrom at hb
    unfold shownByte
    omega

/-- A write into the header after the readiness summary. -/
theorem State.writeMem_effect_header {a : Nat} {bs : List Byte} (h : 0x04 ≤ a) (h' : a + bs.length ≤ 0x40) :
    s.Effect (s.writeMem a bs) :=
  s.writeMem_effect fun _ b hb => by
    unfold bytesFrom at hb
    unfold shownByte
    omega

theorem Cause.bit_le (c : Cause) : c.bit &&& ~~~causeBits = 0#16 := by
  cases c <;> decide

theorem State.raise_effect (c : Cause) : s.Effect (s.raise c) := by
  refine ⟨fun _ => .refl _, id, id, id, fun h => ⟨?_, h.2⟩, rfl, fun hs => ⟨hs, fun _ _ => rfl⟩⟩
  obtain ⟨hattention, -⟩ := h
  rw [State.raise_regs, BitVec.and_comm, BitVec.and_or_distrib_left, BitVec.and_comm, hattention, BitVec.and_comm,
    Cause.bit_le]
  rfl

theorem State.recordHeld_effect (a : Nat) : s.Effect (s.recordHeld a) :=
  ((State.raise_effect { s with sys := { s.sys with lastHeld := a } } .held).trans
    (State.writeMem_effect_header _ (by decide) (by simp [length_leBytes]))).from_lawParts rfl

theorem State.setHeld_effect (h : HeldList) : s.Effect (s.setHeld h) := .of_lawParts rfl

theorem State.enqueue_effect (r : RecordRequest) : s.Effect (s.enqueue r) := .of_lawParts rfl

theorem State.setReserved_effect (n : Nat) : s.Effect (s.setReserved n) := .of_lawParts rfl

theorem State.defer_effect (row : Deferred) : s.Effect (s.defer row) := .of_lawParts rfl

theorem State.setReady_effect (f : Readiness → Readiness) : s.Effect (s.setReady f) := .of_lawParts rfl

theorem State.setSlot_effect (k : Fin 8) (v : SlotState) : s.Effect (s.setSlot k v) := .of_lawParts rfl

theorem State.setFare_effect (f : FareUnit) : s.Effect (s.setFare f) := .of_lawParts rfl

theorem State.setLists_effect (a p : Option Denylist) : s.Effect (s.setLists a p) := .of_lawParts rfl

theorem State.setKeySlot_effect (i : Fin 8) (k : KeySlot) : s.Effect (s.setKeySlot i k) := .of_lawParts rfl

/-- A timed event keeps what its effect keeps. -/
theorem State.onDue_effect {due : Nat} {f : State → State}
    (h : ∀ tb, State.Effect { s with timeBase := tb } (f { s with timeBase := tb })) : s.Effect (s.onDue due f) := by
  obtain ⟨-, hdue⟩ | ⟨-, hdue⟩ := s.onDue_cases due f
  · rw [hdue]
    exact (h _).from_lawParts rfl
  · rw [hdue]
    exact .refl s

/-- The stage of the order in service changes; LOAD KEY's own stage needs its staging area in the free region. -/
theorem State.setStage_effect {g : OrderStage}
    (h : g = .loadingKey → ∀ o, s.orders.service = some o → 0x300 ≤ o.arg 2 4) : s.Effect (s.setStage g) := by
  refine ⟨fun _ => .refl _, id, id, id, id, rfl, fun ⟨hring, _⟩ => ⟨⟨hring, fun o ho hg => ?_⟩, fun _ _ => rfl⟩⟩
  obtain ⟨o', ho', rfl⟩ := Option.map_eq_some_iff.mp ho
  exact h hg o' ho'

theorem State.answerAt_effect (due : Nat) (done : Bool) (code : OrderCode) (data : ResultData) :
    s.Effect (s.answerAt due done code data) := s.setStage_effect nofun

theorem State.answer_effect (o : OrderInService) (done : Bool) (code : OrderCode) (data : ResultData) :
    s.Effect (s.answer o done code data) := s.answerAt_effect _ done code data

theorem State.withOrder_effect {kind : Nat} {f : OrderInService → State}
    (h : ∀ o, s.orders.service = some o → s.Effect (f o)) : s.Effect (s.withOrder kind f) := by
  obtain ⟨o, ho, -, -, hf⟩ | hf := s.withOrder_cases kind f
  · rw [hf]
    exact h o ho
  · rw [hf]
    exact .refl s

end Sys2Proof.Machine
end

section
/-! SUPPORT. The sighting table under its operations: what a search finds afterwards, and that no operation adds an
entry beyond the table's limit or a card twice (R105, R106, R108). -/

namespace Sys2Proof.Machine

open Sys2Proof

/-! ## What a search finds -/

theorem findSighting_card {t : List Sighting} {card : CardNumber} {e : Sighting} (h : findSighting t card = some e) :
    e.card = card := by
  simpa using List.find?_some h

theorem findSighting_mem {t : List Sighting} {card : CardNumber} {e : Sighting} (h : findSighting t card = some e) :
    e ∈ t := List.mem_of_find?_eq_some h

theorem findSighting_eq_none {t : List Sighting} {card : CardNumber} :
    findSighting t card = none ↔ ∀ e ∈ t, e.card ≠ card := by
  simp [findSighting]

/-- In a table with no card twice an entry is the one its card finds. -/
theorem findSighting_of_mem : ∀ {t : List Sighting} {e : Sighting}, (t.map Sighting.card).Nodup → e ∈ t →
    findSighting t e.card = some e
  | x :: rest, e, hnodup, hmem => by
    obtain ⟨hx, hrest⟩ := List.nodup_cons.mp hnodup
    obtain rfl | hmem := List.mem_cons.mp hmem
    · simp [findSighting]
    · have hne : x.card ≠ e.card := fun h => hx (h ▸ List.mem_map_of_mem hmem)
      rw [findSighting, List.find?_cons_of_neg (by simpa using hne)]
      exact findSighting_of_mem hrest hmem

theorem findSighting_changeSighting_self (card : CardNumber) (f : Sighting → Sighting) : ∀ t : List Sighting,
    findSighting (changeSighting t card f) card = (findSighting t card).map fun e => { f e with card := e.card }
  | [] => rfl
  | e :: rest => by
    have ih := findSighting_changeSighting_self card f rest
    by_cases h : e.card = card
    · simp [findSighting, changeSighting, h]
    · simpa [findSighting, changeSighting, h] using ih

theorem findSighting_changeSighting_ne {card k : CardNumber} (f : Sighting → Sighting) (h : k ≠ card) :
    ∀ t : List Sighting, findSighting (changeSighting t card f) k = findSighting t k
  | [] => rfl
  | e :: rest => by
    have ih := findSighting_changeSighting_ne f h rest
    by_cases he : e.card = card
    · have hk : e.card ≠ k := fun hek => h (hek.symm.trans he)
      simpa [findSighting, changeSighting, he, h.symm, hk] using ih
    · by_cases hk : e.card = k
      · simp [findSighting, changeSighting, hk, h]
      · simpa [findSighting, changeSighting, he, hk] using ih

theorem findSighting_removeSighting_self (t : List Sighting) (card : CardNumber) :
    findSighting (removeSighting t card) card = none := by
  simp [findSighting, removeSighting]

theorem findSighting_removeSighting_ne {card k : CardNumber} (h : k ≠ card) : ∀ t : List Sighting,
    findSighting (removeSighting t card) k = findSighting t k
  | [] => rfl
  | e :: rest => by
    have ih := findSighting_removeSighting_ne h rest
    by_cases he : e.card = card
    · have hk : e.card ≠ k := fun hek => h (hek.symm.trans he)
      simpa [findSighting, removeSighting, he, h.symm, hk] using ih
    · by_cases hk : e.card = k
      · simp [findSighting, removeSighting, hk, h]
      · simpa [findSighting, removeSighting, he, hk] using ih

theorem findSighting_append_of_none {t : List Sighting} {card : CardNumber} (h : findSighting t card = none)
    (u : List Sighting) : findSighting (t ++ u) card = findSighting u card := by
  simp [findSighting, List.find?_append, show t.find? (fun e => e.card = card) = none from h]

theorem findSighting_append_ne {card : CardNumber} {e : Sighting} (h : e.card ≠ card) (t : List Sighting) :
    findSighting (t ++ [e]) card = findSighting t card := by
  simp [findSighting, List.find?_append, h]

theorem touchSighting_of_some {t : List Sighting} {card : CardNumber} {e : Sighting} (now : StationTime)
    (h : findSighting t card = some e) :
    touchSighting t card now = removeSighting t card ++ [{ e with touched := now }] := by
  rw [touchSighting, h]

theorem findSighting_touchSighting_self (t : List Sighting) (card : CardNumber) (now : StationTime) :
    findSighting (touchSighting t card now) card =
      (findSighting t card).map fun e => { e with touched := now } := by
  cases h : findSighting t card with
  | none => rw [touchSighting, h, h]; rfl
  | some e =>
    rw [touchSighting_of_some now h, findSighting_append_of_none (findSighting_removeSighting_self t card)]
    simp [findSighting, findSighting_card h]

theorem findSighting_touchSighting_ne {card k : CardNumber} (t : List Sighting) (now : StationTime) (h : k ≠ card) :
    findSighting (touchSighting t card now) k = findSighting t k := by
  cases he : findSighting t card with
  | none => rw [touchSighting, he]
  | some e =>
    have hne : ({ e with touched := now } : Sighting).card ≠ k := fun hk =>
      h (hk.symm.trans (findSighting_card he : e.card = card))
    rw [touchSighting_of_some now he, findSighting_append_ne hne, findSighting_removeSighting_ne h]

/-! ## The table's law -/

/-- The law of the sighting table (R105), of the table alone. -/
def LegalTable (t : List Sighting) : Prop :=
  t.length ≤ Config.sightingLimit ∧ (t.map Sighting.card).Nodup

@[simp] theorem map_card_changeSighting (t : List Sighting) (card : CardNumber) (f : Sighting → Sighting) :
    (changeSighting t card f).map Sighting.card = t.map Sighting.card := by
  rw [changeSighting, List.map_map]
  refine List.map_congr_left fun e _ => ?_
  simp only [Function.comp_apply]
  split <;> rfl

theorem LegalTable.of_cards {t u : List Sighting} (h : LegalTable t)
    (hcards : u.map Sighting.card = t.map Sighting.card) : LegalTable u := by
  have hlen : u.length = t.length := by simpa using congrArg List.length hcards
  exact ⟨hlen ▸ h.1, hcards ▸ h.2⟩

theorem LegalTable.change {t : List Sighting} (h : LegalTable t) (card : CardNumber) (f : Sighting → Sighting) :
    LegalTable (changeSighting t card f) := h.of_cards (map_card_changeSighting t card f)

theorem LegalTable.remove {t : List Sighting} (h : LegalTable t) (card : CardNumber) :
    LegalTable (removeSighting t card) :=
  ⟨Nat.le_trans (List.length_filter_le _ t) h.1, h.2.sublist (List.filter_sublist.map _)⟩

/-- A card that stands in the table leaves room for one entry when it is removed. -/
theorem length_removeSighting_lt {t : List Sighting} {e : Sighting} (h : e ∈ t) :
    (removeSighting t e.card).length < t.length :=
  List.length_filter_lt_length_iff_exists.mpr ⟨e, h, by simp⟩

/-- An entry whose card the table does not hold is added where there is room. -/
theorem LegalTable.add {t : List Sighting} {e : Sighting} (h : LegalTable t) (hroom : t.length < Config.sightingLimit)
    (hcard : findSighting t e.card = none) : LegalTable (t ++ [e]) := by
  refine ⟨by rw [List.length_append]; exact hroom, ?_⟩
  rw [List.map_append, List.nodup_append]
  refine ⟨h.2, by simp, fun c hc d hd => ?_⟩
  obtain ⟨x, hx, rfl⟩ := List.mem_map.mp hc
  rw [List.mem_singleton.mp hd]
  exact findSighting_eq_none.mp hcard x hx

theorem LegalTable.touch {t : List Sighting} (h : LegalTable t) (card : CardNumber) (now : StationTime) :
    LegalTable (touchSighting t card now) := by
  cases he : findSighting t card with
  | none => rwa [touchSighting, he]
  | some e =>
    obtain rfl := findSighting_card he
    rw [touchSighting_of_some now he]
    exact (h.remove e.card).add (Nat.lt_of_lt_of_le (length_removeSighting_lt (findSighting_mem he)) h.1)
      (findSighting_removeSighting_self t e.card)

/-- The entry that is evicted stands in the table and is not protected (R108). -/
theorem evictionChoice_some {t : List Sighting} {card : CardNumber} (h : evictionChoice t = some card) :
    ∃ e ∈ t, e.isProtected = false ∧ e.card = card := by
  have hfree : ∀ {p : Sighting → Bool} {e : Sighting}, (t.filter fun e => !e.isProtected).find? p = some e →
      e ∈ t ∧ e.isProtected = false := fun he => by
    simpa using List.mem_filter.mp (List.mem_of_find?_eq_some he)
  rw [evictionChoice] at h
  split at h
  next e he => exact ⟨e, (hfree he).1, (hfree he).2, Option.some.inj h⟩
  next =>
    split at h
    next e he => exact ⟨e, (hfree he).1, (hfree he).2, Option.some.inj h⟩
    next =>
      obtain ⟨e, he, hcard⟩ := Option.map_eq_some_iff.mp h
      exact ⟨e, (hfree he).1, (hfree he).2, hcard⟩

theorem LegalTable.create {t u : List Sighting} {card : CardNumber} {l : LaneId} {requested : StationTime}
    (h : LegalTable t) (hcard : findSighting t card = none) (hu : createSighting t card l requested = some u) :
    LegalTable u := by
  rw [createSighting] at hu
  split at hu
  next hroom =>
    obtain rfl := Option.some.inj hu
    exact h.add hroom hcard
  next =>
    split at hu
    next => contradiction
    next old hold =>
      obtain rfl := Option.some.inj hu
      obtain ⟨e, he, -, rfl⟩ := evictionChoice_some hold
      have hne : card ≠ e.card := fun hce => findSighting_eq_none.mp hcard e he hce.symm
      exact (h.remove e.card).add (Nat.lt_of_lt_of_le (length_removeSighting_lt he) h.1)
        ((findSighting_removeSighting_ne hne t).trans hcard)

/-! ## Effects on the table -/

variable (s : State)

theorem State.setTable_effect {t : List Sighting} (h : LegalTable s.screening.table → LegalTable t) :
    s.Effect (s.setTable t) :=
  ⟨fun _ => .refl _, id, h, id, id, rfl, fun hs => ⟨hs, fun _ _ => rfl⟩⟩

theorem State.changeEntry_effect (card : CardNumber) (f : Sighting → Sighting) : s.Effect (s.changeEntry card f) :=
  s.setTable_effect fun h => h.change card f

theorem State.releaseClaim_effect (card : CardNumber) : s.Effect (s.releaseClaim card) := s.changeEntry_effect card _

theorem State.confirmImage_effect (card : CardNumber) (image : LastImage) : s.Effect (s.confirmImage card image) :=
  (s.changeEntry_effect card _).trans (State.setTable_effect _ fun h => h.touch card _)

theorem State.markPending_effect (card : CardNumber) (l : LaneId) (sequence : Word) :
    s.Effect (s.markPending card l sequence) := s.changeEntry_effect card _

theorem State.attachPart_effect (card : CardNumber) (u : Uncertainty) : s.Effect (s.attachPart card u) :=
  s.changeEntry_effect card _

theorem State.reportCreditEnd_effect (c : Credit) (kind : RecordKind) : s.Effect (s.reportCreditEnd c kind) :=
  s.changeEntry_effect c.card _

theorem State.endCredit_effect (l : LaneId) (kind : RecordKind) (c : Credit) : s.Effect (s.endCredit l kind c) :=
  (s.enqueue_effect _).trans (State.reportCreditEnd_effect _ c kind)

theorem State.endCredits_effect (l : LaneId) (kind : RecordKind) : ∀ (cs : List Credit) (s : State),
    s.Effect (s.endCredits l kind cs)
  | [], s => .refl s
  | c :: rest, s => (s.endCredit_effect l kind c).trans (State.endCredits_effect l kind rest _)

theorem State.askUnresolved_effect (card : CardNumber) (u : Uncertainty) (w : Waiter) :
    s.Effect (s.askUnresolved card u w) := s.enqueue_effect _

theorem State.expirePart_effect (e : Sighting) : s.Effect (s.expirePart e) := by
  unfold State.expirePart
  split
  · exact .refl s
  · split
    · exact (s.askUnresolved_effect _ _ _).trans (State.changeEntry_effect _ _ _)
    · exact .refl s

theorem State.expireParts_effect : ∀ (es : List Sighting) (s : State), s.Effect (s.expireParts es)
  | [], s => .refl s
  | e :: rest, s => (s.expirePart_effect e).trans (State.expireParts_effect rest _)

@[simp] theorem State.expireUsed_card (e : Sighting) : (s.expireUsed e).card = e.card := by
  unfold State.expireUsed
  split
  · split <;> rfl
  · rfl

theorem State.expireAtOnce_effect : s.Effect s.expireAtOnce :=
  (s.setTable_effect fun h => h.of_cards (by
    rw [List.map_map]
    exact List.map_congr_left fun e _ => s.expireUsed_card e)).trans (State.expireParts_effect _ _)

end Sys2Proof.Machine
end

section
/-! SUPPORT. What the operations on a lane's leaves, tones, displays, credits and passages keep. -/

namespace Sys2Proof.Machine

open Sys2Proof

/-! ## Leaves (R150, R151) -/

/-- The parts of a lane that its laws speak of. -/
def Lane.lawParts (x : Lane) :=
  (x.drive, x.pc, x.beams.middle, x.credits.length, x.dialogue.isSome, x.gain, x.noisyRun, x.quietRun, x.baseline,
    x.watch, x.tailgate, x.intrusion, x.stuck, x.obstruction, x.stamp)

theorem Lane.Effect.of_lawParts {x y : Lane} (h : y.lawParts = x.lawParts) : x.Effect y := by
  simp only [Lane.lawParts, Prod.mk.injEq] at h
  obtain ⟨hdrive, hpc, hmiddle, hcredits, hdialogue, hgain, hnoisy, hquiet, hbaseline, hwatch, htailgate, hintrusion,
    hstuck, hobstruction, hstamp⟩ := h
  refine ⟨⟨?_, ?_, ?_, ?_⟩, hstamp⟩
  · rw [Lane.LeavesSafe, Lane.LeavesSafe, hdrive, hpc, hmiddle]
    exact id
  · rw [Lane.CreditsLegal, Lane.CreditsLegal, hcredits, hdialogue]
    exact id
  · rw [Lane.LinkLegal, Lane.LinkLegal, hgain, hnoisy, hquiet, hbaseline, hwatch]
    exact id
  · rw [Lane.CountsLegal, Lane.CountsLegal, htailgate, hintrusion, hstuck, hobstruction]
    exact id

/-- The law of the leaves speaks of a closing stroke only. -/
theorem Lane.leavesSafe_iff (x : Lane) :
    x.LeavesSafe ↔ (x.stroking = some .atClosed → x.pc = .closing ∧ x.beams.middle = .clear) := by
  unfold Lane.LeavesSafe Lane.stroking
  constructor
  · intro h hstroke
    split at hstroke
    next toward boost timeout brakeMs hdrive =>
      obtain rfl := Option.some.inj hstroke
      exact h _ _ _ hdrive
    next => contradiction
  · intro h boost timeout brakeMs hdrive
    exact h (by rw [hdrive])

theorem Lane.leavesSafe_of_not_closing {x : Lane} (h : x.stroking ≠ some .atClosed) : x.LeavesSafe :=
  x.leavesSafe_iff.mpr fun hstroke => absurd hstroke h

/-- A change of the drive to anything but a closing stroke, and of the state with it. -/
theorem Lane.drive_effect (x : Lane) {drive : Drive} (pc : PcState)
    (h : ∀ boost timeout brakeMs, drive ≠ .stroke .atClosed boost timeout brakeMs) :
    x.Effect { x with drive := drive, pc := pc } :=
  ⟨⟨fun _ boost timeout brakeMs hdrive => absurd hdrive (h boost timeout brakeMs), id, id, id⟩, rfl⟩

variable (x : Lane) (p : Parameters) (tb : Nat)

theorem Lane.startOpening_effect : x.Effect (x.startOpening p tb) := x.drive_effect _ nofun

theorem Lane.openFree_effect : x.Effect (x.openFree p tb) := x.drive_effect _ nofun

/-- A closing stroke starts with the middle group CLEAR only. -/
theorem Lane.startClosing_effect {x : Lane} (h : x.beams.middle = .clear) : x.Effect (x.startClosing p tb) :=
  ⟨⟨fun _ _ _ _ _ => ⟨rfl, h⟩, id, id, id⟩, rfl⟩

theorem Lane.closingTest_effect : x.Effect (x.closingTest p tb) := by
  unfold Lane.closingTest
  split
  next h => exact Lane.startClosing_effect p tb h.2.2.2
  next => exact .refl x

theorem Lane.settle_effect : x.Effect (x.settle p tb) := by
  unfold Lane.settle
  split
  · exact x.drive_effect _ nofun
  · split
    next h => exact Lane.startClosing_effect p tb h
    next => exact x.startOpening_effect p tb

theorem Lane.restFree_effect : x.Effect x.restFree := by
  refine x.drive_effect _ fun boost timeout brakeMs => ?_
  cases x.drive <;> exact nofun

/-- The state alone changes, with no closing stroke in progress. -/
theorem Lane.setPc_effect {x : Lane} (pc : PcState) (h : x.LeavesSafe → x.stroking ≠ some .atClosed) :
    x.Effect { x with pc := pc } :=
  ⟨⟨fun hsafe => Lane.leavesSafe_of_not_closing (h hsafe), id, id, id⟩, rfl⟩

/-- Outside CLOSING no closing stroke is in progress. -/
theorem Lane.not_closing_of_pc {x : Lane} (h : x.pc ≠ .closing) (hsafe : x.LeavesSafe) :
    x.stroking ≠ some .atClosed := fun hstroke => h (x.leavesSafe_iff.mp hsafe hstroke).1

theorem Lane.enterFree_effect : x.Effect (x.enterFree p tb) := by
  unfold Lane.enterFree
  split
  · exact x.restFree_effect
  · split
    next h => exact Lane.setPc_effect _ fun _ => by rw [h]; decide
    next => exact x.openFree_effect p tb

theorem Lane.leaveFree_effect {x : Lane} (h : x.pc = .free) : x.Effect x.leaveFree :=
  Lane.setPc_effect _ (Lane.not_closing_of_pc (by rw [h]; decide))

/-! ## Tones, displays, passages, alarms, the field -/

theorem Lane.sound_effect (t : Tone) : x.Effect (x.sound p tb t) := .of_lawParts rfl

theorem Lane.display_effect (symbol : Symbol) (ms : Nat) : x.Effect (x.display tb symbol ms) := .of_lawParts rfl

theorem Lane.startPassage_effect (now : Int) : x.Effect (x.startPassage p now) := .of_lawParts rfl

theorem countUp_le {n : Nat} (h : n ≤ 65535) : countUp n ≤ 65535 := by
  unfold countUp
  split <;> omega

theorem Lane.countAlarm_effect (a : Alarm) : x.Effect (x.countAlarm a) := by
  refine ⟨⟨?_, ?_, ?_, fun ⟨htailgate, hintrusion, hstuck, hobstruction⟩ => ?_⟩, ?_⟩
  case refine_4 =>
    cases a
    · exact ⟨countUp_le htailgate, hintrusion, hstuck, hobstruction⟩
    · exact ⟨htailgate, countUp_le hintrusion, hstuck, hobstruction⟩
    · exact ⟨htailgate, hintrusion, countUp_le hstuck, hobstruction⟩
    · exact ⟨htailgate, hintrusion, hstuck, countUp_le hobstruction⟩
  case refine_5 => cases a <;> rfl
  all_goals cases a <;> exact id

theorem Lane.enterSniff_effect : x.Effect x.enterSniff := .of_lawParts rfl

theorem Lane.serviceField_effect : x.Effect x.serviceField := by
  unfold Lane.serviceField
  split
  · exact x.enterSniff_effect
  · exact .refl x

theorem Lane.dark_effect : x.Effect x.dark :=
  ⟨⟨id, id, fun ⟨hgain, hnoisy, hquiet, hbaseline, _⟩ => ⟨hgain, hnoisy, hquiet, hbaseline, nofun⟩, id⟩, rfl⟩

/-- Fewer credits than before. -/
theorem Lane.credits_effect {credits : List Credit} (h : credits.length ≤ x.credits.length) :
    x.Effect { x with credits := credits } :=
  ⟨⟨id, fun hx => Nat.le_trans (Nat.add_le_add_right h _) hx, id, id⟩, rfl⟩

theorem length_useOldestWaiting (now : Int) (far : Bool) : ∀ cs : List Credit,
    (useOldestWaiting now far cs).length = cs.length
  | [] => rfl
  | c :: rest => by
    rw [useOldestWaiting]
    split
    · rfl
    · rw [List.length_cons, List.length_cons, length_useOldestWaiting now far rest]

theorem length_markOldestFar : ∀ cs : List Credit, (markOldestFar cs).length = cs.length
  | [] => rfl
  | c :: rest => by
    rw [markOldestFar]
    split
    · rfl
    · rw [List.length_cons, List.length_cons, length_markOldestFar rest]

/-- The dialogue's context changes, and no dialogue begins. -/
theorem Lane.dialogue_effect {x : Lane} {dialogue : Option Dialogue} (h : dialogue.isSome → x.dialogue.isSome) :
    x.Effect { x with dialogue := dialogue } := by
  have hle : (if dialogue.isSome then 1 else 0) ≤ if x.dialogue.isSome then 1 else 0 := by
    split
    next hsome => exact Nat.le_of_eq (if_pos (h hsome)).symm
    next => exact Nat.zero_le _
  exact ⟨⟨id, fun hx => Nat.le_trans (Nat.add_le_add_left hle _) hx, id, id⟩, rfl⟩

/-! ## The same as effects on the state -/

variable (s : State) (l : LaneId)

theorem State.updDialogue_effect (f : Dialogue → Dialogue) : s.Effect (s.updDialogue l f) :=
  s.updLane_effect fun _ => Lane.dialogue_effect (by simp)

theorem State.alarm_effect (a : Alarm) : s.Effect (s.alarm l a) :=
  (s.onLane_effect fun p tb x => (x.countAlarm_effect a).trans (Lane.sound_effect _ p tb .alarm)).trans
    (State.raise_effect _ .lane)

theorem State.dropCredits_effect : s.Effect (s.dropCredits l) :=
  (s.updLane_effect fun x => x.credits_effect (Nat.zero_le _)).trans (State.endCredits_effect l .dropped _ _)

end Sys2Proof.Machine
end

section
/-! SUPPORT. What the end of a dialogue, a grant and leaving service do to a lane, and what they keep. -/

namespace Sys2Proof.Machine

open Sys2Proof

/-! ## The end of RELEASE and the grant as one change of the lane (R53, R55 to R62) -/

/-- The lane as the end of RELEASE leaves it: last result, display and tone, removal watch, no dialogue. -/
def Lane.released (p : Parameters) (tb : Nat) (now : Int) (outcome : ResultCode) (byAbort : Bool) (x : Lane) : Lane :=
  Lane.startWatch now
    (Lane.showOutcome p tb outcome byAbort
      { x with lastResult := outcome, rewritten := 6 :: x.rewritten, inProgress := false, dialogue := none })

/-- The outcome of a grant. -/
def Dialogue.grantOutcome (d : Dialogue) : ResultCode :=
  if d.screen = some .regrant then ResultCode.regrant else ResultCode.accept

/-- The lane as a grant leaves it: the credit handed over, RELEASE done. -/
def Lane.granted (p : Parameters) (tb : Nat) (now : Int) (sequence : Word) (d : Dialogue) (x : Lane) : Lane :=
  (x.arrive p tb now sequence d.card d.direction).released p tb now d.grantOutcome d.byAbort

@[simp] theorem ResultCode.keptPlaces_grantOutcome (d : Dialogue) : d.grantOutcome.keptPlaces = 1 := by
  unfold Dialogue.grantOutcome
  split <;> rfl

/-- The table without the claim that a dialogue holds (R57). -/
def Dialogue.dropClaim (d : Dialogue) (t : List Sighting) : List Sighting :=
  if d.claimHeld then changeSighting t d.card fun e => { e with claim := none } else t

theorem State.releaseClaim_if (s : State) (d : Dialogue) :
    (if d.claimHeld then s.releaseClaim d.card else s) = s.setTable (d.dropClaim s.screening.table) := by
  unfold Dialogue.dropClaim
  split <;> rfl

theorem State.finishRelease_eq {s : State} {l : LaneId} {d : Dialogue} (h : (s.lane l).dialogue = some d) :
    s.finishRelease l =
      ((s.setTable (d.dropClaim s.screening.table)).setReserved
        (s.journal.reserved - d.reserved + (d.outcome.getD .none).keptPlaces)).updLane l
        (Lane.released s.params s.timeBase s.instant (d.outcome.getD .none) d.byAbort) := by
  simp only [State.finishRelease, h, State.releaseClaim_if]
  rfl

theorem State.finishRelease_of_none {s : State} {l : LaneId} (h : (s.lane l).dialogue = none) :
    s.finishRelease l = s := by
  rw [State.finishRelease, h]

theorem PerLane.set_set {α : Type} (q : PerLane α) (l : LaneId) (x y : α) : (q.set l x).set l y = q.set l y := by
  cases l <;> rfl

@[simp] theorem Lane.arrive_dialogue (p : Parameters) (tb : Nat) (now : Int) (q : Word) (c : CardNumber)
    (dir : Direction) (x : Lane) : (x.arrive p tb now q c dir).dialogue = x.dialogue := by
  simp only [Lane.arrive]
  split <;> split <;> rfl

/-- RELEASE ends the dialogue whatever it was. -/
theorem Lane.released_of_dialogue (p : Parameters) (tb : Nat) (now : Int) (outcome : ResultCode) (byAbort : Bool)
    (x : Lane) (dialogue : Option Dialogue) :
    Lane.released p tb now outcome byAbort { x with dialogue := dialogue } =
      Lane.released p tb now outcome byAbort x := rfl

/-- States that agree but for their lanes are equal when these are. -/
theorem State.eq_of_lanes {s t : State} (h : t = { s with lanes := t.lanes }) (hlanes : t.lanes = s.lanes) :
    t = s := by
  rw [h, hlanes]

theorem State.grant_eq {s : State} {l : LaneId} {d : Dialogue} (sequence : Word)
    (h : (s.lane l).dialogue = some d) :
    s.grant l sequence =
      ((s.setTable (d.dropClaim (s.markPending d.card l sequence).screening.table)).setReserved
        (s.journal.reserved - d.reserved + 1)).updLane l
        (Lane.granted s.params s.timeBase s.instant sequence d) := by
  unfold State.grant
  rw [h]
  dsimp only
  rw [State.finishRelease_eq (d := { d with phase := .release, outcome := some d.grantOutcome, outstanding := none })]
  · rw [← ResultCode.keptPlaces_grantOutcome d]
    refine State.eq_of_lanes rfl ?_
    simp only [State.updLane_lanes, State.setReserved_lanes, State.setTable_lanes, State.setReserved_lane,
      State.setTable_lane, State.updDialogue, State.lane_updLane_self, Lane.released_of_dialogue]
    change ((s.lanes.set l _).set l _).set l _ = _
    rw [PerLane.set_set, PerLane.set_set]
    change s.lanes.set l (Lane.released s.params s.timeBase s.instant d.grantOutcome d.byAbort
      (State.lane (s.updLane l _) l)) = _
    rw [State.lane_updLane_self]
    rfl
  · rw [State.updDialogue, State.lane_updLane_self]
    change Option.map _ (State.lane (State.updLane s l _) l).dialogue = _
    rw [State.lane_updLane_self, Lane.arrive_dialogue, h]
    rfl

/-! ## What they keep -/

theorem Lane.showOutcome_effect (p : Parameters) (tb : Nat) (outcome : ResultCode) (byAbort : Bool) (x : Lane) :
    x.Effect (x.showOutcome p tb outcome byAbort) := by
  unfold Lane.showOutcome
  split
  · exact .refl x
  · split <;> exact .of_lawParts rfl

theorem Lane.startWatch_effect (now : Int) (x : Lane) : x.Effect (x.startWatch now) := by
  unfold Lane.startWatch
  split
  · refine ⟨⟨id, id, fun ⟨hgain, hnoisy, hquiet, hbaseline, _⟩ => ⟨hgain, hnoisy, hquiet, hbaseline, ?_⟩, id⟩, rfl⟩
    rintro w ⟨⟩
    exact Nat.zero_lt_succ 2
  · exact .refl x

theorem Lane.released_effect (p : Parameters) (tb : Nat) (now : Int) (outcome : ResultCode) (byAbort : Bool)
    (x : Lane) : x.Effect (x.released p tb now outcome byAbort) := by
  refine Lane.Effect.trans ?_ (Lane.startWatch_effect now _)
  refine Lane.Effect.trans ?_ (Lane.showOutcome_effect p tb outcome byAbort _)
  exact (Lane.dialogue_effect (dialogue := none) nofun).trans (.of_lawParts rfl)

@[simp] theorem Lane.showOutcome_dialogue (p : Parameters) (tb : Nat) (outcome : ResultCode) (byAbort : Bool)
    (x : Lane) : (x.showOutcome p tb outcome byAbort).dialogue = x.dialogue := by
  unfold Lane.showOutcome
  split
  · rfl
  · split <;> rfl

@[simp] theorem Lane.showOutcome_credits (p : Parameters) (tb : Nat) (outcome : ResultCode) (byAbort : Bool)
    (x : Lane) : (x.showOutcome p tb outcome byAbort).credits = x.credits := by
  unfold Lane.showOutcome
  split
  · rfl
  · split <;> rfl

@[simp] theorem Lane.startWatch_dialogue (now : Int) (x : Lane) : (x.startWatch now).dialogue = x.dialogue := by
  unfold Lane.startWatch
  split <;> rfl

@[simp] theorem Lane.startWatch_credits (now : Int) (x : Lane) : (x.startWatch now).credits = x.credits := by
  unfold Lane.startWatch
  split <;> rfl

section
variable (p : Parameters) (tb : Nat) (now : Int) (outcome : ResultCode) (byAbort : Bool) (x : Lane)

@[simp] theorem Lane.released_dialogue : (x.released p tb now outcome byAbort).dialogue = none := by
  simp [Lane.released]

@[simp] theorem Lane.released_credits : (x.released p tb now outcome byAbort).credits = x.credits := by
  simp [Lane.released]

end

/-- The credit that a grant hands over (R139), already IN USE where a passenger stands in the approach beam (R143). -/
def Lane.newCredit (p : Parameters) (now : Int) (sequence : Word) (d : Dialogue) (x : Lane) : Credit :=
  let credit : Credit := ⟨sequence, d.card, d.direction, .waiting (now + 1000 * p.creditLife)⟩
  if x.approachBlocked && x.passage.isNone then credit.use now false else credit

/-- The lane with a credit that arrived, apart from its list of credits. -/
theorem Lane.arrive_eq (p : Parameters) (tb : Nat) (now : Int) (sequence : Word) (d : Dialogue) (x : Lane) :
    ∃ y : Lane, x.arrive p tb now sequence d.card d.direction =
        { y with credits := x.credits ++ [x.newCredit p now sequence d] } ∧ x.Effect y := by
  refine ⟨{ x.arrive p tb now sequence d.card d.direction with credits := x.credits }, ?_, ?_⟩
  · simp only [Lane.arrive, Lane.newCredit]
    split <;> split <;> rfl
  · simp only [Lane.arrive]
    split <;> split
    · exact (x.startOpening_effect p tb).trans (Lane.startPassage_effect _ p now)
    · exact x.startPassage_effect p now
    · exact x.startOpening_effect p tb
    · exact .refl x

/-- The credit takes the place of the dialogue that brought it. -/
theorem Lane.granted_effect (p : Parameters) (tb : Nat) (now : Int) (sequence : Word) (d : Dialogue) {x : Lane}
    (h : x.dialogue = some d) : x.Effect (x.granted p tb now sequence d) := by
  obtain ⟨y, harrive, hy⟩ := x.arrive_eq p tb now sequence d
  have hreleased :=
    Lane.released_effect p tb now d.grantOutcome d.byAbort (x.arrive p tb now sequence d.card d.direction)
  rw [harrive] at hreleased
  refine ⟨⟨fun hx => ?_, fun hx => ?_, fun hx => ?_, fun hx => ?_⟩, ?_⟩ <;> unfold Lane.granted <;> rw [harrive]
  · exact hreleased.leaves (hy.leaves hx)
  · simp only [Lane.CreditsLegal, h, Lane.released_credits, Lane.released_dialogue, List.length_append,
      List.length_singleton, Option.isSome_some, Option.isSome_none, if_true] at hx ⊢
    simpa using hx
  · exact hreleased.link (hy.link hx)
  · exact hreleased.counts (hy.counts hx)
  · exact hreleased.stamp.trans hy.stamp

variable (s : State) (l : LaneId)

theorem State.finishRelease_effect : s.Effect (s.finishRelease l) := by
  cases h : (s.lane l).dialogue with
  | none =>
    rw [State.finishRelease_of_none h]
    exact .refl s
  | some d =>
    rw [State.finishRelease_eq h]
    refine ((s.setTable_effect fun ht => ?_).trans (State.setReserved_effect _ _)).trans
      (State.updLane_effect _ fun x => x.released_effect _ _ _ _ _)
    unfold Dialogue.dropClaim
    split
    · exact ht.change _ _
    · exact ht

theorem State.grant_effect (sequence : Word) : s.Effect (s.grant l sequence) := by
  cases h : (s.lane l).dialogue with
  | none =>
    unfold State.grant
    rw [h]
    exact .refl s
  | some d =>
    rw [State.grant_eq sequence h]
    refine ((s.setTable_effect fun ht => ?_).trans (State.setReserved_effect _ _)).trans
      (State.setLane_effect _ (Lane.granted_effect _ _ _ _ d h))
    unfold Dialogue.dropClaim
    split
    · exact (ht.change _ _).change _ _
    · exact ht.change _ _

theorem State.startNotify_effect (delay : Nat) : s.Effect (s.startNotify delay) := by
  unfold State.startNotify
  split
  · exact (State.raise_effect _ .journal).from_lawParts rfl
  · exact .of_lawParts rfl

theorem State.useReservation_effect (h : Holder) : s.Effect (s.useReservation h) := by
  unfold State.useReservation
  split
  · exact (s.setReserved_effect _).trans (State.updDialogue_effect _ _ _)
  · exact s.setReserved_effect _
  · exact s.setReserved_effect _

theorem State.notifyTests_effect (r : Ring) (first : Bool) : s.Effect (s.notifyTests r first) := by
  have hlevel : ∀ u : State, u.Effect (if r.level ≤ u.journal.unconsumed then u.raise .journal else u) := fun u => by
    split
    · exact u.raise_effect .journal
    · exact .refl u
  cases first with
  | false => exact hlevel s
  | true => exact (s.startNotify_effect r.delay).trans (hlevel _)

/-- The journal's parts change, and its ring stays in the free region (R175, R177). -/
theorem State.setJournal_effect {j : Journal} (h : ringInFree s → ringInFree { s with journal := j }) :
    s.Effect { s with journal := j } :=
  ⟨fun _ => .refl _, id, id, id, id, rfl, fun hs => ⟨⟨h hs.1, hs.2⟩, fun _ _ => rfl⟩⟩

/-- The journal after a record of its ring: the write position goes on, the written tally counts (R177). -/
def Journal.advance (j : Journal) (r : Ring) : Journal :=
  { j with position := if j.position + 1 < r.size then j.position + 1 else 0, written := j.written + 1#16 }

/-- The bytes of a record and of the written tally (R177, steps 1 and 3). -/
def State.writeRecord (s : State) (r : Ring) (record : Record) : State :=
  (s.writeMem (r.base + 32 * s.journal.position) (record.bytes s.journal.written)).writeMem 0x10
    (leBytes 2 (s.journal.written + 1#16).toNat)

theorem State.placeRecord_eq (r : Ring) (record : Record) :
    s.placeRecord r record =
      { s.writeRecord r record with journal := (s.writeRecord r record).journal.advance r } := rfl

/-- A record lies in the ring and so in the free region. -/
theorem State.writeRecord_effect {r : Ring} (record : Record) (h : s.journal.ring = some r) :
    s.Effect (s.writeRecord r record) :=
  (s.writeMem_effect_above fun ⟨hring, _⟩ => by
    obtain ⟨hbase, -, -⟩ := hring r h
    omega).trans (State.writeMem_effect_header _ (by decide) (by simp [length_leBytes]))

theorem State.placeRecord_effect {r : Ring} (record : Record) (h : s.journal.ring = some r) :
    s.Effect (s.placeRecord r record) := by
  rw [State.placeRecord_eq]
  refine (s.writeRecord_effect record h).trans (State.setJournal_effect _ fun hring r' hr' => ?_)
  obtain ⟨hbase, hsize, hposition⟩ := hring r' hr'
  obtain rfl : r' = r := Option.some.inj (hr'.symm.trans h)
  refine ⟨hbase, hsize, ?_⟩
  change (if _ + 1 < r'.size then _ + 1 else 0) < r'.size
  split <;> omega

theorem State.beginRelease_effect : s.Effect (s.beginRelease l) := by
  unfold State.beginRelease
  split
  · exact .refl s
  · have hphase := s.updDialogue_effect l fun d => { d with phase := .release, outstanding := none }
    dsimp only
    split
    · exact ((hphase.trans (State.attachPart_effect _ _ _)).trans (State.updDialogue_effect _ _ _)).trans
        (State.enqueue_effect _ _)
    · split
      · exact (hphase.trans (State.updDialogue_effect _ _ _)).trans (State.enqueue_effect _ _)
      · exact hphase.trans (State.finishRelease_effect _ l)

/-- The dialogue with its outcome decided (R38). -/
def Dialogue.decided (now : StationTime) (code : ResultCode) (byAbort : Bool) (d : Dialogue) : Dialogue :=
  { d with outcome := some code, decidedAt := some now, byAbort := byAbort, command := none }

/-- The state with a dialogue's outcome decided: its waiting request withdrawn, its link work stopped (R38, R78). -/
def State.decideOutcome (s : State) (l : LaneId) (d : Dialogue) : State :=
  State.updLane { s with engine := { s.engine with requests := s.engine.requests.filter fun r => r.lane ≠ l } } l
    fun x => { x with link := .idle, dialogue := some d }

theorem State.endDialogue_eq {s : State} {l : LaneId} {d : Dialogue} (code : ResultCode) (byAbort : Bool)
    (h : (s.lane l).dialogue = some d) :
    s.endDialogue l code byAbort =
      if d.outstanding.any Outstanding.atScreening then s.decideOutcome l (d.decided s.now code byAbort)
      else (s.decideOutcome l (d.decided s.now code byAbort)).beginRelease l := by
  rw [State.endDialogue, h]
  rfl

theorem State.decideOutcome_effect {d : Dialogue} (e : Dialogue) (h : (s.lane l).dialogue = some d) :
    s.Effect (s.decideOutcome l e) :=
  .after (State.setLane_effect _
      (((Lane.dialogue_effect fun _ => Option.isSome_of_eq_some h).trans (.of_lawParts rfl) :
        (s.lane l).Effect { s.lane l with link := .idle, dialogue := some e })))
    (.of_lawParts rfl)

theorem State.endDialogue_effect (code : ResultCode) (byAbort : Bool) : s.Effect (s.endDialogue l code byAbort) := by
  cases h : (s.lane l).dialogue with
  | none =>
    rw [State.endDialogue, h]
    exact .refl s
  | some d =>
    rw [State.endDialogue_eq code byAbort h]
    have hdecided := s.decideOutcome_effect l (d.decided s.now code byAbort) h
    split
    · exact hdecided
    · exact hdecided.trans (State.beginRelease_effect _ l)

theorem State.fieldOff_effect : s.Effect (s.fieldOff l) := by
  have hdark : s.Effect (s.updLane l Lane.dark) := s.updLane_effect Lane.dark_effect
  unfold State.fieldOff
  split
  · exact .refl s
  · exact hdark.trans (.of_lawParts rfl)
  · dsimp only
    split
    · exact hdark
    · split
      · exact hdark
      · exact hdark.trans (State.endDialogue_effect _ _ _ _)

theorem State.leaveService_effect : s.Effect (s.leaveService l) :=
  .after (State.dropCredits_effect _ l)
    (.after (State.updLane_effect _ fun _ => .of_lawParts rfl) (s.fieldOff_effect l))

theorem State.enterFault_effect (cause : FaultCause) : s.Effect (s.enterFault l cause) :=
  .after (State.raise_effect _ .lane)
    (.after (State.onLane_effect _ fun p tb x => (x.sound_effect p tb .alarm).trans (.of_lawParts rfl))
      (.after (State.leaveService_effect _ l) (s.updLane_effect fun x => x.drive_effect .fault nofun)))

end Sys2Proof.Machine
end

section
/-! SUPPORT. What the rows of the order board and of the Station Clock keep. -/

namespace Sys2Proof.Machine

open Sys2Proof

/-- The row is one event of the part, and its effect keeps the laws. -/
def EventRow (row : State → Host.Outcome State Fault Refusal) : Prop :=
  ∃ f : State → State, (∀ s : State, row s = .next (s.event f)) ∧ ∀ s : State, s.Effect (f s)

theorem EventRow.of_effect {f : State → State} (h : ∀ s : State, s.Effect (f s)) :
    EventRow fun s => .next (s.event f) := ⟨f, fun _ => rfl, h⟩

variable (s : State)

/-! ## The order board (R196 to R198) -/

theorem slotBase_ge (k : Fin 8) (n : Nat) : 0xC0 ≤ slotBase k + n := by
  unfold slotBase
  omega

theorem State.writeSlot_effect (k : Fin 8) (n : Nat) (bs : List Byte) : s.Effect (s.writeMem (slotBase k + n) bs) :=
  s.writeMem_effect_above fun _ => slotBase_ge k n

theorem State.rewriteSlot_effect (k : Fin 8) : s.Effect (s.rewriteSlot k) :=
  .after (State.recordHeld_effect _ _) (s.writeSlot_effect k 0 _)

theorem State.judgeSlot_effect (k : Fin 8) : s.Effect (s.judgeSlot k) := by
  unfold State.judgeSlot
  split
  case h_1 | h_2 | h_4 | h_6 | h_7 => exact .refl s
  case h_12 => exact s.rewriteSlot_effect k
  all_goals exact s.setSlot_effect k _

/-- No order waits for LOAD KEY's end: none is in service, or the one in service has just been taken. -/
theorem State.setService_effect {o : Option OrderInService} (h : ∀ q, o = some q → q.stage ≠ .loadingKey) :
    s.Effect { s with orders := { s.orders with service := o } } :=
  ⟨fun _ => .refl _, id, id, id, id, rfl, fun hs => ⟨⟨hs.1, fun q hq hg => absurd hg (h q hq)⟩, fun _ _ => rfl⟩⟩

theorem State.takeSlot_effect (k : Fin 8) : s.Effect (s.takeSlot k) :=
  .after (.of_lawParts rfl : State.Effect
      { (s.setSlot k .taken).writeMem (slotBase k) (leBytes 2 SlotState.taken.code) with
        orders := { (s.setSlot k .taken).orders with
          service := (s.takeSlot k).orders.service } } (s.takeSlot k))
    (.after (State.setService_effect _ (by rintro q ⟨⟩; exact nofun))
      (.after (State.writeSlot_effect _ k 0 _) (s.setSlot_effect k _)))

theorem State.endOrder_effect (o : OrderInService) (done : Bool) (code : OrderCode) (data : ResultData) :
    s.Effect (s.endOrder o done code data) :=
  .after (State.raise_effect _ .order)
    (.after (State.setService_effect _ nofun)
      (.after (State.setSlot_effect _ o.slot _)
        (.after (State.writeSlot_effect _ o.slot 0 _)
          (.after (State.writeSlot_effect _ o.slot 6 _)
            (.after (State.writeSlot_effect _ o.slot 3 _) (s.writeSlot_effect o.slot 48 _))))))

theorem execOrderSlotStateWordEvent_eventRow (k : Fin 8) : EventRow (execOrderSlotStateWordEvent k) :=
  .of_effect fun s => by
    split
    · exact .after (State.judgeSlot_effect _ k) (.of_lawParts rfl)
    · exact .refl s

theorem execOrderTake_eventRow : EventRow execOrderTake :=
  .of_effect fun s => by
    split
    · exact s.takeSlot_effect _
    · exact .refl s

theorem execUnknownOrderKind_eventRow : EventRow execUnknownOrderKind :=
  .of_effect fun s => by
    split
    · exact .refl s
    · split
      · exact s.answerAt_effect _ _ _ _
      · exact .refl s

theorem execOrderEnd_eventRow : EventRow execOrderEnd :=
  .of_effect fun s => by
    split
    · exact .refl s
    · split
      · exact s.onDue_effect fun _ => State.endOrder_effect _ _ _ _ _
      · exact .refl s

/-! ## The Station Clock (R164 to R173) -/

theorem State.setClock_effect {c : StationClock}
    (h : s.ClockLegal → c.day < 65536 ∧ c.minute < 1440 ∧ c.ms < 60000 ∧ c.serviceStart < 1440) :
    s.Effect { s with clock := c } :=
  ⟨fun _ => .refl _, id, id, h, id, rfl, fun hs => ⟨hs, fun _ _ => rfl⟩⟩

theorem Lane.shift_effect (step : Int) (x : Lane) : x.Effect (x.shift step) := by
  refine ⟨⟨id, fun hx => ?_, fun ⟨hgain, hnoisy, hquiet, hbaseline, hwatch⟩ =>
    ⟨hgain, hnoisy, hquiet, hbaseline, fun w hw => ?_⟩, id⟩, rfl⟩
  · simpa [Lane.CreditsLegal, Lane.shift] using hx
  · obtain ⟨v, hv, rfl⟩ := Option.map_eq_some_iff.mp hw
    exact hwatch v hv

theorem State.lane_shiftTimers (step : Int) (l : LaneId) :
    (s.shiftTimers step).lane l = (s.lane l).shift step := by
  cases l <;> rfl

theorem State.shiftTimers_effect (step : Int) : s.Effect (s.shiftTimers step) := by
  refine ⟨fun l => ?_, id, fun h => ?_, id, id, rfl, fun hs => ⟨hs, fun _ _ => rfl⟩⟩
  · rw [State.lane_shiftTimers]
    exact (s.lane l).shift_effect step
  · have h' : LegalTable (s.screening.table.map (Sighting.shift step)) :=
      LegalTable.of_cards (t := s.screening.table) h (by rw [List.map_map]; rfl)
    exact h'

theorem State.writeReadout_effect : s.Effect s.writeReadout :=
  .after (State.setClock_effect _ id)
    (.after (State.writeMem_effect_header _ (by decide) (by simp [length_leBytes]))
      (s.writeMem_effect_header (by decide) (by simp [length_leBytes])))

theorem State.settleReadout_effect : s.Effect s.settleReadout := by
  unfold State.settleReadout
  split
  · exact s.writeReadout_effect
  · exact .refl s

theorem State.settleRollover_effect : s.Effect s.settleRollover := by
  unfold State.settleRollover
  split
  · exact .after (State.raise_effect _ .clock) (s.setClock_effect id)
  · exact .refl s

theorem State.settle_effect : s.Effect s.settleRollover.settleReadout :=
  .after (State.settleReadout_effect _) s.settleRollover_effect

/-- Each millisecond of station time is in range. -/
theorem State.advance_effect : s.Effect s.advance := by
  unfold State.advance
  dsimp only
  split
  · exact s.setClock_effect fun ⟨hday, hminute, _, hstart⟩ => ⟨hday, hminute, by assumption, hstart⟩
  · split
    · exact s.setClock_effect fun ⟨hday, _, _, hstart⟩ => ⟨hday, by assumption, Nat.zero_lt_succ _, hstart⟩
    · split
      · exact s.setClock_effect fun ⟨_, _, _, hstart⟩ => ⟨by assumption, Nat.zero_lt_succ _, Nat.zero_lt_succ _, hstart⟩
      · exact .after (State.shiftTimers_effect _ _)
          (s.setClock_effect fun ⟨_, _, _, hstart⟩ =>
            ⟨Nat.zero_lt_succ _, Nat.zero_lt_succ _, Nat.zero_lt_succ _, hstart⟩)

theorem State.tick_effect : s.Effect s.tick :=
  .after (State.setClock_effect _ id) (s.settle_effect.trans ((State.advance_effect _).from_lawParts rfl))

/-- The arguments that SET TIME takes are a station time and a minute. -/
theorem OrderInService.timeArgs_legal {o : OrderInService} {t : StationTime} {today next : DayType} {start : Nat}
    (h : o.timeArgs = some (t, today, next, start)) :
    t.day < 65536 ∧ t.minute < 1440 ∧ t.ms < 60000 ∧ start < 1440 := by
  unfold OrderInService.timeArgs at h
  split at h
  next =>
    split at h
    next hrange =>
      obtain ⟨rfl, rfl, rfl, rfl⟩ := Option.some.inj h
      exact ⟨fieldAt_lt o.args 0 2, hrange⟩
    next => contradiction
  next => contradiction

theorem State.setTime_effect {t : StationTime} {start : Nat} (today next : DayType)
    (h : t.day < 65536 ∧ t.minute < 1440 ∧ t.ms < 60000 ∧ start < 1440) :
    s.Effect (s.setTime t today next start) :=
  .after (State.writeReadout_effect _)
    (.after (State.setReady_effect _ _)
      (.after (State.shiftTimers_effect _ _) (.after (State.setClock_effect _ fun _ => h) s.settle_effect)))

theorem execClockTick_eventRow : EventRow execClockTick := .of_effect State.tick_effect

theorem execDayNumberWrap_eventRow : EventRow execDayNumberWrap :=
  .of_effect fun s => by
    split
    · exact s.tick_effect
    · exact .refl s

theorem execServiceDayRollover_eventRow : EventRow execServiceDayRollover := .of_effect State.settleRollover_effect

theorem execClockReadout_eventRow : EventRow execClockReadout := .of_effect State.settleReadout_effect

theorem execSetTime_eventRow : EventRow execSetTime :=
  .of_effect fun s => s.withOrder_effect fun o _ => by
    split
    next => exact s.answer_effect o _ _ _
    next t today next start h =>
      exact .after (State.answer_effect _ o _ _ _) (s.setTime_effect today next (o.timeArgs_legal h))

end Sys2Proof.Machine
end

section
/-! SUPPORT. What the rows of the Authentication Engine and of the Fare Unit keep. -/

namespace Sys2Proof.Machine

open Sys2Proof

variable (s : State)

/-! ## The Authentication Engine (R67 to R78) -/

theorem State.grantNext_effect : s.Effect s.grantNext := by
  unfold State.grantNext
  split
  · exact .of_lawParts rfl
  · exact .refl s

theorem State.askEngine_effect (l : LaneId) (op : AeOperation) : s.Effect (s.askEngine l op) := by
  unfold State.askEngine
  split
  · exact .refl s
  · exact (s.updDialogue_effect l _).trans ((State.grantNext_effect _).from_lawParts rfl)

theorem State.takeChallenge_effect (l : LaneId) : s.Effect (s.takeChallenge l) :=
  (s.updDialogue_effect l _).trans (.of_lawParts rfl)

theorem State.answerKey_effect (due : Nat) (done : Bool) (code : OrderCode) :
    s.Effect (s.answerKey due done code) := .after (State.answerAt_effect _ _ _ _ _) (s.setReady_effect _)

theorem Area.inFree_iff {a : Area} : a.inFree = true ↔ 0x300 ≤ a.base ∧ a.base + a.len ≤ 0x40000 := by
  rw [Area.inFree, Bool.and_eq_true, decide_eq_true_iff, decide_eq_true_iff]
  rfl

theorem State.zeroStaging_effect {a : Area} (h : s.WritesFree → 0x300 ≤ a.base) : s.Effect (s.zeroStaging a) :=
  s.writeMem_effect_above fun hs => Nat.le_trans (by decide : 0xC0 ≤ 0x300) (h hs)

theorem execLoadKey_eventRow : EventRow execLoadKey :=
  .of_effect fun s => s.withOrder_effect fun o ho => by
    dsimp only
    split
    next => exact s.answerKey_effect _ _ _
    next =>
      split
      next => exact s.answerKey_effect _ _ _
      next hplace =>
        have hfree : 0x300 ≤ o.staging.base := by
          simp only [not_or, Bool.not_eq_false] at hplace
          exact (Area.inFree_iff.mp hplace.1).1
        split
        · exact .after (State.answerKey_effect _ _ _ _) (s.zeroStaging_effect fun _ => hfree)
        · split
          · exact .after (State.answerKey_effect _ _ _ _) (s.zeroStaging_effect fun _ => hfree)
          · refine .after (State.setStage_effect _ fun _ q hq => ?_) (s.setHeld_effect _)
            obtain rfl : o = q := Option.some.inj (ho.symm.trans hq)
            exact hfree

theorem State.finishLoad_effect {o : OrderInService} (i : Fin 8) (h : s.WritesFree → 0x300 ≤ o.staging.base) :
    s.Effect (s.finishLoad o i) := by
  have hzero := (s.zeroStaging_effect h).trans (State.setHeld_effect _ { s.orders.held with staging := none })
  unfold State.finishLoad
  dsimp only
  split
  · exact .after (State.answerKey_effect _ _ _ _) hzero
  · exact .after (State.answerKey_effect _ _ _ _) (.after (State.setKeySlot_effect _ i _) hzero)

theorem execLoadKeyComplete_eventRow : EventRow execLoadKeyComplete :=
  .of_effect fun s => by
    split
    next => exact .refl s
    next o ho =>
      split
      next => exact .refl s
      next =>
        split
        next hstage => exact s.onDue_effect fun _ => State.finishLoad_effect _ _ fun ⟨_, hs⟩ => hs o ho hstage
        next => exact .refl s

theorem execRetireKey_eventRow : EventRow execRetireKey :=
  .of_effect fun s => s.withOrder_effect fun o _ => by
    dsimp only
    split
    · exact s.answerKey_effect _ _ _
    · split
      · exact s.answerKey_effect _ _ _
      · exact .after (State.answerKey_effect _ _ _ _) (s.setKeySlot_effect _ _)
      · exact s.answerKey_effect _ _ _

theorem execEraseKey_eventRow : EventRow execEraseKey :=
  .of_effect fun s => s.withOrder_effect fun o _ => by
    dsimp only
    split
    · exact s.answerKey_effect _ _ _
    · exact .after (State.answerKey_effect _ _ _ _) (s.setKeySlot_effect _ _)

/-! ## The Fare Unit (R83 to R103) -/

theorem execAdoptFareTable_eventRow : EventRow execAdoptFareTable :=
  .of_effect fun s => s.withOrder_effect fun o _ => by
    dsimp only
    split
    · exact .after (State.setStage_effect _ nofun) (.after (State.setHeld_effect _ _) (s.setFare_effect _))
    · exact s.answer_effect o _ _ _

theorem State.releasePrevious_effect : s.Effect s.releasePrevious := by
  unfold State.releasePrevious
  split
  · exact .refl s
  · split
    · exact .refl s
    · exact .after (State.answerAt_effect _ _ _ _ _)
        (.after (State.setReady_effect _ _) (.after (State.setHeld_effect _ _) (s.setFare_effect _)))

theorem State.switchTable_effect (t : Area) : s.Effect (s.switchTable t) := by
  unfold State.switchTable
  exact .after (State.releasePrevious_effect _)
    (.after (State.setStage_effect _ nofun) (.after (State.setHeld_effect _ _) (s.setFare_effect _)))

theorem execFareTableValidationEnd_eventRow : EventRow execFareTableValidationEnd :=
  .of_effect fun s => by
    split
    · split
      · refine s.onDue_effect fun tb => ?_
        split
        · exact State.switchTable_effect _ _
        · exact .after (State.answerAt_effect _ _ _ _ _) (.after (State.setHeld_effect _ _) (State.setFare_effect _ _))
      · exact .refl s
    · exact .refl s

variable (l : LaneId)

theorem State.startPrice_effect : s.Effect (s.startPrice l) := by
  unfold State.startPrice
  split
  · exact .after (State.setFare_effect _ _) (s.updDialogue_effect l _)
  · exact .refl s

theorem State.takePrice_effect (a : PriceAnswer) : s.Effect (s.takePrice l a) := by
  unfold State.takePrice
  split
  · exact s.endDialogue_effect l _ _
  · exact s.endDialogue_effect l _ _
  · exact .after (State.endDialogue_effect _ l _ _) (s.updDialogue_effect l _)
  · exact .after (State.askEngine_effect _ l _) (s.updDialogue_effect l _)

theorem State.answerPrice_effect (p : Pricing) : s.Effect (s.answerPrice l p) := by
  have htake : ∀ (u : State) (b : Bool) (a : PriceAnswer), u.Effect (if b then u.takePrice l a else u) :=
    fun u b a => by
      split
      · exact u.takePrice_effect l a
      · exact .refl u
  have hrelease : ∀ (u : State) (b : Bool), u.Effect (if b then u.releasePrevious else u) := fun u b => by
    split
    · exact u.releasePrevious_effect
    · exact .refl u
  exact .after (hrelease _ _) (.after (htake _ _ _) (s.setFare_effect _))

theorem execPriceAnswer_eventRow : EventRow (execPriceAnswer l) :=
  .of_effect fun s => by
    split
    · exact .refl s
    · exact s.onDue_effect fun _ => State.answerPrice_effect _ l _

end Sys2Proof.Machine
end

section
/-! SUPPORT. What the rows of the Screening Unit keep. -/

namespace Sys2Proof.Machine

open Sys2Proof

variable (s : State) (l : LaneId)

theorem State.setOutstanding_effect (o : Option Outstanding) : s.Effect (s.setOutstanding l o) :=
  s.updDialogue_effect l _

theorem State.alert_effect (d : Dialogue) (result : ResultCode) (counter : Nat) (e : Sighting) :
    s.Effect (s.alert l d result counter e) := .after (State.raise_effect _ .alert) (s.enqueue_effect _)

/-- An `if` keeps what its branches keep. -/
theorem State.Effect.ite {c : Prop} [Decidable c] {t u : State} (ht : s.Effect t) (hu : s.Effect u) :
    s.Effect (if c then t else u) := by
  split
  · exact ht
  · exact hu

/-! ## Claims (R107 to R109) -/

theorem State.claimEntry_effect (d : Dialogue) (requested : StationTime) :
    s.Effect (s.claimEntry l d requested).1 := by
  unfold State.claimEntry
  split
  next hnone =>
    split
    next => exact .refl s
    next t ht => exact s.setTable_effect fun h => LegalTable.create h hnone ht
  next e he =>
    split
    · exact .after (.ite _ (State.alert_effect _ l d _ _ _) (.refl _)) (s.changeEntry_effect d.card _)
    · exact .after (State.setTable_effect _ fun h => LegalTable.touch h _ _) (s.changeEntry_effect d.card _)

theorem State.takeClaim_effect (d : Dialogue) (r : ClaimResult) : s.Effect (s.takeClaim l d r) := by
  refine (s.updDialogue_effect l fun d => { d with outstanding := none, claimHeld := r = .held }).trans ?_
  unfold State.takeClaim
  refine .ite _ (State.beginRelease_effect _ l) ?_
  split
  · exact State.endDialogue_effect _ l _ _
  · exact State.endDialogue_effect _ l _ _
  · split
    · exact .refl _
    · exact .after (State.askEngine_effect _ l _) (State.updDialogue_effect _ l _)

theorem execClaimAnswer_eventRow : EventRow (execClaimAnswer l) :=
  .of_effect fun s => by
    split
    · exact .refl s
    · split
      · split
        · exact .refl s
        · exact s.onDue_effect fun _ => .after (State.takeClaim_effect _ l _ _) (State.claimEntry_effect _ l _ _)
      · exact .refl s

/-! ## Lookups and screens (R116 to R127) -/

theorem State.startLookup_effect : s.Effect (s.startLookup l) := by
  unfold State.startLookup
  split
  · exact .refl s
  · exact s.setOutstanding_effect l _

theorem State.askScreen_effect : s.Effect (s.askScreen l) :=
  .after (.ite _ (State.setOutstanding_effect _ l _) (State.startLookup_effect _ l)) (s.updDialogue_effect l _)

theorem State.recordResolution_effect (d : Dialogue) (e : Sighting) (r : Option ResultCode) :
    s.Effect (s.recordResolution l d e r) := by
  unfold State.recordResolution
  split
  · exact s.enqueue_effect _
  · exact .refl s

theorem State.screenEntry_effect (d : Dialogue) (list : Option Denylist) : s.Effect (s.screenEntry l d list) := by
  unfold State.screenEntry
  split
  · exact .refl s
  · exact .after (State.setOutstanding_effect _ l _)
      (.after (.ite _ (State.alert_effect _ l d _ _ _) (.refl _))
        (.after (State.recordResolution_effect _ l d _ _)
          (.after (State.setTable_effect _ fun h => LegalTable.touch h _ _) (s.changeEntry_effect d.card _))))

theorem execScreenLookupEnd_eventRow : EventRow (execScreenLookupEnd l) :=
  .of_effect fun s => by
    split
    · exact .refl s
    · split
      · exact s.onDue_effect fun _ => State.screenEntry_effect _ l _ _
      · exact .refl s

/-! ## Expiries and the orders on sightings (R129 to R132) -/

theorem execPassbackExpiry_eventRow (card : CardNumber) : EventRow (execPassbackExpiry card) :=
  .of_effect fun s => s.changeEntry_effect card _

theorem execRegrantGraceExpiry_eventRow (card : CardNumber) : EventRow (execRegrantGraceExpiry card) :=
  .of_effect fun s => s.changeEntry_effect card _

theorem execUncertaintyExpiry_eventRow (card : CardNumber) : EventRow (execUncertaintyExpiry card) :=
  .of_effect fun s => by
    split
    · exact .refl s
    · exact .ite _ (.refl s) (s.expirePart_effect _)

/-- The copy goes to the free region (R131). -/
theorem State.copyOffset_above {offset : Nat} (h : s.copyOffsetPasses offset ≠ false) (h0 : offset ≠ 0) :
    0xC0 ≤ offset := by
  simp only [State.copyOffsetPasses, ne_eq, Bool.not_eq_false, Bool.or_eq_true, Bool.and_eq_true,
    decide_eq_true_iff] at h
  obtain h | ⟨⟨-, hfree⟩, -⟩ := h
  · exact absurd h h0
  · exact Nat.le_trans (by decide : 0xC0 ≤ 0x300) (Area.inFree_iff.mp hfree).1

theorem execReadSighting_eventRow : EventRow execReadSighting :=
  .of_effect fun s => s.withOrder_effect fun o _ => by
    dsimp only
    split
    next => exact s.answer_effect o _ _ _
    next hpasses =>
      split
      next => exact s.answer_effect o _ _ _
      next =>
        refine .after (State.answer_effect _ o _ _ _) ?_
        split
        next => exact .refl s
        next h0 => exact s.writeMem_effect_above fun _ => s.copyOffset_above hpasses h0

theorem State.forget_effect (o : OrderInService) (card : CardNumber) : s.Effect (s.forget o card) :=
  .after (State.answer_effect _ o _ _ _) (s.setTable_effect fun h => LegalTable.remove h card)

theorem State.finishForget_effect : s.Effect s.finishForget := by
  unfold State.finishForget
  split
  · exact .refl s
  · split
    · exact s.forget_effect _ _
    · exact .refl s

theorem execForgetCard_eventRow : EventRow execForgetCard :=
  .of_effect fun s => s.withOrder_effect fun o _ => by
    split
    · exact s.answer_effect o _ _ _
    · refine .ite _ (s.answer_effect o _ _ _) ?_
      split
      · exact s.forget_effect o _
      · exact .after (State.setStage_effect _ nofun) (s.askUnresolved_effect _ _ _)

/-! ## The denylist's adoption (R114 to R116) -/

theorem execAdoptDenylist_eventRow : EventRow execAdoptDenylist :=
  .of_effect fun s => s.withOrder_effect fun o _ => by
    refine .ite _ (s.answer_effect o _ _ _) (.ite _ ?_ (.ite _ (s.answer_effect o _ _ _) ?_))
    · exact .after (State.setStage_effect _ nofun) (s.setLists_effect _ _)
    · exact .after (State.setStage_effect _ nofun) (.after (State.setHeld_effect _ _) (s.setLists_effect _ _))

theorem execDenylistScanEnd_eventRow : EventRow execDenylistScanEnd :=
  .of_effect fun s => by
    split
    · split
      · refine s.onDue_effect fun tb => ?_
        split
        · exact State.setStage_effect _ nofun
        · exact .after (State.answerAt_effect _ _ _ _ _)
            (.after (State.setHeld_effect _ _) (State.setLists_effect _ _ _))
      · exact .refl s
    · exact .refl s

theorem State.resumeLookup_effect : s.Effect (s.resumeLookup l) := .ite _ (s.startLookup_effect l) (.refl s)

theorem State.switchList_effect (d : Denylist) : s.Effect (s.switchList d) := by
  unfold State.switchList
  exact .after (State.answerAt_effect _ _ _ _ _)
    (.after (State.setReady_effect _ _)
      (.after (State.resumeLookup_effect _ .lane3)
        (.after (State.resumeLookup_effect _ .lane2)
          (.after (State.resumeLookup_effect _ .lane1)
            (.after (State.resumeLookup_effect _ .lane0)
              (.after (State.setHeld_effect _ _) (s.setLists_effect _ _)))))))

theorem execDenylistSwitch_eventRow : EventRow execDenylistSwitch :=
  .of_effect fun s => by
    split
    · exact .refl s
    · exact .ite _ (s.switchList_effect _) (.refl s)

end Sys2Proof.Machine
end

section
/-! SUPPORT. What the rows of the Presence Scanner and of the card link keep. -/

namespace Sys2Proof.Machine

open Sys2Proof

/-! ## Changes of a lane -/

/-- The removal watch changes, its misses still below 3 (R32). -/
theorem Lane.watch_effect {x : Lane} {watch : Option RemovalWatch}
    (h : (∀ w, x.watch = some w → w.misses < 3) → ∀ w, watch = some w → w.misses < 3) :
    x.Effect { x with watch := watch } :=
  ⟨⟨id, id, fun ⟨hgain, hnoisy, hquiet, hbaseline, hwatch⟩ => ⟨hgain, hnoisy, hquiet, hbaseline, h hwatch⟩, id⟩,
    rfl⟩

/-- A change of the watch that adds no miss. -/
theorem Lane.watch_map_effect (x : Lane) {f : RemovalWatch → RemovalWatch} (h : ∀ w, (f w).misses ≤ w.misses) :
    x.Effect { x with watch := x.watch.map f } :=
  Lane.watch_effect fun hx w hw => by
    obtain ⟨v, hv, rfl⟩ := Option.map_eq_some_iff.mp hw
    exact Nat.lt_of_le_of_lt (h v) (hx v hv)

/-- A dialogue begins where the credits leave room for the one it may bring (R21, R139). -/
theorem Lane.begin_effect {x : Lane} (d : Dialogue) (h : x.credits.length < 3) :
    x.Effect { x with dialogue := some d } :=
  ⟨⟨id, fun _ => h, id, id⟩, rfl⟩

theorem Lane.baseline_effect {x : Lane} {n : Nat} (h : x.baseline ≤ 1023 → n ≤ 1023) :
    x.Effect { x with baseline := n } :=
  ⟨⟨id, id, fun ⟨hgain, hnoisy, hquiet, hbaseline, hwatch⟩ => ⟨hgain, hnoisy, hquiet, h hbaseline, hwatch⟩, id⟩, rfl⟩

/-- The runs of noisy and of quiet measurements change within their bounds (R29). -/
theorem Lane.runs_effect {x : Lane} {noisy quiet : Nat} (hnoisy : x.noisyRun < 4 → noisy < 4)
    (hquiet : x.quietRun < 16 → quiet < 16) : x.Effect { x with noisyRun := noisy, quietRun := quiet } :=
  ⟨⟨id, id, fun ⟨hgain, hn, hq, hbaseline, hwatch⟩ => ⟨hgain, hnoisy hn, hquiet hq, hbaseline, hwatch⟩, id⟩, rfl⟩

theorem Lane.gain_effect {x : Lane} {n : Nat} (h : x.gain ≤ 31 → n ≤ 31) : x.Effect { x with gain := n } :=
  ⟨⟨id, id, fun ⟨hgain, hnoisy, hquiet, hbaseline, hwatch⟩ => ⟨h hgain, hnoisy, hquiet, hbaseline, hwatch⟩, id⟩, rfl⟩

/-- A reading in range moves a baseline in range within the range (R20). -/
theorem track_le {baseline reading : Nat} (hbaseline : baseline ≤ 1023) (hreading : reading ≤ 1023) :
    track baseline reading ≤ 1023 := by
  unfold track
  obtain h | h := Int.le_total 0 ((reading : Int) - baseline)
  · rw [Int.tdiv_eq_ediv_of_nonneg h]
    omega
  · have hdown : 0 ≤ Int.tdiv ((baseline : Int) - reading) 16 := Int.tdiv_nonneg (by omega) (by decide)
    rw [← Int.neg_sub, Int.neg_tdiv]
    omega

theorem readingOf_le (load : Nat) : readingOf load ≤ 1023 := Nat.min_le_left 1023 _

variable (x : Lane) (p : Parameters) (tb : Nat)

theorem Lane.noise_effect (threshold : Nat) (level : Byte) : x.Effect (x.noise threshold level) := by
  unfold Lane.noise
  dsimp only
  split
  · split
    · exact Lane.runs_effect id fun _ => Nat.zero_lt_succ _
    · split
      · exact Lane.runs_effect id fun _ => by assumption
      · exact (Lane.runs_effect (fun _ => Nat.zero_lt_succ _) fun _ => Nat.zero_lt_succ _).trans (.of_lawParts rfl)
  · split
    · split
      · exact Lane.runs_effect (fun _ => by assumption) id
      · exact (Lane.runs_effect (fun _ => Nat.zero_lt_succ _) fun _ => Nat.zero_lt_succ _).trans (.of_lawParts rfl)
    · exact Lane.runs_effect (fun _ => Nat.zero_lt_succ _) id

theorem Lane.measureNoise_effect (c : CardCommand) : x.Effect (x.measureNoise p tb c) := .of_lawParts rfl

theorem Lane.probe_effect : x.Effect (x.probe p tb) :=
  (x.measureNoise_effect p tb .probe).trans (Lane.watch_map_effect _ fun _ => Nat.le_refl _)

theorem Lane.probeDone_effect : x.Effect (x.probeDone p tb) := by
  refine (.of_lawParts rfl : x.Effect { x with link := .idle }).trans ?_
  unfold Lane.probeDone
  dsimp only
  split
  · exact Lane.probe_effect _ p tb
  · exact .refl _

theorem Lane.miss_effect (w : RemovalWatch) : x.Effect (x.miss p tb w) := by
  unfold Lane.miss
  split
  next h =>
    refine (Lane.watch_effect fun _ v hv => ?_).trans (Lane.probeDone_effect _ p tb)
    obtain rfl := Option.some.inj hv
    exact h
  next => exact (Lane.watch_effect (watch := none) fun _ => nofun).trans (.of_lawParts rfl)

theorem Lane.adjustGain_effect (target : Nat) (peak : Byte) : x.Effect (x.adjustGain target peak) := by
  unfold Lane.adjustGain
  split
  · exact Lane.gain_effect fun h => Nat.le_trans (Nat.sub_le x.gain 1) h
  · split
    · exact Lane.gain_effect fun _ => Nat.min_le_left 31 _
    · exact .refl x

/-! ## The Presence Scanner (R15 to R22) -/

variable (s : State) (l : LaneId)

theorem State.measureNext_effect : s.Effect s.measureNext := by
  unfold State.measureNext
  split
  · exact .of_lawParts rfl
  · exact State.Effect.trans (t := s.updLane _ fun x => { x with carrier := some (s.carrierNow _) })
      (s.updLane_effect fun _ => .of_lawParts rfl) (.of_lawParts rfl)

theorem State.startRound_effect (start : Nat) : s.Effect (s.startRound start) :=
  (State.measureNext_effect _).from_lawParts rfl

theorem execScanRoundStart_eventRow : EventRow execScanRoundStart :=
  .of_effect fun s => by
    refine .ite _ (.refl s) ?_
    split
    · exact s.startRound_effect _
    · exact s.onDue_effect fun _ => State.startRound_effect _ _

theorem execSettleEnd_eventRow : EventRow execSettleEnd :=
  .of_effect fun s => by
    split
    · exact .refl s
    · exact .ite _ (.refl s) (s.onDue_effect fun _ => .of_lawParts rfl)

theorem State.mayStart_credits {s : State} {l : LaneId} (h : s.mayStart l = true) :
    (s.lane l).credits.length < 3 := by
  simp only [State.mayStart, Bool.and_eq_true, decide_eq_true_iff] at h
  obtain ⟨⟨-, hcredits⟩, -⟩ := h
  exact hcredits

theorem State.startDialogue_effect (h : s.mayStart l = true) : s.Effect (s.startDialogue l) := by
  have hbegin := Lane.begin_effect (s.newDialogue l) (State.mayStart_credits h)
  exact .after (State.setLane_effect (s.setReserved (s.journal.reserved + Config.dialogueReservation))
    (hbegin.trans ((Lane.watch_effect (watch := none) fun _ => nofun).trans (.of_lawParts rfl))))
    (s.setReserved_effect _)

theorem State.detect_effect : s.Effect (s.detect l) := by
  unfold State.detect
  split
  next h => exact s.startDialogue_effect l h
  next => exact s.updLane_effect fun _ => .of_lawParts rfl

theorem State.takeReading_effect {reading : Nat} (h : reading ≤ 1023) : s.Effect (s.takeReading l reading) := by
  unfold State.takeReading
  dsimp only
  split
  · exact s.updLane_effect fun _ => (Lane.baseline_effect fun _ => h).trans (.of_lawParts rfl)
  · split
    · exact s.detect_effect l
    · exact s.updLane_effect fun _ => (Lane.baseline_effect fun hb => track_le hb h).trans (.of_lawParts rfl)

theorem execConversionEnd_eventRow (load : Nat) : EventRow (execConversionEnd load) :=
  .of_effect fun s => by
    split
    · exact .refl s
    · refine .ite _ (s.onDue_effect fun _ => ?_) (.refl s)
      exact .after (State.measureNext_effect _)
        (.ite _ (.refl _)
          (.after (State.takeReading_effect _ _ (readingOf_le load))
            (State.updLane_effect _ fun _ => .of_lawParts rfl)))

/-! ## Frames and noise (R24 to R30, R40) -/

theorem State.takeNoise_effect (threshold : Nat) (level : Byte) : s.Effect (s.takeNoise l threshold level) :=
  .after (.ite _ (State.updDialogue_effect _ l _) (.refl _))
    (.after (.ite _ (.refl _) (State.raise_effect _ .lane)) (s.setLane_effect ((s.lane l).noise_effect _ _)))

theorem State.sendCommand_effect (c : CardCommand) : s.Effect (s.sendCommand l c) :=
  .after (State.onLane_effect _ fun p tb x => x.measureNoise_effect p tb c) (s.updDialogue_effect l _)

theorem State.beginFrame_effect (c : CardCommand) : s.Effect (s.beginFrame l c) := by
  unfold State.beginFrame
  exact s.onLane_effect fun _ _ _ => .of_lawParts rfl

theorem State.firstBit_effect (c : CardCommand) : s.Effect (s.firstBit l c) := by
  unfold State.firstBit
  split
  · exact s.takeChallenge_effect l
  · exact s.updDialogue_effect l _
  · exact s.updLane_effect fun x => x.watch_map_effect fun _ => Nat.le_refl _
  · exact .refl s

theorem execPowerUpHoldEnd_eventRow (level : Byte) : EventRow (execPowerUpHoldEnd l level) :=
  .of_effect fun s => by
    split
    · refine s.onDue_effect fun _ => ?_
      exact .after (State.beginFrame_effect _ l _)
        (.after (State.updDialogue_effect _ l _) (State.takeNoise_effect _ l _ _))
    · exact .refl s

theorem execNoiseMeasurementEnd_eventRow (level : Byte) : EventRow (execNoiseMeasurementEnd l level) :=
  .of_effect fun s => by
    split
    · refine s.onDue_effect fun _ => ?_
      exact .after (State.beginFrame_effect _ l _)
        (.after (State.firstBit_effect _ l _) (State.takeNoise_effect _ l _ _))
    · exact .refl s

theorem execFrameSent_eventRow : EventRow (execFrameSent l) :=
  .of_effect fun s => by
    split
    · exact s.onDue_effect fun _ => State.onLane_effect _ fun _ _ _ => .of_lawParts rfl
    · exact .refl s

theorem execAnswerStart_eventRow : EventRow (execAnswerStart l) :=
  .of_effect fun s => by
    split
    · refine .ite _ (s.onLane_effect fun _ _ x => ?_) (.refl s)
      exact (x.watch_map_effect fun _ => Nat.zero_le _).trans (.of_lawParts rfl)
    · exact .refl s

/-! ## The dialogue's answers (R26, R27, R31, R41 to R55) -/

theorem State.commandFailed_effect (d : Dialogue) : s.Effect (s.commandFailed l d) := s.endDialogue_effect l _ _

theorem State.noAnswer_effect (d : Dialogue) (c : CardCommand) : s.Effect (s.noAnswer l d c) :=
  .ite _
    (.after (State.onLane_effect _ fun p tb x => x.measureNoise_effect p tb c) (s.updDialogue_effect l _))
    (s.commandFailed_effect l d)

theorem State.examineIdentity_effect (i : Identity) : s.Effect (s.examineIdentity l i) :=
  .after (.ite _ (State.sendCommand_effect _ l _) (State.endDialogue_effect _ l _ _)) (s.updDialogue_effect l _)

theorem State.takeBlock_effect (d : Dialogue) (index : Nat) (f : AnswerFrame) :
    s.Effect (s.takeBlock l d index f) :=
  .after (.ite _ (State.sendCommand_effect _ l _)
      (.ite _ (.after (State.askEngine_effect _ l _) (State.updDialogue_effect _ l _))
        (State.endDialogue_effect _ l _ _)))
    (s.updDialogue_effect l _)

theorem State.takeAck_effect (d : Dialogue) (f : AnswerFrame) : s.Effect (s.takeAck l d f) :=
  .ite _
    (.after (State.enqueue_effect _ _) (.after (State.updDialogue_effect _ l _) (s.confirmImage_effect d.card _)))
    (s.endDialogue_effect l _ _)

theorem State.takeAnswer_effect (d : Dialogue) (c : CardCommand) (f : AnswerFrame) :
    s.Effect (s.takeAnswer l d c f) := by
  cases c with
  | select => exact s.examineIdentity_effect l _
  | identify => exact s.updDialogue_effect l _
  | auth => exact .after (State.askEngine_effect _ l _) (s.updDialogue_effect l _)
  | read index => exact s.takeBlock_effect l d index f
  | writePurse => exact s.takeAck_effect l d f
  | probe => exact .refl s

theorem State.judgeAnswer_effect (d : Dialogue) (a : Reception) : s.Effect (s.judgeAnswer l d a) := by
  unfold State.judgeAnswer
  split
  · exact .refl s
  · split
    · exact .ite _ (s.endDialogue_effect l _ _) (s.noAnswer_effect l d _)
    · exact .ite _ (s.takeAnswer_effect l d _ _) (s.noAnswer_effect l d _)

theorem State.takeReception_effect (peak : Byte) (a : Reception) : s.Effect (s.takeReception l peak a) := by
  have hgain : s.Effect (s.onLane l fun p _ x => { x.adjustGain p.gainTarget peak with link := .idle }) :=
    s.onLane_effect fun p _ x => (x.adjustGain_effect p.gainTarget peak).trans (.of_lawParts rfl)
  refine hgain.trans ?_
  unfold State.takeReception
  dsimp only
  split
  · exact State.judgeAnswer_effect _ l _ a
  · exact State.onLane_effect _ fun p tb x => x.probeDone_effect p tb

theorem execAnswerReceived_eventRow (peak : Byte) (a : Reception) : EventRow (execAnswerReceived l peak a) :=
  .of_effect fun s => by
    split
    · exact s.onDue_effect fun _ => State.takeReception_effect _ l peak a
    · exact .refl s

theorem execResponseWaitExpiry_eventRow : EventRow (execResponseWaitExpiry l) :=
  .of_effect fun s => by
    split
    · split
      · exact .refl s
      · refine s.onDue_effect fun _ => ?_
        exact .after (State.noAnswer_effect _ l _ _) (State.updLane_effect _ fun _ => .of_lawParts rfl)
    · exact .refl s

theorem execDialogueDeadlineExpiry_eventRow : EventRow (execDialogueDeadlineExpiry l) :=
  .of_effect fun s => by
    split
    · exact .refl s
    · exact .ite _ (s.endDialogue_effect l _ _) (.refl s)

/-! ## The removal watch (R32, R33) -/

theorem execProbeTimerExpiry_eventRow : EventRow (execProbeTimerExpiry l) :=
  .of_effect fun s => by
    split
    next => exact .refl s
    next w hw =>
      refine .ite _ (.ite _ (s.onLane_effect fun p tb x => x.probe_effect p tb) (s.setLane_effect ?_)) (.refl s)
      exact Lane.watch_effect fun hx v hv => by
        obtain rfl := Option.some.inj hv
        exact hx w hw

theorem execProbeWaitExpiry_eventRow : EventRow (execProbeWaitExpiry l) :=
  .of_effect fun s => by
    split
    · exact s.onDue_effect fun _ => State.onLane_effect _ fun p tb x => x.miss_effect p tb _
    · exact .refl s

/-! ## Answers of the shared blocks (R44 to R48, R51, R55, R75 to R79) -/

theorem State.deliver_effect (op : AeOperation) (store : WorkingStore) : s.Effect (s.deliver l op store) := by
  refine (s.setOutstanding_effect l none).trans ?_
  unfold State.deliver
  dsimp only
  split
  · exact .after (State.sendCommand_effect _ l _) (State.updDialogue_effect _ l _)
  · exact State.endDialogue_effect _ l _ _
  · exact State.endDialogue_effect _ l _ _
  · exact .ite _ (.after (State.sendCommand_effect _ l _) (State.updDialogue_effect _ l _))
      (State.endDialogue_effect _ l _ _)
  · exact .ite _ (.after (State.askScreen_effect _ l) (State.updDialogue_effect _ l _))
      (State.endDialogue_effect _ l _ _)
  · exact .after (State.sendCommand_effect _ l _) (State.updDialogue_effect _ l _)
  · exact .refl _

theorem State.completeOperation_effect (v : AeService) : s.Effect (s.completeOperation v) :=
  .after (.ite _ (State.deliver_effect _ _ _ _) (.refl _)) ((State.grantNext_effect _).from_lawParts rfl)

theorem execAeOperationComplete_eventRow : EventRow execAeOperationComplete :=
  .of_effect fun s => by
    split
    · exact .refl s
    · exact s.onDue_effect fun _ => State.completeOperation_effect _ _

theorem State.regrantPath_effect (d : Dialogue) : s.Effect (s.regrantPath l d) :=
  .after (State.enqueue_effect _ _) (s.updDialogue_effect l _)

theorem State.takeScreen_effect (d : Dialogue) (a : ScreenAnswer) : s.Effect (s.takeScreen l d a) := by
  refine (s.setOutstanding_effect l none).trans ?_
  unfold State.takeScreen
  refine .ite _ (State.beginRelease_effect _ l) ?_
  cases a
  case pass => exact .after (State.startPrice_effect _ l) (State.updDialogue_effect _ l _)
  case regrant => exact State.regrantPath_effect _ l d
  all_goals exact State.endDialogue_effect _ l _ _

theorem execScreenAnswer_eventRow : EventRow (execScreenAnswer l) :=
  .of_effect fun s => by
    split
    · exact .refl s
    · split
      · exact .ite _ (.refl s) (s.onDue_effect fun _ => State.takeScreen_effect _ l _ _)
      · exact .refl s

end Sys2Proof.Machine
end

section
/-! SUPPORT. What the rows of the Passage Controllers keep. -/

namespace Sys2Proof.Machine

open Sys2Proof

variable (s : State) (l : LaneId)

/-! ## Lane modes and lane orders (R135, R136, R149, R159) -/

theorem Lane.intoService_effect (p : Parameters) (tb : Nat) (x : Lane) : x.Effect (x.intoService p tb) := by
  unfold Lane.intoService
  dsimp only
  refine Lane.Effect.trans ?_ (Lane.closingTest_effect _ p tb)
  refine Lane.Effect.trans ?_ (Lane.serviceField_effect _)
  split
  next => exact x.settle_effect p tb
  next h => exact Lane.leaveFree_effect h
  next => exact .refl x

theorem Lane.intoOut_effect (p : Parameters) (tb : Nat) (x : Lane) : x.Effect (x.intoOut p tb) := by
  unfold Lane.intoOut
  refine Lane.Effect.trans ?_ (Lane.closingTest_effect _ p tb)
  split
  next h => exact Lane.setPc_effect .out (Lane.not_closing_of_pc (by rw [h]; decide))
  next h => exact Lane.leaveFree_effect h
  next => exact .refl x

theorem State.setMode_effect (mode : LaneMode) : s.Effect (s.updLane l fun x => { x with mode := mode }) :=
  s.updLane_effect fun _ => .of_lawParts rfl

theorem State.applyMode_effect (mode : LaneMode) : s.Effect (s.applyMode l mode) := by
  unfold State.applyMode
  refine .ite _ (.refl s) (.ite _ (s.setMode_effect l mode) ?_)
  cases mode
  · exact .after (State.onLane_effect _ Lane.intoOut_effect)
      (.after (State.leaveService_effect _ l) (s.setMode_effect l _))
  · exact .after (State.onLane_effect _ Lane.intoService_effect) (s.setMode_effect l _)
  · exact .after (State.onLane_effect _ Lane.intoService_effect) (s.setMode_effect l _)
  · exact .after (State.onLane_effect _ fun p tb x => x.enterFree_effect p tb)
      (.after (State.leaveService_effect _ l) (s.setMode_effect l _))

theorem State.setLaneMode_effect : s.Effect s.setLaneMode :=
  s.withOrder_effect fun o _ => by
    split
    · split
      · exact s.answer_effect o _ _ _
      · exact .ite _ (s.defer_effect _) (.after (State.answer_effect _ o _ _ _) (s.applyMode_effect _ _))
    · exact s.answer_effect o _ _ _

theorem execSetLaneMode_eventRow : EventRow execSetLaneMode := .of_effect State.setLaneMode_effect

theorem Lane.clearFault_effect (x : Lane) : x.Effect x.clearFault :=
  ⟨⟨id, id, fun ⟨_, _, _, hbaseline, hwatch⟩ =>
    ⟨(by decide : 16 ≤ 31), Nat.zero_lt_succ _, Nat.zero_lt_succ _, hbaseline, hwatch⟩, id⟩, rfl⟩

theorem Lane.restore_effect (p : Parameters) (tb : Nat) (x : Lane) : x.Effect (x.restore p tb) := by
  unfold Lane.restore
  split
  · split
    · exact x.restFree_effect
    · exact x.openFree_effect p tb
  · exact (x.settle_effect p tb).trans (Lane.serviceField_effect _)

theorem State.resetLane_effect : s.Effect (s.resetLane l) :=
  .after (State.onLane_effect _ Lane.restore_effect)
    (.after (State.updLane_effect _ Lane.clearFault_effect)
      (.after (.ite _ (State.raise_effect _ .lane) (.refl _)) (s.leaveService_effect l)))

theorem State.resetLaneOrder_effect : s.Effect s.resetLaneOrder :=
  s.withOrder_effect fun o _ => by
    split
    · exact s.answer_effect o _ _ _
    · exact .ite _ (s.defer_effect _) (.after (State.answer_effect _ o _ _ _) (s.resetLane_effect _))

theorem execResetLane_eventRow : EventRow execResetLane := .of_effect State.resetLaneOrder_effect

theorem Lane.clearCounts_effect (x : Lane) :
    x.Effect { x with tailgate := 0, intrusion := 0, stuck := 0, obstruction := 0 } :=
  ⟨⟨id, id, id, fun _ => ⟨Nat.zero_le _, Nat.zero_le _, Nat.zero_le _, Nat.zero_le _⟩⟩, rfl⟩

theorem execClearLaneCounts_eventRow : EventRow execClearLaneCounts :=
  .of_effect fun s => s.withOrder_effect fun o _ => by
    split
    · exact s.answer_effect o _ _ _
    · exact .after (State.answer_effect _ o _ _ _) (s.updLane_effect Lane.clearCounts_effect)

/-! ## Beam events (R138 to R150) -/

theorem State.approach_effect : s.Effect (s.approach l) := by
  unfold State.approach
  refine .ite _ (s.updLane_effect fun x => ?_) (.ite _ (s.alarm_effect l _) (.refl s))
  exact (x.credits_effect (Nat.le_of_eq (length_useOldestWaiting _ _ _))).trans (Lane.startPassage_effect _ _ _)

theorem State.farReached_effect : s.Effect (s.farReached l) := by
  unfold State.farReached
  refine .ite _ (s.alarm_effect l _) (.ite _ ?_ ?_)
  · exact s.updLane_effect fun x => x.credits_effect (Nat.le_of_eq (length_markOldestFar _))
  · exact s.updLane_effect fun x => x.credits_effect (Nat.le_of_eq (length_useOldestWaiting _ _ _))

theorem State.endPassage_effect : s.Effect (s.endPassage l) := by
  unfold State.endPassage
  refine .ite _ (.after (State.onLane_effect _ fun p tb x => x.closingTest_effect p tb)
    (.after (State.endCredits_effect l _ _ _) (s.setLane_effect ?_))) (.refl s)
  refine (Lane.credits_effect _ ?_).trans (.of_lawParts rfl)
  exact Nat.le_trans (Nat.le_of_eq (List.length_map _)) (List.length_filter_le _ _)

/-- The lane with a beam group's new state. -/
def Lane.setBeam (g : BeamGroup) (v : Beam) (tb : Nat) (x : Lane) : Lane :=
  { x with beams := x.beams.set g v, beamSince := x.beamSince.set g tb }

theorem Lane.setBeam_effect {g : BeamGroup} {v : Beam} (tb : Nat) {x : Lane}
    (h : g = .middle → v = .blocked → x.pc ≠ .closing) : x.Effect (x.setBeam g v tb) := by
  refine ⟨⟨fun hx => (Lane.leavesSafe_iff _).mpr fun hstroke => ?_, id, id, id⟩, rfl⟩
  obtain ⟨hpc, hclear⟩ := x.leavesSafe_iff.mp hx hstroke
  refine ⟨hpc, ?_⟩
  cases g
  · exact hclear
  · cases v with
    | clear => rfl
    | blocked => exact absurd hpc (h rfl rfl)
  · exact hclear

theorem State.onLane_onLane (f g : Parameters → Nat → Lane → Lane) :
    (s.onLane l f).onLane l g = s.onLane l fun p tb x => g p tb (f p tb x) :=
  State.eq_of_lanes rfl (by
    change (s.lanes.set l _).set l (g _ _ (State.lane (s.onLane l f) l)) = _
    rw [PerLane.set_set, State.onLane, State.lane_updLane_self]
    rfl)

/-- The leaves reverse as the middle group becomes BLOCKED (R150). -/
theorem Lane.reverse_effect (p : Parameters) (tb : Nat) (x : Lane) :
    x.Effect ((x.setBeam .middle .blocked tb).startOpening p tb) :=
  ⟨⟨fun _ => Lane.leavesSafe_of_not_closing (by decide : some Limit.atOpen ≠ some .atClosed), id, id, id⟩, rfl⟩

/-- The middle group may become BLOCKED in CLOSING, since the leaves are reversed at once (R150). -/
theorem State.middleBlocked_effect :
    s.Effect ((s.onLane l fun _ tb x => x.setBeam .middle .blocked tb).middleBlocked l) := by
  have hpc : (State.lane (s.onLane l fun _ tb x => x.setBeam .middle .blocked tb) l).pc = (s.lane l).pc := by
    rw [State.onLane, State.lane_updLane_self]
    rfl
  unfold State.middleBlocked
  rw [hpc]
  have hset : (s.lane l).pc ≠ .closing →
      s.Effect (s.onLane l fun _ tb x => x.setBeam .middle .blocked tb) := fun h =>
    s.setLane_effect (Lane.setBeam_effect _ fun _ _ => h)
  split
  next h => exact .after (State.alarm_effect _ l _) (hset (by rw [h]; decide))
  next h =>
    rw [State.onLane_onLane]
    exact s.onLane_effect Lane.reverse_effect
  next h => exact hset h

theorem State.beamChange_effect (g : BeamGroup) (v : Beam) : s.Effect (s.beamChange l g v) := by
  cases v with
  | clear =>
    refine .after (.ite _ (State.onLane_effect _ fun p tb x => x.closingTest_effect p tb) (.refl _))
      (.after (State.endPassage_effect _ l) (s.setLane_effect ?_))
    exact Lane.setBeam_effect (v := .clear) _ fun _ => nofun
  | blocked =>
    by_cases hg : g = .middle
    · subst hg
      exact s.middleBlocked_effect l
    · have hset : s.Effect (s.onLane l fun _ tb x => x.setBeam g .blocked tb) :=
        s.setLane_effect (Lane.setBeam_effect _ fun h => absurd h hg)
      refine hset.trans ?_
      unfold State.beamChange
      dsimp only
      rw [if_neg hg]
      exact .ite _ (.ite _ (State.approach_effect _ l) (.ite _ (State.farReached_effect _ l) (.refl _))) (.refl _)

theorem execBeamEvent_eventRow (g : BeamGroup) (v : Beam) (held : Nat) : EventRow (execBeamEvent l g v held) :=
  .of_effect fun s => .ite _ (s.onDue_effect fun _ => State.beamChange_effect _ l g v) (.refl s)

/-! ## Timers and strokes (R140, R146, R151 to R154) -/

theorem execCreditExpiry_eventRow (sequence : Word) : EventRow (execCreditExpiry l sequence) :=
  .of_effect fun s => by
    split
    · exact .refl s
    · exact .after (State.onLane_effect _ fun p tb x => x.closingTest_effect p tb)
        (.after (State.endCredit_effect _ l _ _)
          (s.updLane_effect fun x => x.credits_effect List.erase_sublist.length_le))

theorem execStuckTimerExpiry_eventRow : EventRow (execStuckTimerExpiry l) :=
  .of_effect fun s => by
    split
    · exact .ite _ (.after (State.alarm_effect _ l _) (s.updLane_effect fun _ => .of_lawParts rfl)) (.refl s)
    · exact .refl s

/-- A change of the stroke that keeps its direction. -/
theorem Lane.stroke_effect {x : Lane} {toward : Limit} {boost boost' : Option Nat} {timeout brakeMs : Nat}
    (h : x.drive = .stroke toward boost timeout brakeMs) :
    x.Effect { x with drive := .stroke toward boost' timeout brakeMs } :=
  ⟨⟨fun hx => (Lane.leavesSafe_iff _).mpr fun hstroke =>
    x.leavesSafe_iff.mp hx (by rw [Lane.stroking, h]; exact hstroke), id, id, id⟩, rfl⟩

theorem execBoostEnd_eventRow : EventRow (execBoostEnd l) :=
  .of_effect fun s => by
    split
    next h => exact s.onDue_effect fun _ => State.setLane_effect _ (Lane.stroke_effect h)
    next => exact .refl s

theorem brakeAt_ne_stroke (tb : Nat) (limit : Limit) (brakeMs : Nat) (boost : Option Nat) (timeout n : Nat) :
    brakeAt tb limit brakeMs ≠ .stroke .atClosed boost timeout n := by
  unfold brakeAt
  split <;> nofun

theorem Lane.strokeDone_effect (p : Parameters) (tb : Nat) (limit : Limit) (brakeMs : Nat) (x : Lane) :
    x.Effect (Lane.strokeDone p tb limit { x with drive := brakeAt tb limit brakeMs }) := by
  have hdrive := fun pc => x.drive_effect pc (brakeAt_ne_stroke tb limit brakeMs)
  cases limit with
  | atOpen =>
    unfold Lane.strokeDone
    dsimp only
    split
    · exact hdrive x.pc
    · exact (hdrive .opened).trans (Lane.closingTest_effect _ p tb)
  | atClosed => exact (hdrive _).trans (.of_lawParts rfl)

theorem execLimitSwitchEvent_eventRow (limit : Limit) (active : Bool) :
    EventRow (execLimitSwitchEvent l limit active) :=
  .of_effect fun s => by
    have hlimit : s.Effect (s.updLane l (Lane.setLimit limit active)) := s.updLane_effect fun x => by
      cases limit <;> exact .of_lawParts rfl
    refine hlimit.trans ?_
    dsimp only
    split
    · exact .ite _ (State.onLane_effect _ fun p tb x => x.strokeDone_effect p tb limit _) (.refl _)
    · exact .refl _

theorem execBrakeEnd_eventRow : EventRow (execBrakeEnd l) :=
  .of_effect fun s => by
    split
    · exact s.onDue_effect fun _ => State.updLane_effect _ fun x => x.drive_effect x.pc nofun
    · exact .refl s

theorem State.obstruct_effect : s.Effect (s.obstruct l) :=
  .after (.ite _ (State.onLane_effect _ fun p tb x => x.startOpening_effect p tb) (State.enterFault_effect _ l _))
    (.after (State.alarm_effect _ l _) (s.updLane_effect fun _ => .of_lawParts rfl))

theorem State.overload_effect : s.Effect (s.overload l) :=
  .ite _ (.refl s) (.ite _ (s.defer_effect _) (s.obstruct_effect l))

theorem execLeafOverload_eventRow : EventRow (execLeafOverload l) := .of_effect fun s => s.overload_effect l

theorem State.strokeOver_effect : s.Effect (s.strokeOver l) := by
  unfold State.strokeOver
  split
  · exact s.onDue_effect fun _ => .ite _ (State.defer_effect _ _) (State.enterFault_effect _ l _)
  · exact .refl s

theorem execStrokeTimeout_eventRow : EventRow (execStrokeTimeout l) := .of_effect fun s => s.strokeOver_effect l

/-! ## The emergency input (R157, R158) -/

theorem State.freeEveryLane_effect : s.Effect s.freeEveryLane := by
  unfold State.freeEveryLane
  exact .after (State.raise_effect _ .lane)
    (.after (State.applyMode_effect _ .lane3 _)
      (.after (State.applyMode_effect _ .lane2 _)
        (.after (State.applyMode_effect _ .lane1 _) ((State.applyMode_effect _ .lane0 _).from_lawParts rfl))))

theorem State.emergencyTaken_effect (held : Nat) : s.Effect (s.emergencyTaken held) :=
  .ite _ (s.onDue_effect fun _ => .ite _ (State.defer_effect _ _) (State.freeEveryLane_effect _)) (.refl s)

theorem execEmergencyAsserted_eventRow (held : Nat) : EventRow (execEmergencyAsserted held) :=
  .of_effect fun s => s.emergencyTaken_effect held

theorem execEmergencyReleased_eventRow (held : Nat) : EventRow (execEmergencyReleased held) :=
  .of_effect fun s => .ite _ (s.onDue_effect fun _ =>
    .ite _ ((State.raise_effect _ .lane).from_lawParts rfl) (.of_lawParts rfl)) (.refl s)

/-! ## Rows that waited, displays and tones (R53, R55, R161, R162) -/

theorem State.takeDeferred_effect (row : Deferred) : s.Effect (s.takeDeferred row) := by
  cases row with
  | setLaneMode => exact s.setLaneMode_effect
  | resetLane => exact s.resetLaneOrder_effect
  | leafOverload l => exact s.overload_effect l
  | strokeTimeout l => exact s.strokeOver_effect l
  | emergencyAsserted held => exact s.emergencyTaken_effect held

theorem execTimedDisplayEnd_eventRow : EventRow (execTimedDisplayEnd l) :=
  .of_effect fun s => by
    split
    · exact .refl s
    · exact s.onDue_effect fun _ => State.updLane_effect _ fun _ => .of_lawParts rfl

theorem execToneEnd_eventRow : EventRow (execToneEnd l) :=
  .of_effect fun s => by
    split
    · exact .refl s
    · exact s.onDue_effect fun _ => State.updLane_effect _ fun _ => .of_lawParts rfl

end Sys2Proof.Machine
end

section
/-! SUPPORT. What the rows of the Journal Writer and SET PARAMETERS keep. -/

namespace Sys2Proof.Machine

open Sys2Proof

variable (s : State)

theorem State.afterRecord_effect (w : Waiter) (sequence : Word) : s.Effect (s.afterRecord w sequence) := by
  cases w with
  | grant l => exact s.grant_effect l sequence
  | release l => exact s.finishRelease_effect l
  | order => exact s.finishForget_effect
  | nobody => exact .refl s
  | screen => exact .refl s

theorem State.writeFront_effect : s.Effect s.writeFront := by
  unfold State.writeFront
  split
  next q rest r _ hring =>
    refine .after (State.afterRecord_effect _ _ _) (.after (State.notifyTests_effect _ _ _) ?_)
    exact ((s.placeRecord_effect q.record hring).trans (State.useReservation_effect _ q.holder)).trans
      (.of_lawParts rfl)
  next => exact .refl s

theorem execNotifyTimerExpiry_eventRow : EventRow execNotifyTimerExpiry :=
  .of_effect fun s => by
    split
    · exact .refl s
    · exact s.onDue_effect fun _ => (State.raise_effect _ .journal).from_lawParts rfl

theorem State.acceptTally_effect (v : Word) : s.Effect (s.acceptTally v) := by
  unfold State.acceptTally
  dsimp only
  split
  · exact .of_lawParts rfl
  · exact .ite _ (.of_lawParts rfl) ((State.startNotify_effect _ _).from_lawParts rfl)

theorem State.judgeTally_effect : s.Effect s.judgeTally :=
  .ite _ (s.acceptTally_effect _)
    (.after (State.recordHeld_effect _ _) (s.writeMem_effect_header (by decide) (by simp [length_leBytes])))

theorem execConsumedTallyEvent_eventRow : EventRow execConsumedTallyEvent :=
  .of_effect fun s => .ite _ (.refl s) ((State.judgeTally_effect _).from_lawParts rfl)

/-- A ring that R175 accepts lies in the free region and has a place at its start. -/
theorem State.ring_of_accepted {r : Ring} (h : s.ringFailure r = none) :
    0x300 ≤ r.base ∧ r.base + 32 * r.size ≤ 0x40000 ∧ 0 < r.size := by
  unfold State.ringFailure at h
  split at h
  · contradiction
  next hsize =>
    split at h
    · contradiction
    · split at h
      · contradiction
      · split at h
        · contradiction
        next hplace =>
          simp only [not_or, Bool.not_eq_false] at hplace
          obtain ⟨-, hfree, -⟩ := hplace
          obtain ⟨hbase, hend⟩ := Area.inFree_iff.mp hfree
          exact ⟨hbase, hend, by omega⟩

theorem State.configure_effect {r : Ring} (h : s.ringFailure r = none) : s.Effect (s.configure r) := by
  obtain ⟨hbase, hend, hsize⟩ := s.ring_of_accepted h
  unfold State.configure
  refine .after (State.setReady_effect _ _)
    (.after (State.writeMem_effect_header _ (by decide) (by simp [length_leBytes]))
      (.after (State.setJournal_effect _ fun _ r' hr' => ?_) (s.setHeld_effect _)))
  obtain rfl := Option.some.inj hr'
  exact ⟨hbase, hend, hsize⟩

theorem execConfigureJournal_eventRow : EventRow execConfigureJournal :=
  .of_effect fun s => s.withOrder_effect fun o _ => by
    dsimp only
    split
    next => exact s.answer_effect o _ _ _
    next h => exact .ite _ (s.answer_effect o _ _ _) (.after (State.answer_effect _ o _ _ _) (s.configure_effect h))

theorem execSetParameters_eventRow : EventRow execSetParameters :=
  .of_effect fun s => s.withOrder_effect fun o _ =>
    .ite _ (s.answer_effect o _ _ _) (s.setStage_effect nofun)

theorem State.takeParameters_effect (base : Nat) : s.Effect (s.takeParameters base) := by
  unfold State.takeParameters
  exact .after (State.answerAt_effect _ _ _ _ _) ((State.expireAtOnce_effect _).from_lawParts rfl)

theorem execParameterBlockReadEnd_eventRow : EventRow execParameterBlockReadEnd :=
  .of_effect fun s => by
    split
    · exact .refl s
    · split
      · exact s.onDue_effect fun _ => State.takeParameters_effect _ _
      · exact .refl s

/-- The event of R177. -/
def State.writeDueFront (s : State) : State :=
  if s.journal.queue.isEmpty then s else s.onDue s.journal.writeDue State.writeFront

theorem State.writeDueFront_effect : s.Effect s.writeDueFront :=
  .ite _ (.refl s) (s.onDue_effect fun _ => State.writeFront_effect _)

theorem execJournalRecordWrite_eq :
    execJournalRecordWrite s = .next
      (if s.journal.frontGrants && (s.event State.writeDueFront).journal.written != s.journal.written then
        (s.event State.writeDueFront).settleDeferred
      else s.event State.writeDueFront) := rfl

end Sys2Proof.Machine
end

section
/-! SUPPORT. What the accesses at the port and the start-ups keep, and every step with them. -/

namespace Sys2Proof.Machine

open Sys2Proof

/-! ## What an access and a step of a start-up change -/

/-- An access at the port or a step of a start-up changes memory, orders, port, registers and the part's own words at
most, and keeps the form of memory and registers. -/
structure State.Accessed (s t : State) : Prop where
  same : t = { s with mem := t.mem, orders := t.orders, port := t.port, regs := t.regs, sys := t.sys }
  memory : s.MemoryLegal → t.MemoryLegal
  regs : s.RegistersLegal → t.RegistersLegal

theorem State.Accessed.refl (s : State) : s.Accessed s := ⟨rfl, id, id⟩

theorem State.Accessed.trans {s t u : State} (h : s.Accessed t) (k : t.Accessed u) : s.Accessed u :=
  ⟨by rw [k.same, h.same], k.memory ∘ h.memory, k.regs ∘ h.regs⟩

theorem State.Accessed.after {s t u : State} (k : t.Accessed u) (h : s.Accessed t) : s.Accessed u := h.trans k

section
variable (s : State)

theorem State.Accessed.ite {c : Prop} [Decidable c] {t u : State} (ht : s.Accessed t) (hu : s.Accessed u) :
    s.Accessed (if c then t else u) := by
  split
  · exact ht
  · exact hu

theorem State.SamePort.accessed {s t : State} (h : s.SamePort t) : s.Accessed t := by
  unfold State.SamePort at h
  rw [h]
  exact ⟨rfl, id, id⟩

theorem State.setPort_accessed (f : Port → Port) : s.Accessed (s.setPort f) := (s.setPort_same f).accessed

theorem State.clearLatches_accessed : s.Accessed s.clearLatches := s.setPort_accessed _

theorem State.writeMem_accessed (a : Nat) (bs : List Byte) : s.Accessed (s.writeMem a bs) :=
  ⟨rfl, Memory.wf_writeBytes bs s.mem a, id⟩

theorem State.raise_accessed (c : Cause) : s.Accessed (s.raise c) := ⟨rfl, id, (s.raise_effect c).regs⟩

theorem State.recordHeld_accessed (a : Nat) : s.Accessed (s.recordHeld a) :=
  ⟨rfl, (s.recordHeld_effect a).memory, (s.recordHeld_effect a).regs⟩

theorem State.watch_accessed (a : Nat) : s.Accessed (s.watch a) := by
  unfold State.watch
  refine .ite _ ⟨rfl, id, id⟩ ?_
  split
  · exact .refl s
  · exact ⟨rfl, id, id⟩

theorem State.serveWord_accessed (a : Nat) (v : Word) : s.Accessed (s.serveWord a v) :=
  .ite _ (.refl s)
    (.ite _ (s.recordHeld_accessed a) (.after (State.watch_accessed _ a) (s.writeMem_accessed a _)))

theorem State.serveByte_accessed (a : Nat) (v : Byte) : s.Accessed (s.serveByte a v) :=
  .ite _ (.refl s)
    (.ite _ (s.recordHeld_accessed a) (.after (State.watch_accessed _ _) (s.writeMem_accessed a _)))

theorem State.narrowWrite_accessed (a : BitVec 18) (v : Byte) : s.Accessed (s.narrowWrite a v) :=
  .ite _ (s.setPort_accessed _) (.after (State.serveWord_accessed _ _ _) s.clearLatches_accessed)

theorem State.portWrite_accessed (w : PortWrite) : s.Accessed (s.portWrite w) := by
  unfold State.portWrite
  split
  · exact .after (State.serveWord_accessed _ _ _) s.clearLatches_accessed
  · exact .after (State.serveByte_accessed _ _ _) s.clearLatches_accessed
  · exact .after (State.narrowWrite_accessed _ _ _) (s.narrowWrite_accessed _ _)
  · exact s.narrowWrite_accessed _ _

theorem State.writeAttention_accessed (w : RegWrite) : s.Accessed (s.writeAttention w) := by
  refine ⟨rfl, id, fun ⟨hattention, hmask⟩ => ⟨?_, hmask⟩⟩
  change s.regs.attention &&& ~~~regBits w &&& ~~~causeBits = 0#16
  rw [BitVec.and_assoc, BitVec.and_comm (~~~regBits w), ← BitVec.and_assoc, hattention, BitVec.zero_and]

theorem State.writeMask_accessed (w : RegWrite) : s.Accessed (s.writeMask w) := by
  refine ⟨rfl, id, fun ⟨hattention, _⟩ => ⟨hattention, ?_⟩⟩
  change ((s.regs.mask &&& ~~~regEnabled w) ||| regBits w) &&& causeBits &&& ~~~causeBits = 0#16
  rw [BitVec.and_assoc, (by decide : causeBits &&& ~~~causeBits = 0#16), BitVec.and_zero]

theorem State.setSlot_accessed (k : Fin 8) (v : SlotState) : s.Accessed (s.setSlot k v) := ⟨rfl, id, id⟩

theorem State.setPartState_accessed (p : PartState) : s.Accessed (s.setPartState p) :=
  ⟨rfl, Memory.wf_writeBytes _ s.mem _, id⟩

theorem State.writeHeader_accessed : s.Accessed s.writeHeader :=
  .after (State.writeMem_accessed _ _ _) (s.writeMem_accessed _ _)

theorem State.zeroSlotStaging_accessed (k : Fin 8) : s.Accessed (s.zeroSlotStaging k) :=
  .ite _ (s.writeMem_accessed _ _) (.refl s)

theorem State.refuseSlot_accessed (k : Fin 8) : s.Accessed (s.refuseSlot k) :=
  .after (State.raise_accessed _ .order)
    (.after (State.setSlot_accessed _ k _)
      (.after (State.writeMem_accessed _ _ _)
        (.after (State.writeMem_accessed _ _ _)
          (.after (State.writeMem_accessed _ _ _) (s.writeMem_accessed _ _)))))

theorem State.examineSlot_accessed (kind : StartKind) (k : Fin 8) : s.Accessed (State.examineSlot kind s k) := by
  obtain ⟨-, h⟩ | ⟨-, ⟨v, h⟩ | h⟩ := State.examineSlot_cases kind s k <;> rw [h]
  · exact .after (State.refuseSlot_accessed _ k) (s.zeroSlotStaging_accessed k)
  · exact s.setSlot_accessed k v
  · exact .after (State.writeMem_accessed _ _ _) (s.setSlot_accessed k _)

theorem State.examineSlots_accessed (kind : StartKind) : ∀ (ks : List (Fin 8)) (s : State),
    s.Accessed (ks.foldl (State.examineSlot kind) s)
  | [], s => .refl s
  | k :: rest, s => (s.examineSlot_accessed kind k).trans (State.examineSlots_accessed kind rest _)

/-- After its first step a start-up changes what an access may change. -/
theorem State.startSteps_accessed (kind : StartKind) (inputs : StartInputs) :
    (s.resetBlocks kind inputs.strap).Accessed (s.startSteps kind inputs) := by
  refine .after (State.setPartState_accessed _ _) (.after (State.examineSlots_accessed _ _ _) ?_)
  refine .after (State.startReads_same inputs.setup _).accessed (.after (State.setPartState_accessed _ _) ?_)
  refine .after (State.writeHeader_accessed _) (.after (State.startReads_same inputs.starting _).accessed ?_)
  refine .after (State.setPort_accessed _ _) (.after (State.serveReads_same _ _).accessed ?_)
  exact State.setPartState_accessed _ _

end

/-! ## What a step keeps -/

/-- What every step keeps. -/
structure State.Keeps (s t : State) : Prop where
  lanes : ∀ l, (s.lane l).Keeps (t.lane l)
  memory : s.MemoryLegal → t.MemoryLegal
  table : s.TableLegal → t.TableLegal
  clock : s.ClockLegal → t.ClockLegal
  regs : s.RegistersLegal → t.RegistersLegal
  pending : t.pending = s.pending
  settled : s.Settled → t.Settled

theorem Lane.Keeps.refl (x : Lane) : x.Keeps x := ⟨id, id, id, id⟩

theorem Lane.Keeps.trans {x y z : Lane} (h : x.Keeps y) (k : y.Keeps z) : x.Keeps z :=
  ⟨k.leaves ∘ h.leaves, k.credits ∘ h.credits, k.link ∘ h.link, k.counts ∘ h.counts⟩

theorem Lane.Concluded.keeps {x y : Lane} (h : x.Concluded y) : x.Keeps y := by
  unfold Lane.Concluded at h
  rw [h]
  exact ⟨id, id, id, id⟩

theorem State.Keeps.refl (s : State) : s.Keeps s := ⟨fun _ => .refl _, id, id, id, id, rfl, id⟩

theorem State.Keeps.trans {s t u : State} (h : s.Keeps t) (k : t.Keeps u) : s.Keeps u :=
  ⟨fun l => (h.lanes l).trans (k.lanes l), k.memory ∘ h.memory, k.table ∘ h.table, k.clock ∘ h.clock,
    k.regs ∘ h.regs, k.pending.trans h.pending, k.settled ∘ h.settled⟩

theorem State.Accessed.keeps {s t : State} (h : s.Accessed t) : s.Keeps t := by
  obtain ⟨hsame, hmem, hregs⟩ := h
  refine ⟨fun l => ?_, hmem, ?_, ?_, hregs, ?_, ?_⟩
  · rw [State.lane_congr (show t.lanes = s.lanes by rw [hsame])]
    exact .refl _
  · rw [State.TableLegal, State.TableLegal, show t.screening = s.screening by rw [hsame]]
    exact id
  · rw [State.ClockLegal, State.ClockLegal, show t.clock = s.clock by rw [hsame]]
    exact id
  · rw [hsame]
  · rw [State.Settled, State.Settled, show t.journal = s.journal by rw [hsame]]
    exact fun hs l => by
      rw [State.lane_congr (show t.lanes = s.lanes by rw [hsame])]
      exact hs l

/-- An event keeps what its effect keeps, and leaves nothing to show. -/
theorem State.event_keeps {s : State} {f : State → State} (h : s.Effect (f s)) : s.Keeps (s.event f) := by
  cases hpin : s.sys.resetPin with
  | true =>
    rw [State.event_pin hpin]
    exact .refl s
  | false =>
    rw [State.event_eq hpin]
    refine ⟨fun l => (h.lanes l).toKeeps.trans (State.conclude_concluded s (f s) l).keeps,
      fun hs => State.conclude_wf s (f s) (h.memory hs), ?_, ?_, ?_, ?_, fun _ => State.conclude_settled s (f s)⟩
    · rw [State.TableLegal, State.TableLegal, State.conclude_screening]
      exact h.table
    · rw [State.ClockLegal, State.ClockLegal, State.conclude_clock]
      exact h.clock
    · rw [State.RegistersLegal, State.RegistersLegal, State.conclude_regs]
      exact h.regs
    · rw [State.conclude_pending, h.pending]

/-- The row completes, and keeps the laws. -/
def KeepsRow (row : State → Host.Outcome State Fault Refusal) : Prop :=
  ∀ s : State, ∃ t : State, row s = .next t ∧ s.Keeps t

theorem EventRow.keeps {row : State → Host.Outcome State Fault Refusal} (h : EventRow row) : KeepsRow row := by
  obtain ⟨f, hrow, hf⟩ := h
  exact fun s => ⟨s.event f, hrow s, State.event_keeps (hf s)⟩

/-! ## The rows that are not one event -/

/-- The rows that waited for a grant, each an event of its own. -/
theorem State.takeRows_keeps : ∀ (rows : List Deferred) (s : State),
    s.Keeps (rows.foldl (fun s row => s.event fun s => s.takeDeferred row) s)
  | [], s => .refl s
  | row :: rest, s => (State.event_keeps (s.takeDeferred_effect row)).trans (State.takeRows_keeps rest _)

theorem State.settleDeferred_keeps (s : State) : s.Keeps s.settleDeferred :=
  have hnone : s.Keeps { s with deferred := [] } := ⟨fun _ => .refl _, id, id, id, id, rfl, id⟩
  hnone.trans (State.takeRows_keeps s.deferred _)

theorem execJournalRecordWrite_keeps : KeepsRow execJournalRecordWrite := fun s => by
  refine ⟨_, execJournalRecordWrite_eq s, ?_⟩
  have hevent := State.event_keeps s.writeDueFront_effect
  split
  · exact hevent.trans (State.settleDeferred_keeps _)
  · exact hevent

theorem Memory.wf_writeRecordWords (base : Nat) (record : List Byte) : ∀ (offsets : List Nat) (m : List Host.Cell),
    Memory.wf m = true → Memory.wf (writeRecordWords m base record offsets) = true
  | [], _, h => h
  | _ :: rest, _, h => Memory.wf_writeRecordWords base record rest _ (Memory.wf_writeBytes _ _ _ h)

theorem State.cutRecord_eq (s : State) (cut : Nat) :
    s.cutRecord cut = { s with mem := (s.cutRecord cut).mem, journal := { s.journal with queue := [] } } := by
  unfold State.cutRecord
  split <;> rfl

theorem State.cutRecord_wf {s : State} (cut : Nat) (h : s.MemoryLegal) : (s.cutRecord cut).MemoryLegal := by
  unfold State.cutRecord
  split
  · exact Memory.wf_writeRecordWords _ _ _ _ h
  · exact h

theorem State.cutRecord_keeps (s : State) (cut : Nat) : s.Keeps (s.cutRecord cut) := by
  refine ⟨fun l => ?_, State.cutRecord_wf cut, ?_, ?_, ?_, ?_, ?_⟩ <;> rw [State.cutRecord_eq]
  · exact .refl _
  all_goals exact id

theorem Lane.reset_keeps (x : Lane) (openLimit closedLimit : Bool) :
    x.Keeps { Lane.reset with openLimit := openLimit, closedLimit := closedLimit } := by
  refine ⟨fun _ => Lane.leavesSafe_of_not_closing nofun, fun _ => Nat.zero_le _, fun _ => ?_, fun _ => ?_⟩
  · exact ⟨(by decide : 16 ≤ 31), Nat.zero_lt_succ _, Nat.zero_lt_succ _, (by decide : 512 ≤ 1023), nofun⟩
  · exact ⟨Nat.zero_le _, Nat.zero_le _, Nat.zero_le _, Nat.zero_le _⟩

theorem State.resetBlocks_lane (s : State) (kind : StartKind) (strap : PortWidth) (l : LaneId) :
    (s.resetBlocks kind strap).lane l =
      { Lane.reset with openLimit := (s.lane l).openLimit, closedLimit := (s.lane l).closedLimit } := by
  cases l <;> rfl

theorem State.resetBlocks_keeps (s : State) (kind : StartKind) (strap : PortWidth) :
    s.Keeps (s.resetBlocks kind strap) := by
  refine ⟨fun l => ?_, id, fun _ => ⟨Nat.zero_le _, List.nodup_nil⟩, fun _ => ?_, fun _ => ?_, rfl, fun _ l => ?_⟩
  · rw [State.resetBlocks_lane]
    exact Lane.reset_keeps _ _ _
  · exact ⟨Nat.zero_lt_succ _, Nat.zero_lt_succ _, Nat.zero_lt_succ _, (by decide : 180 < 1440)⟩
  · exact ⟨(by decide : 0x0020#16 &&& ~~~causeBits = 0#16), (by decide : 0#16 &&& ~~~causeBits = 0#16)⟩
  · rw [State.resetBlocks_lane]
    exact ⟨rfl, fun _ => rfl⟩

theorem State.startSteps_keeps (s : State) (kind : StartKind) (inputs : StartInputs) :
    s.Keeps (s.startSteps kind inputs) :=
  (s.resetBlocks_keeps kind inputs.strap).trans (s.startSteps_accessed kind inputs).keeps

theorem State.writeControl_keeps (s : State) (w : RegWrite) (inputs : StartInputs) (cut : Nat) :
    s.Keeps (s.writeControl w inputs cut) := by
  unfold State.writeControl
  dsimp only
  split
  · exact (s.clearLatches_accessed.keeps.trans (State.cutRecord_keeps _ cut)).trans
      (State.startSteps_keeps _ .restart inputs)
  · exact s.clearLatches_accessed.keeps

theorem State.serveWaiting_keeps : ∀ (waiting : List PortAccess) (s : State), s.Keeps (s.serveWaiting waiting)
  | [], s => .refl s
  | .read r :: rest, s => (s.portRead_same r).accessed.keeps.trans (State.serveWaiting_keeps rest _)
  | .write w :: rest, s => (s.portWrite_accessed w).keeps.trans (State.serveWaiting_keeps rest _)
  | .attention w :: rest, s => (s.writeAttention_accessed w).keeps.trans (State.serveWaiting_keeps rest _)
  | .mask w :: rest, s => (s.writeMask_accessed w).keeps.trans (State.serveWaiting_keeps rest _)
  | .control w inputs cut :: rest, s => (s.writeControl_keeps w inputs cut).trans (State.serveWaiting_keeps rest _)
  | .unused :: rest, s => s.clearLatches_accessed.keeps.trans (State.serveWaiting_keeps rest _)

theorem State.startUp_keeps (s : State) (kind : StartKind) (inputs : StartInputs) :
    s.Keeps (s.startUp kind inputs) :=
  ((s.startSteps_keeps kind inputs).trans (State.setPort_accessed _ _).keeps).trans (State.serveWaiting_keeps _ _)

theorem State.access_keeps {s : State} (a : PortAccess) {f : State → State} (h : s.Keeps (f s)) :
    s.Keeps (s.access a f) := by
  unfold State.access
  split
  · exact (s.setPort_accessed _).keeps
  · exact h

theorem execResetPinAsserted_keeps (cut : Nat) : KeepsRow (execResetPinAsserted cut) := fun s => by
  refine ⟨_, rfl, ?_⟩
  unfold State.running
  split
  · exact .refl s
  · exact (s.cutRecord_keeps cut).trans (State.Accessed.keeps ⟨rfl, id, id⟩)

theorem execUnusedRegisterWrite_keeps (address : Nat) (w : RegWrite) : KeepsRow (execUnusedRegisterWrite address w) :=
  fun s => by
    refine ⟨_, rfl, ?_⟩
    split
    · exact .refl s
    · exact State.access_keeps _ s.clearLatches_accessed.keeps

/-- POWER_ON completes over any contents that lie in the exchange memory. -/
theorem execPowerOn_keeps {inputs : StartInputs} {contents : List (Nat × BitVec 8)}
    (h : outsideMemory contents = none) : KeepsRow (execPowerOn inputs contents) := fun s => by
  have hmem : s.Keeps
      { s with mem := Memory.writeCells [] contents, port := { s.port with waiting := [], dataOut := [] } } :=
    State.Accessed.keeps ⟨rfl, fun _ => Memory.wf_writeCells contents [] rfl, id⟩
  exact ⟨_, by rw [execPowerOn, h], hmem.trans (State.startUp_keeps _ .powerOn inputs)⟩

/-! ## Every row -/

/-- The rows of the blocks' events, but for the record that a grant may wait for, are one event each. -/
theorem exec_eventRow (c : Instr) (hport : portOrStartRow c = false) (hrecord : c ≠ .journalRecordWrite)
    (hpin : ∀ cut, c ≠ .resetPinAsserted cut) : EventRow (exec c) := by
  cases c with
  | orderSlotStateWordEvent slot => exact execOrderSlotStateWordEvent_eventRow slot
  | consumedTallyEvent => exact execConsumedTallyEvent_eventRow
  | orderTake => exact execOrderTake_eventRow
  | setTime => exact execSetTime_eventRow
  | setParameters => exact execSetParameters_eventRow
  | parameterBlockReadEnd => exact execParameterBlockReadEnd_eventRow
  | configureJournal => exact execConfigureJournal_eventRow
  | adoptFareTable => exact execAdoptFareTable_eventRow
  | fareTableValidationEnd => exact execFareTableValidationEnd_eventRow
  | adoptDenylist => exact execAdoptDenylist_eventRow
  | denylistScanEnd => exact execDenylistScanEnd_eventRow
  | denylistSwitch => exact execDenylistSwitch_eventRow
  | loadKey => exact execLoadKey_eventRow
  | loadKeyComplete => exact execLoadKeyComplete_eventRow
  | retireKey => exact execRetireKey_eventRow
  | eraseKey => exact execEraseKey_eventRow
  | setLaneMode => exact execSetLaneMode_eventRow
  | resetLane => exact execResetLane_eventRow
  | clearLaneCounts => exact execClearLaneCounts_eventRow
  | readSighting => exact execReadSighting_eventRow
  | forgetCard => exact execForgetCard_eventRow
  | unknownOrderKind => exact execUnknownOrderKind_eventRow
  | orderEnd => exact execOrderEnd_eventRow
  | clockTick => exact execClockTick_eventRow
  | dayNumberWrap => exact execDayNumberWrap_eventRow
  | serviceDayRollover => exact execServiceDayRollover_eventRow
  | clockReadout => exact execClockReadout_eventRow
  | scanRoundStart => exact execScanRoundStart_eventRow
  | settleEnd => exact execSettleEnd_eventRow
  | conversionEnd load => exact execConversionEnd_eventRow load
  | powerUpHoldEnd lane level => exact execPowerUpHoldEnd_eventRow lane level
  | noiseMeasurementEnd lane level => exact execNoiseMeasurementEnd_eventRow lane level
  | frameSent lane => exact execFrameSent_eventRow lane
  | answerStart lane => exact execAnswerStart_eventRow lane
  | answerReceived lane peak answer => exact execAnswerReceived_eventRow lane peak answer
  | responseWaitExpiry lane => exact execResponseWaitExpiry_eventRow lane
  | dialogueDeadlineExpiry lane => exact execDialogueDeadlineExpiry_eventRow lane
  | aeOperationComplete => exact execAeOperationComplete_eventRow
  | claimAnswer lane => exact execClaimAnswer_eventRow lane
  | screenLookupEnd lane => exact execScreenLookupEnd_eventRow lane
  | screenAnswer lane => exact execScreenAnswer_eventRow lane
  | priceAnswer lane => exact execPriceAnswer_eventRow lane
  | notifyTimerExpiry => exact execNotifyTimerExpiry_eventRow
  | probeTimerExpiry lane => exact execProbeTimerExpiry_eventRow lane
  | probeWaitExpiry lane => exact execProbeWaitExpiry_eventRow lane
  | beamEvent lane group beam held => exact execBeamEvent_eventRow lane group beam held
  | creditExpiry lane sequence => exact execCreditExpiry_eventRow lane sequence
  | stuckTimerExpiry lane => exact execStuckTimerExpiry_eventRow lane
  | boostEnd lane => exact execBoostEnd_eventRow lane
  | limitSwitchEvent lane limit active => exact execLimitSwitchEvent_eventRow lane limit active
  | brakeEnd lane => exact execBrakeEnd_eventRow lane
  | leafOverload lane => exact execLeafOverload_eventRow lane
  | strokeTimeout lane => exact execStrokeTimeout_eventRow lane
  | emergencyAsserted held => exact execEmergencyAsserted_eventRow held
  | emergencyReleased held => exact execEmergencyReleased_eventRow held
  | timedDisplayEnd lane => exact execTimedDisplayEnd_eventRow lane
  | toneEnd lane => exact execToneEnd_eventRow lane
  | passbackExpiry card => exact execPassbackExpiry_eventRow card
  | regrantGraceExpiry card => exact execRegrantGraceExpiry_eventRow card
  | uncertaintyExpiry card => exact execUncertaintyExpiry_eventRow card
  | journalRecordWrite => exact absurd rfl hrecord
  | resetPinAsserted cut => exact absurd rfl (hpin cut)
  | _ => exact Bool.noConfusion hport

/-- Every command but a POWER_ON over bytes outside the exchange memory completes, and keeps the laws. -/
theorem exec_keeps (c : Instr)
    (h : ∀ inputs contents, c = .powerOn inputs contents → outsideMemory contents = none) : KeepsRow (exec c) := by
  have hevent : portOrStartRow c = false → c ≠ .journalRecordWrite → (∀ cut, c ≠ .resetPinAsserted cut) →
      KeepsRow (exec c) := fun hport hrecord hpin => (exec_eventRow c hport hrecord hpin).keeps
  cases c with
  | powerOn inputs contents => exact execPowerOn_keeps (h inputs contents rfl)
  | resetPinRelease inputs cut => exact fun s => ⟨_, rfl, (s.cutRecord_keeps cut).trans (State.startUp_keeps _ _ _)⟩
  | restart write inputs cut => exact fun s => ⟨_, rfl, State.access_keeps _ (s.writeControl_keeps write inputs cut)⟩
  | attentionWrite write => exact fun s => ⟨_, rfl, State.access_keeps _ (s.writeAttention_accessed write).keeps⟩
  | attentionMaskWrite write => exact fun s => ⟨_, rfl, State.access_keeps _ (s.writeMask_accessed write).keeps⟩
  | unusedRegisterWrite address write => exact execUnusedRegisterWrite_keeps address write
  | gcMemoryWrite write => exact fun s => ⟨_, rfl, State.access_keeps _ (s.portWrite_accessed write).keeps⟩
  | gcMemoryRead read => exact fun s => ⟨_, rfl, State.access_keeps _ (s.portRead_same read).accessed.keeps⟩
  | journalRecordWrite => exact execJournalRecordWrite_keeps
  | resetPinAsserted cut => exact execResetPinAsserted_keeps cut
  | _ => exact hevent rfl nofun nofun

end Sys2Proof.Machine
end

section
/-! The laws that every step keeps, and that every command completes. -/

namespace Sys2Proof.Machine

open Sys2Proof

theorem outsideMemory_eq_none {contents : List (Nat × BitVec 8)} :
    outsideMemory contents = none ↔ ∀ e ∈ contents, e.1 < 262144 := by
  simp only [outsideMemory, Option.map_eq_none_iff, List.find?_eq_none, decide_eq_true_iff, Nat.not_le]
  rfl

/-- A POWER_ON that reaches a next state was given contents inside the exchange memory. -/
theorem outsideMemory_of_next {inputs : StartInputs} {contents : List (Nat × BitVec 8)} {s t : State}
    (h : exec (.powerOn inputs contents) s = .next t) : outsideMemory contents = none := by
  change execPowerOn inputs contents s = .next t at h
  unfold execPowerOn at h
  split at h
  next => contradiction
  next hnone => exact hnone

/-- A command that reaches a next state keeps the laws. -/
theorem keeps_of_exec {c : Instr} {s t : State} (h : exec c s = .next t) : s.Keeps t := by
  obtain ⟨u, hu, hkeeps⟩ := exec_keeps c (fun _ _ hc => outsideMemory_of_next (hc ▸ h)) s
  obtain rfl : u = t := Host.Outcome.next.inj (hu.symm.trans h)
  exact hkeeps

/-- A step keeps the laws; the command that it takes from the queue is no part of them. -/
theorem keeps_of_step {s t : State} (h : step s = .next t) :
    (∀ l, (s.lane l).Keeps (t.lane l)) ∧ (s.MemoryLegal → t.MemoryLegal) ∧ (s.TableLegal → t.TableLegal) ∧
      (s.ClockLegal → t.ClockLegal) ∧ (s.RegistersLegal → t.RegistersLegal) ∧ (s.Settled → t.Settled) := by
  unfold step at h
  split at h
  next =>
    obtain rfl := Host.Outcome.next.inj h
    exact ⟨fun _ => .refl _, id, id, id, id, id⟩
  next =>
    obtain ⟨hlanes, hmemory, htable, hclock, hregs, -, hsettled⟩ := keeps_of_exec h
    exact ⟨hlanes, hmemory, htable, hclock, hregs, hsettled⟩

/-- Settles O57: every write of a step is by `Memory.writeBytes`, which keeps the canonical form. -/
theorem stepKeepsMemoryLegal : Obligations.StepKeepsMemoryLegal := by
  intro s t hs hstep
  obtain ⟨-, hmemory, -⟩ := keeps_of_step hstep
  exact hmemory hs

/-- Settles O58: only `Lane.startClosing` drives the leaves toward closed, with the middle group CLEAR, and a group that
becomes BLOCKED reverses them. -/
theorem stepNeverClosesOnAPassenger : Obligations.StepNeverClosesOnAPassenger := by
  intro s t hs hstep l
  obtain ⟨hlanes, -⟩ := keeps_of_step hstep
  exact (hlanes l).leaves (hs l)

/-- Settles O59: a dialogue starts only where a credit has room, a grant puts the credit in the dialogue's place, and
the table makes an entry only for a card it does not hold. -/
theorem stepKeepsCreditsAndSightingsLegal : Obligations.StepKeepsCreditsAndSightingsLegal := by
  intro s t hs htable hstep
  obtain ⟨hlanes, -, hkept, -⟩ := keeps_of_step hstep
  exact ⟨fun l => (hlanes l).credits (hs l), hkept htable⟩

/-- Settles O60. -/
theorem stepKeepsRangesLegal : Obligations.StepKeepsRangesLegal := by
  intro s t hclock hregs hlink hcounts hsettled hstep
  obtain ⟨hlanes, -, -, hclock', hregs', hsettled'⟩ := keeps_of_step hstep
  exact ⟨hclock' hclock, hregs' hregs, fun l => (hlanes l).link (hlink l), fun l => (hlanes l).counts (hcounts l),
    hsettled' hsettled⟩

/-- Settles O1. -/
theorem stepRunsFrontCommand : Obligations.StepRunsFrontCommand := by
  refine ⟨fun c rest s h => ?_, fun s h => ?_⟩ <;> rw [step, h]

/-- Settles O2: only POWER_ON over a byte outside the exchange memory stops. -/
theorem everyCommandCompletesAndKeepsQueue : Obligations.EveryCommandCompletesAndKeepsQueue := by
  intro c s h
  obtain ⟨t, ht, hkeeps⟩ := exec_keeps c (fun inputs contents hc => outsideMemory_eq_none.mpr (h inputs contents hc)) s
  exact ⟨t, ht, hkeeps.pending⟩

theorem resetSlots : ∀ i : Fin 8,
    State.reset.engine.slots[i] = ⟨.empty, 0, 0#128⟩ ∧ State.reset.orders.slots[i] = .empty := by
  decide

/-- Settles O3: each part of the reset state evaluates to the value it names. -/
theorem resetState : Obligations.ResetState := by
  have hlane : ∀ l, State.reset.lane l = Lane.reset := fun l => by cases l <;> rfl
  have hclock : State.reset.ClockLegal := by unfold State.ClockLegal; decide
  have hregs : State.reset.RegistersLegal := by unfold State.RegistersLegal; decide
  have htable : State.reset.TableLegal := ⟨Nat.zero_le _, List.nodup_nil⟩
  have hsettled : State.reset.Settled := fun l => by
    rw [hlane]
    exact ⟨rfl, fun _ => rfl⟩
  refine ⟨rfl, hclock, hregs, htable, hsettled, rfl, rfl, rfl, rfl, rfl, rfl, rfl, rfl, rfl, rfl, rfl, rfl, rfl, rfl,
    rfl, rfl, rfl, rfl, rfl, rfl, rfl, fun i => ?_, fun l => ?_⟩
  · exact resetSlots i
  · rw [hlane]
    refine ⟨rfl, rfl, rfl, rfl, rfl, rfl, rfl, rfl, rfl, rfl, rfl, ?_, ?_, ?_, ?_⟩
    · exact ⟨by decide, by decide, by decide, by decide, nofun⟩
    · exact Nat.zero_le _
    · exact Lane.leavesSafe_of_not_closing nofun
    · exact ⟨Nat.zero_le _, Nat.zero_le _, Nat.zero_le _, Nat.zero_le _⟩

end Sys2Proof.Machine
end

section
/-! SUPPORT. What the memory reads after a write, and what an access at the port does (10 R187 to R195). -/

namespace Sys2Proof.Machine

open Sys2Proof

/-! ## Reads after writes -/

theorem Memory.read_writeBytes_of_not {m : List Host.Cell} {a b : Nat} {bs : List Byte}
    (h : ¬ bytesFrom a bs.length b) : Memory.read (Memory.writeBytes m a bs) b = Memory.read m b := by
  refine Memory.read_writeBytes_outside bs m a b ?_
  unfold bytesFrom at h
  omega

theorem Memory.readBytes_writeBytes : ∀ (bs : List Byte) (m : List Host.Cell) (a : Nat), Memory.wf m = true →
    a + bs.length ≤ 0x40000 → Memory.readBytes (Memory.writeBytes m a bs) a bs.length = bs
  | [], _, _, _, _ => rfl
  | b :: rest, m, a, hwf, hsize => by
    rw [List.length_cons] at hsize
    rw [Memory.writeBytes, List.length_cons, Memory.readBytes,
      Memory.read_writeBytes_outside rest _ (a + 1) a (by omega),
      Memory.read_write_self m b (show a < 0x40000 by omega) hwf,
      Memory.readBytes_writeBytes rest _ (a + 1) (Memory.wf_write m a b hwf) (by omega)]

/-- A number that is written is read back. -/
theorem Memory.readNat_writeBytes {m : List Host.Cell} {a : Nat} (n v : Nat) (hwf : Memory.wf m = true)
    (hsize : a + n ≤ 0x40000) : Memory.readNat (Memory.writeBytes m a (leBytes n v)) a n = v % 256 ^ n := by
  have hbytes := Memory.readBytes_writeBytes (leBytes n v) m a hwf (by rwa [length_leBytes])
  rw [length_leBytes] at hbytes
  rw [Memory.readNat, hbytes, leNat_leBytes_mod]

theorem Memory.readNat_congr {m m' : List Host.Cell} (n a : Nat)
    (h : ∀ b, bytesFrom a n b → Memory.read m' b = Memory.read m b) : Memory.readNat m' a n = Memory.readNat m a n :=
  congrArg leNat (Memory.readBytes_congr n a h)

/-- Bytes apart from those that are written. -/
theorem Memory.readBytes_writeBytes_disjoint {m : List Host.Cell} {a b n : Nat} {bs : List Byte}
    (h : a + bs.length ≤ b ∨ b + n ≤ a) : Memory.readBytes (Memory.writeBytes m a bs) b n = Memory.readBytes m b n :=
  Memory.readBytes_congr n b fun c hc => Memory.read_writeBytes_of_not (by unfold bytesFrom at *; omega)

theorem Memory.readNat_writeBytes_disjoint {m : List Host.Cell} {a b n : Nat} {bs : List Byte}
    (h : a + bs.length ≤ b ∨ b + n ≤ a) : Memory.readNat (Memory.writeBytes m a bs) b n = Memory.readNat m b n :=
  congrArg leNat (Memory.readBytes_writeBytes_disjoint h)

/-- A write of two parts is a write of each. -/
theorem Memory.writeBytes_append : ∀ (xs ys : List Byte) (m : List Host.Cell) (a : Nat),
    Memory.writeBytes m a (xs ++ ys) = Memory.writeBytes (Memory.writeBytes m a xs) (a + xs.length) ys
  | [], _, _, _ => rfl
  | x :: xs, ys, m, a => by
    rw [List.cons_append, Memory.writeBytes, Memory.writeBytes_append xs ys, Memory.writeBytes, List.length_cons,
      Nat.add_assoc, Nat.add_comm 1]

theorem Memory.readBytes_getElem (m : List Host.Cell) : ∀ (n a i : Nat) (h : i < (Memory.readBytes m a n).length),
    (Memory.readBytes m a n)[i] = Memory.read m (a + i)
  | n + 1, a, 0, _ => rfl
  | n + 1, a, i + 1, h => by
    have hrest := Memory.readBytes_getElem m n (a + 1) i (Nat.lt_of_succ_lt_succ h)
    rwa [Nat.add_assoc, Nat.add_comm 1] at hrest

/-- The two bytes of a word that is written. -/
theorem Memory.read_writeWord {m : List Host.Cell} {a : Nat} (v : Word) (hwf : Memory.wf m = true)
    (hsize : a + 2 ≤ 0x40000) :
    Memory.read (Memory.writeBytes m a (leBytes 2 v.toNat)) a = v.setWidth 8 ∧
      Memory.read (Memory.writeBytes m a (leBytes 2 v.toNat)) (a + 1) = (v >>> 8).setWidth 8 := by
  have hlength : (leBytes 2 v.toNat).length = 2 := length_leBytes 2 _
  have hread := fun i (hi : i < (leBytes 2 v.toNat).length) =>
    Memory.read_writeBytes_inside (leBytes 2 v.toNat) m a i hi hwf (by rwa [hlength])
  refine ⟨(hread 0 (by omega)).trans ?_, (hread 1 (by omega)).trans ?_⟩
  · change BitVec.ofNat 8 v.toNat = _
    bv_omega
  · change BitVec.ofNat 8 (v.toNat / 256) = _
    bv_omega

/-! ## The words that read as zero, and the watched words -/

theorem zeroAt_iff {a : Nat} : zeroAt a = true ↔ zeroWord a := by
  simp only [zeroAt, zeroWord, Bool.or_eq_true, Bool.and_eq_true, decide_eq_true_iff, or_assoc]

theorem slotOfWord_eq_some {a : Nat} {k : Fin 8} (h : slotBase k = a) : slotOfWord a = some k := by
  subst h
  revert k
  decide

theorem slotOfWord_eq_none {a : Nat} (h : ∀ k, slotBase k ≠ a) : slotOfWord a = none := by
  simp [slotOfWord, h]

/-- The events that a write of the word at that even address raises, and nothing else of the Order Processor's and the
Journal Writer's (R193). -/
structure State.Watched (s t : State) (a : Nat) : Prop where
  slot : ∀ k, slotBase k = a → t.orders.watchEvents = s.orders.watchEvents ++ [k]
  none : (∀ k, slotBase k ≠ a) → t.orders.watchEvents = s.orders.watchEvents
  tally : t.orders.tallyEvents = s.orders.tallyEvents + (if a = 0x12 then 1 else 0)

theorem State.watch_watched (s : State) (a : Nat) : s.Watched (s.watch a) a := by
  unfold State.watch
  split
  next h =>
    refine ⟨fun k hk => absurd hk ?_, fun _ => rfl, by rw [if_pos h]⟩
    unfold slotBase
    omega
  next h =>
    refine ⟨fun k hk => ?_, fun hk => ?_, ?_⟩
    · rw [slotOfWord_eq_some hk]
    · rw [slotOfWord_eq_none hk]
    · rw [if_neg h]
      split <;> rfl

theorem State.watch_eq (s : State) (a : Nat) :
    s.watch a = { s with orders :=
      { s.orders with
        watchEvents := (s.watch a).orders.watchEvents, tallyEvents := (s.watch a).orders.tallyEvents } } := by
  unfold State.watch
  split
  · rfl
  · split <;> rfl

/-! ## Writes at the port -/

variable {s : State} {a : Nat}

theorem State.serveWord_zero (v : Word) (h : zeroWord a) : s.serveWord a v = s := by
  rw [State.serveWord, if_pos (zeroAt_iff.mpr h)]

theorem State.serveWord_held (v : Word) (hzero : ¬ zeroWord a) (h : s.heldAt a = true ∨ s.heldAt (a + 1) = true) :
    s.serveWord a v = s.recordHeld a := by
  rw [State.serveWord, if_neg (mt zeroAt_iff.mp hzero), if_pos h]

theorem State.serveWord_free (v : Word) (hzero : ¬ zeroWord a) (h : s.heldAt a = false)
    (h' : s.heldAt (a + 1) = false) : s.serveWord a v = (s.writeMem a (leBytes 2 v.toNat)).watch a := by
  rw [State.serveWord, if_neg (mt zeroAt_iff.mp hzero), if_neg (by simp [h, h'])]

theorem State.serveByte_zero (v : Byte) (h : zeroWord a) : s.serveByte a v = s := by
  rw [State.serveByte, if_pos (zeroAt_iff.mpr h)]

theorem State.serveByte_held (v : Byte) (hzero : ¬ zeroWord a) (h : s.heldAt a = true) :
    s.serveByte a v = s.recordHeld a := by
  rw [State.serveByte, if_neg (mt zeroAt_iff.mp hzero), if_pos h]

theorem State.serveByte_free (v : Byte) (hzero : ¬ zeroWord a) (h : s.heldAt a = false) :
    s.serveByte a v = (s.writeMem a [v]).watch (2 * (a / 2)) := by
  rw [State.serveByte, if_neg (mt zeroAt_iff.mp hzero), if_neg (by simp [h])]

theorem State.narrowWrite_low {address : BitVec 18} (v : Byte) (h : address.toNat % 2 = 0) :
    s.narrowWrite address v = { s with port :=
      { s.port with byteLatch := some ⟨BitVec.ofNat 17 (address.toNat / 2), v⟩, readLatch := none } } := by
  rw [State.narrowWrite]
  exact if_pos h

/-- The low byte that a high byte's write completes its word with (R192). -/
def State.lowByte (s : State) (low : Nat) : Byte :=
  match s.port.byteLatch with
  | some q => if q.word = BitVec.ofNat 17 (low / 2) then q.byte else s.portByte low
  | none => s.portByte low

theorem State.narrowWrite_high {low high : BitVec 18} (v : Byte) (hlow : low.toNat % 2 = 0)
    (hhigh : high.toNat = low.toNat + 1) :
    s.narrowWrite high v = s.clearLatches.serveWord low.toNat (wordOf (s.lowByte low.toNat) v) := by
  have hodd : ¬ high.toNat % 2 = 0 := by omega
  have hword : high.toNat / 2 = low.toNat / 2 := by omega
  have hsub : high.toNat - 1 = low.toNat := by omega
  unfold State.narrowWrite State.lowByte
  dsimp only
  rw [if_neg hodd, hword, hsub] <;> rfl

/-! ## Accesses while the reset pin is released, and while it is asserted -/

theorem State.access_released (access : PortAccess) (f : State → State) (h : s.sys.resetPin = false) :
    s.access access f = f s := by
  rw [State.access, if_neg (by rw [h]; decide)]

theorem State.access_asserted (access : PortAccess) (f : State → State) (h : s.sys.resetPin = true) :
    s.access access f = waitsAtPort s access := by
  rw [State.access, if_pos h]
  rfl

theorem exec_gcMemoryWrite (w : PortWrite) (h : s.sys.resetPin = false) :
    exec (.gcMemoryWrite w) s = .next (s.portWrite w) :=
  congrArg _ (State.access_released _ _ h)

theorem exec_gcMemoryRead (r : PortRead) (h : s.sys.resetPin = false) :
    exec (.gcMemoryRead r) s = .next (s.portRead r) :=
  congrArg _ (State.access_released _ _ h)

theorem State.portWrite_word (wa : BitVec 17) (v : Word) (h : s.port.width = .bits16) :
    s.portWrite (.word wa v) = s.clearLatches.serveWord (2 * wa.toNat) v := by
  simp only [State.portWrite, h]

theorem State.portWrite_byte (address : BitVec 18) (v : Byte) (h : s.port.width = .bits16) :
    s.portWrite (.byte address v) = s.clearLatches.serveByte address.toNat v := by
  simp only [State.portWrite, h]

theorem State.portWrite_narrow (address : BitVec 18) (v : Byte) (h : s.port.width = .bits8) :
    s.portWrite (.byte address v) = s.narrowWrite address v := by
  simp only [State.portWrite, h]

end Sys2Proof.Machine
end

section
/-! The registers, the port and the exchange memory, the asserted reset pin (10 R187 to R195, section 10.9; 11 R208). -/

namespace Sys2Proof.Machine

open Sys2Proof

/-! ## Conditions and lists -/

theorem ite_eq_ite_of_iff {α : Type} {p q : Prop} [Decidable p] [Decidable q] {x y : α} (h : p ↔ q) :
    (if p then x else y) = if q then x else y :=
  ite_congr (propext h) (fun _ => rfl) fun _ => rfl

theorem getD_of_lt {α : Type} {xs : List α} (d : α) {i : Nat} (h : i < xs.length) : xs.getD i d = xs[i] := by
  rw [List.getD_eq_getElem?_getD, List.getElem?_eq_getElem h, Option.getD_some]

/-! ## Registers -/

theorem getLsbD_regBits_zero (w : RegWrite) : (regBits w).getLsbD 0 = restartBit w := by
  cases w <;> simp [regBits, restartBit]

/-- Bits that a write of the whole causes' byte reaches take its value. -/
theorem mask_written {enabled : Word} (mask bits : Word) (h : ~~~enabled &&& causeBits = 0#16) :
    ((mask &&& ~~~enabled) ||| bits) &&& causeBits = bits &&& causeBits := by
  rw [BitVec.and_or_distrib_right, BitVec.and_assoc, h, BitVec.and_zero, BitVec.zero_or]

/-- A high byte reaches no bit of the mask. -/
theorem mask_kept (mask : Word) (b : Byte) :
    ((mask &&& ~~~0xFF00#16) ||| b.setWidth 16 <<< 8) &&& causeBits = mask &&& causeBits := by
  have hbyte : (b.setWidth 16 <<< 8) &&& causeBits = 0#16 := by
    refine BitVec.eq_of_getLsbD_eq fun i hi => ?_
    obtain h | h := Nat.lt_or_ge i 8
    · simp [h]
    · have hcause : causeBits.getLsbD i = false := by
        exact (by decide : ∀ i < 16, 8 ≤ i → causeBits.getLsbD i = false) i hi h
      simp [hcause]
  rw [BitVec.and_or_distrib_right, hbyte, BitVec.or_zero, BitVec.and_assoc]
  rfl

/-- Settles O8: the mask takes the bits that the write reaches, and none above bit 5. -/
theorem registerWrites : Obligations.RegisterWrites := by
  intro w s hpin
  have hrow : ∀ (access : PortAccess) (f : State → State),
      (.next (s.access access f) : Host.Outcome State Fault Refusal) = .next (f s) := fun access f =>
    congrArg _ (State.access_released access f hpin)
  refine ⟨(hrow _ _).trans ?_, (hrow _ _).trans ?_, fun address h => ?_, fun hbit inputs cut => (hrow _ _).trans ?_⟩
  · cases w <;> rfl
  · have hmask : ((s.regs.mask &&& ~~~regEnabled w) ||| regBits w) &&& causeBits =
        (match w with | .word v => v | .low b => b.setWidth 16 | .high _ => s.regs.mask) &&& 0x003F#16 := by
      cases w with
      | word v => exact mask_written (enabled := 0xFFFF#16) s.regs.mask v (by decide)
      | low b => exact mask_written (enabled := 0x00FF#16) s.regs.mask _ (by decide)
      | high b => exact mask_kept s.regs.mask b
    simp only [State.writeMask, hmask]
    rfl
  · refine Eq.trans ?_ (hrow .unused State.clearLatches)
    exact congrArg _ (if_neg (by omega))
  · rw [State.writeControl, getLsbD_regBits_zero, hbit]
    rfl

/-! ## Writes of words and bytes -/

/-- The state after a served write: its bytes, the events of the watched word it reaches, the latches empty. -/
def State.written (s : State) (a : Nat) (bs : List Byte) (word : Nat) : State :=
  (s.clearLatches.writeMem a bs).watch word

theorem State.written_mem (s : State) (a : Nat) (bs : List Byte) (word : Nat) :
    (s.written a bs word).mem = Memory.writeBytes s.mem a bs := by
  rw [State.written, State.watch_eq]
  rfl

theorem State.written_eq (s : State) (a : Nat) (bs : List Byte) (word : Nat) :
    s.written a bs word =
      { s with
        mem := (s.written a bs word).mem
        orders :=
          { s.orders with
            watchEvents := (s.written a bs word).orders.watchEvents
            tallyEvents := (s.written a bs word).orders.tallyEvents }
        port := Port.emptied s.port } := by
  rw [State.written_mem]
  exact State.watch_eq _ word

theorem State.written_watched (s : State) (a : Nat) (bs : List Byte) (word : Nat) :
    s.Watched (s.written a bs word) word := by
  obtain ⟨hslot, hnone, htally⟩ := (s.clearLatches.writeMem a bs).watch_watched word
  exact ⟨hslot, hnone, htally⟩

theorem State.served_word {s : State} {a : Nat} (v : Word) (hzero : ¬ zeroWord a) (h : s.heldAt a = false)
    (h' : s.heldAt (a + 1) = false) : s.clearLatches.serveWord a v = s.written a (leBytes 2 v.toNat) a :=
  State.serveWord_free v hzero h h'

theorem State.served_byte {s : State} {a : Nat} (v : Byte) (hzero : ¬ zeroWord a) (h : s.heldAt a = false) :
    s.clearLatches.serveByte a v = s.written a [v] (2 * (a / 2)) :=
  State.serveByte_free v hzero h

/-- Settles O10. -/
theorem wordWriteIsServed : Obligations.WordWriteIsServed := by
  intro wa v s hpin hwidth hmem hzero hheld hheld'
  have hsize : 2 * wa.toNat + 2 ≤ 0x40000 := by omega
  obtain ⟨hslot, hnone, htally⟩ := s.written_watched (2 * wa.toNat) (leBytes 2 v.toNat) (2 * wa.toNat)
  refine ⟨s.written (2 * wa.toNat) (leBytes 2 v.toNat) (2 * wa.toNat), ?_, State.written_eq _ _ _ _, ?_, fun a ha => ?_,
    hslot, hnone, htally⟩
  · rw [exec_gcMemoryWrite _ hpin, State.portWrite_word wa v hwidth, State.served_word v hzero hheld hheld']
  · rw [State.written_mem, Memory.readNat_writeBytes 2 v.toNat hmem hsize]
    exact Nat.mod_eq_of_lt v.isLt
  · rw [State.written_mem]
    exact Memory.read_writeBytes_of_not (by rwa [length_leBytes])

/-- The word of a slot's state holds that byte. -/
theorem bytesFrom_slotBase {k : Fin 8} {a : Nat} : bytesFrom (slotBase k) 2 a ↔ slotBase k = 2 * (a / 2) := by
  unfold bytesFrom slotBase
  omega

/-- Settles O11. -/
theorem byteWriteIsServed : Obligations.ByteWriteIsServed := by
  intro address v s hpin hwidth hmem hzero hheld
  obtain ⟨hslot, hnone, htally⟩ := s.written_watched address.toNat [v] (2 * (address.toNat / 2))
  refine ⟨s.written address.toNat [v] (2 * (address.toNat / 2)), ?_, State.written_eq _ _ _ _, ?_, fun a ha => ?_,
    fun k hk => hslot k (bytesFrom_slotBase.mp hk), fun h => hnone fun k => mt bytesFrom_slotBase.mpr (h k), ?_⟩
  · rw [exec_gcMemoryWrite _ hpin, State.portWrite_byte address v hwidth, State.served_byte v hzero hheld]
  · rw [State.written_mem]
    exact Memory.read_writeBytes_inside [v] s.mem address.toNat 0 Nat.one_pos hmem address.isLt
  · rw [State.written_mem]
    refine Memory.read_writeBytes_of_not ?_
    simp only [bytesFrom, List.length_singleton]
    omega
  · rw [htally]
    exact congrArg _ (ite_eq_ite_of_iff (by omega))

theorem State.recordHeld_discarded {s : State} {a : Nat} (hmem : s.MemoryLegal) (ha : a < 0x40000) :
    discardedAt s (s.clearLatches.recordHeld a) a := by
  refine ⟨rfl, ?_, fun b hb => Memory.read_writeBytes_of_not (by rwa [length_leBytes])⟩
  refine (Memory.readNat_writeBytes (m := s.mem) (a := 0x14) 4 a hmem (by decide)).trans ?_
  exact Nat.mod_eq_of_lt (Nat.lt_trans ha (by decide))

/-- Settles O12. -/
theorem heldAndZeroWordsAreNotWritten : Obligations.HeldAndZeroWordsAreNotWritten := by
  intro s hpin hmem
  refine ⟨fun hwidth wa v => ⟨fun hzero hheld => ?_, fun hzero => ?_⟩, fun hwidth address v =>
    ⟨fun hzero hheld => ?_, fun hzero => ?_⟩, fun hwidth low high v hlow hhigh =>
    ⟨fun hzero hheld => ?_, fun hzero => ?_⟩⟩ <;> rw [exec_gcMemoryWrite _ hpin]
  · rw [State.portWrite_word wa v hwidth, State.serveWord_held (s := s.clearLatches) v hzero hheld]
    exact ⟨_, rfl, State.recordHeld_discarded hmem (by omega)⟩
  · rw [State.portWrite_word wa v hwidth, State.serveWord_zero v hzero]
    rfl
  · rw [State.portWrite_byte address v hwidth, State.serveByte_held (s := s.clearLatches) v hzero hheld]
    exact ⟨_, rfl, State.recordHeld_discarded hmem address.isLt⟩
  · rw [State.portWrite_byte address v hwidth, State.serveByte_zero v hzero]
    rfl
  · rw [State.portWrite_narrow high v hwidth, State.narrowWrite_high v hlow hhigh,
      State.serveWord_held (s := s.clearLatches) _ hzero (by rwa [← hhigh])]
    exact ⟨_, rfl, State.recordHeld_discarded hmem low.isLt⟩
  · rw [State.portWrite_narrow high v hwidth, State.narrowWrite_high v hlow hhigh, State.serveWord_zero _ hzero]
    rfl

/-! ## The 8-bit port -/

theorem toNat_wordOf (low high : Byte) : (wordOf low high).toNat = 256 * high.toNat + low.toNat := by
  rw [wordOf, BitVec.toNat_append, ← Nat.shiftLeft_add_eq_or_of_lt low.isLt, Nat.shiftLeft_eq, Nat.mul_comm]

theorem wordOf_bytes (low high : Byte) :
    (wordOf low high).setWidth 8 = low ∧ (wordOf low high >>> 8).setWidth 8 = high := by
  have hword := toNat_wordOf low high
  constructor <;> bv_omega

/-- A high byte's write that is served writes the whole word. -/
theorem State.served_narrow {s : State} {low high : BitVec 18} (v : Byte) (hwidth : s.port.width = .bits8)
    (hlow : low.toNat % 2 = 0) (hhigh : high.toNat = low.toNat + 1) (hzero : ¬ zeroWord low.toNat)
    (hheld : s.heldAt low.toNat = false) (hheld' : s.heldAt high.toNat = false) :
    s.portWrite (.byte high v) =
      s.written low.toNat (leBytes 2 (wordOf (s.lowByte low.toNat) v).toNat) low.toNat := by
  rw [State.portWrite_narrow high v hwidth, State.narrowWrite_high v hlow hhigh,
    State.served_word _ hzero hheld (by rwa [← hhigh])]

/-- The bytes after it. -/
theorem State.written_word_read {s : State} {a : Nat} (low high : Byte) (hmem : s.MemoryLegal)
    (hsize : a + 2 ≤ 0x40000) :
    Memory.read (s.written a (leBytes 2 (wordOf low high).toNat) a).mem a = low ∧
      Memory.read (s.written a (leBytes 2 (wordOf low high).toNat) a).mem (a + 1) = high ∧
      ∀ b, b ≠ a → b ≠ a + 1 →
        Memory.read (s.written a (leBytes 2 (wordOf low high).toNat) a).mem b = Memory.read s.mem b := by
  rw [State.written_mem]
  obtain ⟨hlow, hhigh⟩ := Memory.read_writeWord (wordOf low high) hmem hsize
  obtain ⟨hlow', hhigh'⟩ := wordOf_bytes low high
  refine ⟨hlow.trans hlow', hhigh.trans hhigh', fun b hb hb' => Memory.read_writeBytes_of_not ?_⟩
  simp only [bytesFrom, length_leBytes]
  omega

/-- The state with the low byte of a word latched (R192). -/
def State.latched (s : State) (low : Nat) (v : Byte) : State :=
  { s with port := { s.port with byteLatch := some ⟨BitVec.ofNat 17 (low / 2), v⟩, readLatch := none } }

theorem State.latched_lowByte (s : State) (low : Nat) (v : Byte) : (s.latched low v).lowByte low = v := if_pos rfl

theorem State.lowByte_of_none {s : State} {low : Nat} (hlatch : s.port.byteLatch = none) (hzero : ¬ zeroWord low) :
    s.lowByte low = Memory.read s.mem low := by
  rw [State.lowByte, hlatch]
  exact if_neg (mt zeroAt_iff.mp hzero)

/-- Settles O13. -/
theorem narrowWritesAssembleWords : Obligations.NarrowWritesAssembleWords := by
  intro low high v w s hpin hwidth hmem hlow hhigh watched
  have hsize : low.toNat + 2 ≤ 0x40000 := by omega
  have hlatch : exec (.gcMemoryWrite (.byte low v)) s = .next (s.latched low.toNat v) := by
    rw [exec_gcMemoryWrite _ hpin, State.portWrite_narrow low v hwidth, State.narrowWrite_low v hlow]
    rfl
  refine ⟨hlatch, fun hzero hheld hheld' => ⟨fun t ht => ?_, fun hnone => ?_⟩⟩
  · obtain rfl := Host.Outcome.next.inj (hlatch.symm.trans ht)
    have hserved := State.served_narrow (s := s.latched low.toNat v) w hwidth hlow hhigh hzero hheld hheld'
    rw [State.latched_lowByte] at hserved
    obtain ⟨hslot, hno, htally⟩ := (s.latched low.toNat v).written_watched low.toNat (leBytes 2 (wordOf v w).toNat)
      low.toNat
    obtain ⟨hreadLow, hreadHigh, hread⟩ :=
      State.written_word_read (s := s.latched low.toNat v) v w hmem hsize
    rw [← hhigh] at hreadHigh hread
    have hwritten := (s.latched low.toNat v).written_eq low.toNat (leBytes 2 (wordOf v w).toNat) low.toNat
    exact ⟨_, (exec_gcMemoryWrite (s := s.latched low.toNat v) _ hpin).trans (congrArg Host.Outcome.next hserved),
      ⟨hslot, hno, htally, hwritten⟩, hreadLow, hreadHigh, fun a ha ha' => hread a ha ha'⟩
  · have hserved := State.served_narrow w hwidth hlow hhigh hzero hheld hheld'
    rw [State.lowByte_of_none hnone hzero] at hserved
    obtain ⟨hslot, hno, htally⟩ := s.written_watched low.toNat
      (leBytes 2 (wordOf (Memory.read s.mem low.toNat) w).toNat) low.toNat
    obtain ⟨hreadLow, hreadHigh, hread⟩ := State.written_word_read (Memory.read s.mem low.toNat) w hmem hsize
    rw [← hhigh] at hreadHigh hread
    refine ⟨_, (exec_gcMemoryWrite _ hpin).trans (congrArg Host.Outcome.next hserved),
      ⟨hslot, hno, htally, State.written_eq _ _ _ _⟩, hreadHigh, fun a ha => ?_⟩
    by_cases hb : a = low.toNat
    · rw [hb, hreadLow]
    · exact hread a hb ha

/-! ## Reads -/

theorem State.portByte_served (s : State) (a : Nat) : servedByte s a (s.portByte a) := by
  refine ⟨fun h => if_pos (zeroAt_iff.mpr h), fun h => if_neg (mt zeroAt_iff.mp h)⟩

theorem State.registerRead_eq (s : State) (address : Nat) : s.registerRead address = registerWord s address := by
  unfold State.registerRead registerWord State.controlRead
  by_cases hattention : address < 2
  · rw [if_pos (by omega), if_pos hattention]
  · rw [if_neg (by omega), if_neg hattention]
    by_cases hmask : address < 4
    · rw [if_pos (by omega), if_pos hmask]
    · rw [if_neg (by omega), if_neg hmask]
      exact ite_eq_ite_of_iff (by omega)

theorem registerBytes_word (v : Word) : registerBytes v .word = [v.setWidth 8, (v >>> 8).setWidth 8] := by
  have hlow : BitVec.ofNat 8 v.toNat = v.setWidth 8 := by bv_omega
  have hhigh : BitVec.ofNat 8 (v.toNat / 256) = (v >>> 8).setWidth 8 := by bv_omega
  rw [registerBytes, leBytes, leBytes, leBytes, hlow, hhigh]

theorem State.narrowRead_low {s : State} {address : BitVec 18} (h : address.toNat % 2 = 0) :
    s.narrowRead address =
      (s.setPort fun p => { p with
        byteLatch := none
        readLatch := some ⟨BitVec.ofNat 17 (address.toNat / 2), s.portByte (address.toNat + 1)⟩ },
      s.portByte address.toNat) := by
  rw [State.narrowRead]
  exact if_pos h

/-- The high byte that is kept is given to the next access, and otherwise the memory's (R192). -/
theorem State.narrowRead_high {s : State} {address : BitVec 18} (h : address.toNat % 2 = 1) :
    s.narrowRead address =
      (s.clearLatches,
        match s.port.readLatch with
        | some q => if q.word = BitVec.ofNat 17 (address.toNat / 2) then q.byte else s.portByte address.toNat
        | none => s.portByte address.toNat) := by
  rw [State.narrowRead]
  exact if_neg (by omega)

theorem State.portRead_narrow {s : State} (address : BitVec 18) (h : s.port.width = .bits8) :
    s.portRead (.byte address) = (s.narrowRead address).1.drive [(s.narrowRead address).2] := by
  simp only [State.portRead, h]

/-- Settles O14. -/
theorem readsAreServed : Obligations.ReadsAreServed := by
  intro s hpin
  refine ⟨fun address part => ?_, fun hwidth wa => ⟨s.portByte (2 * wa.toNat), s.portByte (2 * wa.toNat + 1), ?_,
    s.portByte_served _, s.portByte_served _⟩, fun hwidth address => ⟨s.portByte address.toNat, ?_,
    s.portByte_served _⟩, fun hwidth low high hlow hhigh => ?_, fun hwidth high hhigh hlatch =>
    ⟨s.portByte high.toNat, ?_, s.portByte_served _⟩⟩
  · have hread : s.portRead (.register address part) =
        s.clearLatches.drive (registerBytes (registerWord s address) part) := by
      rw [← State.registerRead_eq]
      rfl
    rw [exec_gcMemoryRead _ hpin, hread]
    cases part with
    | word =>
      rw [registerBytes_word]
      rfl
    | low => rfl
    | high => rfl
  · rw [exec_gcMemoryRead _ hpin]
    simp only [State.portRead, hwidth]
    rfl
  · rw [exec_gcMemoryRead _ hpin]
    simp only [State.portRead, hwidth]
    rfl
  · refine ⟨s.portByte low.toNat, s.portByte high.toNat,
      { s.port with
        byteLatch := none
        readLatch := some ⟨BitVec.ofNat 17 (low.toNat / 2), s.portByte (low.toNat + 1)⟩
        dataOut := [s.portByte low.toNat] },
      ?_, rfl, s.portByte_served _, s.portByte_served _, fun u hupin hport => ?_⟩
    · rw [exec_gcMemoryRead _ hpin, State.portRead_narrow low hwidth, State.narrowRead_low hlow]
      rfl
    · have hword : high.toNat / 2 = low.toNat / 2 := by omega
      have hread : u.narrowRead high = (u.clearLatches, s.portByte high.toNat) := by
        rw [State.narrowRead_high (by omega), hport, hword, hhigh]
        exact Prod.ext rfl (if_pos rfl)
      rw [exec_gcMemoryRead _ hupin, State.portRead_narrow high (by rw [hport]; exact hwidth), hread]
      rfl
  · rw [exec_gcMemoryRead _ hpin, State.portRead_narrow high hwidth, State.narrowRead_high hhigh, hlatch]
    rfl

end Sys2Proof.Machine
end

section
/-! The asserted reset pin (10 R191; 11 R208). -/

namespace Sys2Proof.Machine

open Sys2Proof

/-! ## A record cut short -/

theorem Record.length_bytes (sequence : Word) (r : Record) : (r.bytes sequence).length = 32 := by
  simp [Record.bytes, length_leBytes]

/-- The two bytes of a record's word. -/
theorem length_recordWord {record : List Byte} {off : Nat} (hlength : record.length = 32) (hoff : off ≤ 30) :
    ((record.drop off).take 2).length = 2 := by
  rw [List.length_take, List.length_drop, hlength]
  omega

/-- A word that is not among those written is kept. -/
theorem read_writeRecordWords_of_not_mem {base off b : Nat} {record : List Byte} (hlength : record.length = 32)
    (heven : off % 2 = 0) (hb : b < 2) : ∀ (offsets : List Nat) (m : List Host.Cell),
    (∀ o ∈ offsets, o % 2 = 0 ∧ o ≤ 30) → off ∉ offsets →
    Memory.read (writeRecordWords m base record offsets) (base + (off + b)) = Memory.read m (base + (off + b))
  | [], _, _, _ => rfl
  | o :: rest, m, hall, hnot => by
    obtain ⟨ho, hle⟩ := hall o List.mem_cons_self
    rw [List.mem_cons, not_or] at hnot
    obtain ⟨hne, hrest⟩ := hnot
    rw [writeRecordWords, read_writeRecordWords_of_not_mem hlength heven hb rest _
      (fun o h => hall o (List.mem_cons_of_mem _ h)) hrest]
    refine Memory.read_writeBytes_of_not ?_
    rw [length_recordWord hlength hle]
    unfold bytesFrom
    omega

/-- A word that is among those written holds the record's bytes. -/
theorem read_writeRecordWords_of_mem {base off b : Nat} {record : List Byte} (hlength : record.length = 32)
    (hsize : base + 32 ≤ 0x40000) (hb : b < 2) : ∀ (offsets : List Nat) (m : List Host.Cell), Memory.wf m = true →
    (∀ o ∈ offsets, o % 2 = 0 ∧ o ≤ 30) → off ∈ offsets →
    Memory.read (writeRecordWords m base record offsets) (base + (off + b)) = record.getD (off + b) 0#8
  | o :: rest, m, hwf, hall, hmem => by
    have hrest : ∀ o ∈ rest, o % 2 = 0 ∧ o ≤ 30 := fun o h => hall o (List.mem_cons_of_mem _ h)
    by_cases hin : off ∈ rest
    · exact read_writeRecordWords_of_mem hlength hsize hb rest _ (Memory.wf_writeBytes _ m _ hwf) hrest hin
    · obtain rfl : off = o := (List.mem_cons.mp hmem).resolve_right hin
      obtain ⟨heven, hle⟩ := hall off List.mem_cons_self
      have hword := length_recordWord hlength hle
      rw [writeRecordWords, read_writeRecordWords_of_not_mem hlength heven hb rest _ hrest hin, ← Nat.add_assoc,
        Memory.read_writeBytes_inside _ m (base + off) b (by omega) hwf
          (show base + off + ((record.drop off).take 2).length ≤ 0x40000 by omega),
        List.getElem_take, List.getElem_drop, getD_of_lt]

/-- Bytes outside the record's place are kept. -/
theorem read_writeRecordWords_outside {base a : Nat} {record : List Byte} (hlength : record.length = 32)
    (ha : ¬ bytesFrom base 32 a) : ∀ (offsets : List Nat) (m : List Host.Cell), (∀ o ∈ offsets, o % 2 = 0 ∧ o ≤ 30) →
    Memory.read (writeRecordWords m base record offsets) a = Memory.read m a
  | [], _, _ => rfl
  | o :: rest, m, hall => by
    obtain ⟨-, hle⟩ := hall o List.mem_cons_self
    rw [writeRecordWords, read_writeRecordWords_outside hlength ha rest _ fun o h => hall o (List.mem_cons_of_mem _ h)]
    refine Memory.read_writeBytes_of_not ?_
    rw [length_recordWord hlength hle]
    unfold bytesFrom at ha ⊢
    omega

theorem recordWords_even : ∀ o ∈ recordWords, o % 2 = 0 ∧ o ≤ 30 := by decide

theorem recordWords_take_even (cut : Nat) : ∀ o ∈ recordWords.take cut, o % 2 = 0 ∧ o ≤ 30 := fun o h =>
  recordWords_even o (List.mem_of_mem_take h)

/-- The words of a record in the order they are written, the sequence word last (R208). -/
theorem recordWords_getElem {n : Nat} (h : n < recordWords.length) :
    recordWords[n] = if n = 15 then 0 else 2 * n + 2 := by
  exact (by decide : ∀ (n : Nat) (h : n < 16), recordWords[n]'h = if n = 15 then 0 else 2 * n + 2) n h

theorem mem_take_recordWords {n cut : Nat} (hn : n < 16) :
    (if n = 15 then 0 else 2 * n + 2) ∈ recordWords.take cut ↔ n < cut := by
  rw [List.mem_take_iff_getElem]
  have hlength : recordWords.length = 16 := rfl
  constructor
  · rintro ⟨i, hi, hword⟩
    rw [recordWords_getElem] at hword
    have hi16 : i < 16 := by omega
    have : i = n := by split at hword <;> split at hword <;> omega
    omega
  · intro h
    exact ⟨n, by omega, recordWords_getElem (by omega)⟩

/-- The bytes of a record cut short, and every other byte (R208). -/
theorem State.cutRecord_read {s : State} (cut : Nat) {q : RecordRequest} {rest : List RecordRequest} {r : Ring}
    (hqueue : s.journal.queue = q :: rest) (hring : s.journal.ring = some r) :
    (s.cutRecord cut).mem =
      writeRecordWords s.mem (r.base + 32 * s.journal.position) (q.record.bytes s.journal.written)
        (recordWords.take cut) := by
  simp only [State.cutRecord, hqueue, hring]

theorem State.cutRecord_outside {s : State} (cut : Nat) {a : Nat} (h : ¬ recordBytes s a) :
    Memory.read (s.cutRecord cut).mem a = Memory.read s.mem a := by
  unfold State.cutRecord
  split
  next q rest r hqueue hring =>
    refine read_writeRecordWords_outside (Record.length_bytes _ _) (fun ha => h ?_) _ s.mem (recordWords_take_even cut)
    exact ⟨by rw [hqueue]; exact List.cons_ne_nil _ _, r, hring, ha⟩
  next => rfl

/-! ## The reset pin -/

/-- A row of the part's blocks changes nothing while the pin is asserted (assumption 50). -/
theorem exec_asserted {c : Instr} {s : State} (h : portOrStartRow c = false) (hpin : s.sys.resetPin = true) :
    exec c s = .next s := by
  by_cases hrecord : c = .journalRecordWrite
  · subst hrecord
    refine (execJournalRecordWrite_eq s).trans ?_
    rw [State.event_pin hpin]
    simp
  · by_cases hasserted : ∃ cut, c = .resetPinAsserted cut
    · obtain ⟨cut, rfl⟩ := hasserted
      exact congrArg Host.Outcome.next (if_pos hpin)
    · obtain ⟨f, hrow, -⟩ := exec_eventRow c h hrecord fun cut hc => hasserted ⟨cut, hc⟩
      rw [hrow, State.event_pin hpin]

/-- Settles O7. -/
theorem resetPinStopsThePart : Obligations.ResetPinStopsThePart := by
  refine ⟨fun cut s hpin => ⟨_, congrArg Host.Outcome.next (if_neg (by rw [hpin]; decide)), ?_, ?_, ?_⟩,
    fun s hpin => ⟨fun c h => exec_asserted h hpin, fun _ => ?_, fun _ => ?_, fun _ => ?_, fun _ => ?_, fun _ _ _ => ?_,
      fun address w h => ?_⟩⟩
  · dsimp only
    rw [State.cutRecord_eq]
  · intro q rest r hqueue hring hmem hfree n hn b hb at_ place
    obtain ⟨hbase, hend, hposition⟩ := hfree r hring
    have hlength := Record.length_bytes s.journal.written q.record
    change Memory.read (s.cutRecord cut).mem _ = _
    rw [State.cutRecord_read cut hqueue hring]
    split
    next h =>
      exact read_writeRecordWords_of_mem hlength (by omega) hb _ s.mem hmem (recordWords_take_even cut)
        ((mem_take_recordWords hn).mpr h)
    next h =>
      exact read_writeRecordWords_of_not_mem hlength (by split <;> omega) hb _ s.mem (recordWords_take_even cut)
        (mt (mem_take_recordWords hn).mp h)
  · exact fun a ha => State.cutRecord_outside cut ha
  · exact congrArg Host.Outcome.next (State.access_asserted _ _ hpin)
  · exact congrArg Host.Outcome.next (State.access_asserted _ _ hpin)
  · exact congrArg Host.Outcome.next (State.access_asserted _ _ hpin)
  · exact congrArg Host.Outcome.next (State.access_asserted _ _ hpin)
  · exact congrArg Host.Outcome.next (State.access_asserted _ _ hpin)
  · exact congrArg Host.Outcome.next ((if_neg (by omega)).trans (State.access_asserted _ _ hpin))

end Sys2Proof.Machine
end

section
/-! SUPPORT. The end of a step as the statements of one command use it: an effect that shows nothing new is the step's
result, and any other differs from it by what the end of the step writes (R181, R189, R201). -/

namespace Sys2Proof.Machine

open Sys2Proof

/-! ## An effect that shows nothing new -/

/-- No lane's block shows anything new, and no lane's JOURNAL FULL is cleared. -/
structure State.QuietLanes (s u : State) : Prop where
  fields : ∀ l, shownFields (u.lane l) u.emergency = shownFields (s.lane l) s.emergency
  rewritten : ∀ l, (u.lane l).rewritten = (s.lane l).rewritten
  full : ∀ l, (u.lane l).journalFull = (s.lane l).journalFull
  room : u.journal.openRoom = s.journal.openRoom

theorem State.QuietLanes.of_lanes {s u : State} (hlanes : u.lanes = s.lanes) (he : u.emergency = s.emergency)
    (hroom : u.journal.openRoom = s.journal.openRoom) : s.QuietLanes u where
  fields l := by rw [State.lane_congr hlanes, he]
  rewritten l := by rw [State.lane_congr hlanes]
  full l := by rw [State.lane_congr hlanes]
  room := hroom

theorem State.publishLane_of_shown {s u : State} {l : LaneId}
    (h : shownFields (u.lane l) u.emergency = shownFields (s.lane l) s.emergency) (hr : (u.lane l).rewritten = []) :
    State.publishLane s u l = u := by
  unfold State.publishLane
  exact if_pos ⟨h.symm, hr⟩

/-- Where the lanes show nothing new, the end of a step writes the readiness summary at most. -/
theorem State.conclude_of_quietLanes {s u : State} (hs : s.Settled) (h : s.QuietLanes u) :
    State.conclude s u = State.publishReadiness s u := by
  have hrewritten : ∀ l, (u.lane l).rewritten = [] := fun l => (h.rewritten l).trans (hs l).1
  unfold State.conclude
  dsimp only
  rw [State.settleJournalFull_of fun l hroom => (h.full l).trans ((hs l).2 (h.room ▸ hroom)),
    State.publishLane_of_shown (h.fields .lane0) (hrewritten _),
    State.publishLane_of_shown (h.fields .lane1) (hrewritten _),
    State.publishLane_of_shown (h.fields .lane2) (hrewritten _),
    State.publishLane_of_shown (h.fields .lane3) (hrewritten _)]

theorem State.conclude_of_quiet {s u : State} (hs : s.Settled) (h : s.QuietLanes u)
    (hready : u.orders.ready = s.orders.ready) : State.conclude s u = u := by
  rw [State.conclude_of_quietLanes hs h, State.publishReadiness, if_pos hready.symm]

/-- A step whose effect shows nothing new is its effect. -/
theorem State.event_of_quiet {s : State} {f : State → State} (hpin : s.sys.resetPin = false) (hs : s.Settled)
    (h : s.QuietLanes (f s)) (hready : (f s).orders.ready = s.orders.ready) : s.event f = f s := by
  rw [State.event_eq hpin, State.conclude_of_quiet hs h hready]

/-- A step whose effect changes no lane and no shown input is its effect. -/
theorem State.event_of_lanes {s : State} {f : State → State} (hpin : s.sys.resetPin = false) (hs : s.Settled)
    (hlanes : (f s).lanes = s.lanes) (he : (f s).emergency = s.emergency)
    (hroom : (f s).journal.openRoom = s.journal.openRoom) (hready : (f s).orders.ready = s.orders.ready) :
    s.event f = f s :=
  State.event_of_quiet hpin hs (.of_lanes hlanes he hroom) hready

/-! ## The readiness summary -/

theorem State.publishReadiness_eq (s u : State) :
    State.publishReadiness s u = { u with mem := (State.publishReadiness s u).mem } := by
  unfold State.publishReadiness
  split <;> rfl

theorem State.publishReadiness_read {s u : State} {a : Nat} (h : a ≠ 0x02 ∧ a ≠ 0x03) :
    Memory.read (State.publishReadiness s u).mem a = Memory.read u.mem a := by
  unfold State.publishReadiness
  split
  · rfl
  · refine Memory.read_writeBytes_of_not ?_
    simp only [bytesFrom, length_leBytes]
    omega

/-- The header's bytes after the summary are shown by no step's end. -/
theorem not_shown_header {a n : Nat} (h : 4 ≤ a) (h' : a + n ≤ 0x40) : ∀ b, bytesFrom a n b → ¬ shownByte b := by
  unfold bytesFrom shownByte
  omega

/-- Nor are the bytes from the order board on. -/
theorem not_shown_above {a n : Nat} (h : 0xC0 ≤ a) : ∀ b, bytesFrom a n b → ¬ shownByte b := by
  unfold bytesFrom shownByte
  omega

/-- Where the lanes show nothing new a step ends with its effect, but for the bytes of the summary. -/
theorem State.conclude_readiness {s u : State} (hs : s.Settled) (h : s.QuietLanes u) :
    ∃ m, State.conclude s u = { u with mem := m } ∧
      (∀ a, ¬ shownByte a → Memory.read m a = Memory.read u.mem a) ∧
      ∀ a n, (∀ b, bytesFrom a n b → ¬ shownByte b) → Memory.readNat m a n = Memory.readNat u.mem a n := by
  have hread : ∀ a, ¬ shownByte a →
      Memory.read (State.publishReadiness s u).mem a = Memory.read u.mem a := fun a ha =>
    State.publishReadiness_read (by unfold shownByte at ha; omega)
  refine ⟨(State.publishReadiness s u).mem, ?_, hread, fun a n ha => ?_⟩
  · rw [State.conclude_of_quietLanes hs h]
    exact State.publishReadiness_eq s u
  · exact Memory.readNat_congr n a fun b hb => hread b (ha b hb)

/-! ## What the end of any step leaves -/

theorem not_shownByte {a : Nat} : ¬ shownByte a ↔ (a < 0x40 ∨ 0xC0 ≤ a) ∧ a ≠ 2 ∧ a ≠ 3 := by
  unfold shownByte
  omega

theorem State.conclude_kept (s u : State) {a : Nat} (h : ¬ shownByte a) :
    Memory.read (State.conclude s u).mem a = Memory.read u.mem a := by
  obtain ⟨hblock, hready⟩ := not_shownByte.mp h
  exact State.conclude_read s u a hblock hready

/-- Where an effect keeps every byte but those that are named and the shown ones, so does its step. -/
theorem State.MemoryKept.conclude {s u : State} {stored : Nat → Prop} (h : s.MemoryKept u stored) :
    s.MemoryKept (State.conclude s u) stored := fun a hshown hstored =>
  (State.conclude_kept s u hshown).trans (h a hshown hstored)

theorem State.MemoryKept.of_mem {s u : State} (stored : Nat → Prop) (h : u.mem = s.mem) : s.MemoryKept u stored :=
  fun a _ _ => by rw [h]

/-- A number in bytes that no lane's block and no summary shows. -/
theorem State.conclude_readNat (s u : State) {a n : Nat} (h : ∀ b, bytesFrom a n b → ¬ shownByte b) :
    Memory.readNat (State.conclude s u).mem a n = Memory.readNat u.mem a n :=
  Memory.readNat_congr n a fun b hb => State.conclude_kept s u (h b hb)

theorem State.conclude_eq_with (s u : State) :
    State.conclude s u =
      { u with lanes := (State.conclude s u).lanes, mem := (State.conclude s u).mem } := State.conclude_same_but s u

/-- A step ends with its effect, but for what its lanes and its memory show. -/
theorem State.conclude_exists (s u : State) :
    ∃ (lanes : PerLane Lane) (m : List Host.Cell), State.conclude s u = { u with lanes := lanes, mem := m } ∧
      (∀ l, (u.lane l).Concluded (lanes.get l)) ∧
      (∀ a, ¬ shownByte a → Memory.read m a = Memory.read u.mem a) ∧
      (∀ a n, (∀ b, bytesFrom a n b → ¬ shownByte b) → Memory.readNat m a n = Memory.readNat u.mem a n) ∧
      ∀ l, (lanes.get l).rewritten = [] ∧ (4 ≤ u.journal.openRoom → (lanes.get l).journalFull = false) := by
  refine ⟨(State.conclude s u).lanes, (State.conclude s u).mem, State.conclude_same_but s u,
    State.conclude_concluded s u, fun a => State.conclude_kept s u, fun a n => State.conclude_readNat s u, ?_⟩
  have hsettled := State.conclude_settled s u
  rwa [State.Settled, State.conclude_journal] at hsettled

/-- Lanes that the effect keeps are kept by the step. -/
theorem State.LanesKept.conclude {s u : State} (h : u.lanes = s.lanes) : s.LanesKept (State.conclude s u) := fun l => by
  have hconcluded := State.conclude_concluded s u l
  rwa [State.lane_congr h] at hconcluded

theorem State.OtherLanesKept.conclude {s u : State} {l : LaneId} (h : ∀ k, k ≠ l → u.lane k = s.lane k) :
    s.OtherLanesKept (State.conclude s u) l := fun k hk => by
  have hconcluded := State.conclude_concluded s u k
  rwa [h k hk] at hconcluded

/-- A timed event whose time has come. -/
theorem State.onDue_of_reached {s : State} {due : Nat} (f : State → State) (h : due ≤ s.nextTick) :
    s.onDue due f = f { s with timeBase := max s.timeBase due } := by
  rw [State.onDue, State.reached, if_pos (by simpa using h)]

/-- Before its time it changes nothing. -/
theorem State.onDue_of_not_reached {s : State} {due : Nat} (f : State → State) (h : s.nextTick < due) :
    s.onDue due f = s := by
  rw [State.onDue, State.reached, if_neg (by simpa using h)]

/-- The owner's answer ends the order in service 2 µs after its take (R197). -/
theorem State.answer_ended {s u : State} {o : OrderInService} (done : Bool) (code : OrderCode) (data : ResultData)
    (ho : s.orders.service = some o) (hu : u.orders.service = some o) :
    s.EndedWith (u.answer o done code data) o done code data (o.takenAt + 20) := by
  refine ⟨?_, ho⟩
  change u.orders.service.map _ = _
  rw [hu]
  rfl

theorem State.answerAt_ended {s u : State} {o : OrderInService} (due : Nat) (done : Bool) (code : OrderCode)
    (data : ResultData) (ho : s.orders.service = some o) (hu : u.orders.service = some o) :
    s.EndedWith (u.answerAt due done code data) o done code data due := by
  refine ⟨?_, ho⟩
  change u.orders.service.map _ = _
  rw [hu]
  rfl

/-! ## Commands -/

section
variable {c : Instr} {f : State → State} {s u : State}

/-- A command that is an event ends with the end of its effect. -/
theorem exec_concluded (hpin : s.sys.resetPin = false) (hrow : exec c s = .next (s.event f)) (hf : f s = u) :
    exec c s = .next (State.conclude s u) := by
  rw [hrow, State.event_eq hpin, hf]

/-- A command whose effect shows nothing new. -/
theorem exec_of_quiet (hpin : s.sys.resetPin = false) (hs : s.Settled) (hrow : exec c s = .next (s.event f))
    (hf : f s = u) (h : s.QuietLanes u) (hready : u.orders.ready = s.orders.ready) : exec c s = .next u := by
  rw [exec_concluded hpin hrow hf, State.conclude_of_quiet hs h hready]

/-- A command whose effect changes no lane and no shown input. -/
theorem exec_of_lanes (hpin : s.sys.resetPin = false) (hs : s.Settled) (hrow : exec c s = .next (s.event f))
    (hf : f s = u) (hlanes : u.lanes = s.lanes) (he : u.emergency = s.emergency)
    (hroom : u.journal.openRoom = s.journal.openRoom) (hready : u.orders.ready = s.orders.ready) :
    exec c s = .next u :=
  exec_of_quiet hpin hs hrow hf (.of_lanes hlanes he hroom) hready

/-- A command whose effect is nothing. -/
theorem exec_of_same (hpin : s.sys.resetPin = false) (hs : s.Settled) (hrow : exec c s = .next (s.event f))
    (hf : f s = s) : exec c s = .next s :=
  exec_of_lanes hpin hs hrow hf rfl rfl rfl rfl

end

end Sys2Proof.Machine
end

section
/-! The order board (10 R196 to R198). -/

namespace Sys2Proof.Machine

open Sys2Proof

/-! ## Write-watch events of the state words -/

theorem State.setSlot_self (s : State) (k : Fin 8) : s.setSlot k s.orders.slots[k] = s := by
  rw [State.setSlot]
  have hset : s.orders.slots.set k s.orders.slots[k] = s.orders.slots := Vector.set_getElem_self k.isLt
  rw [hset]

/-- The judgement follows the table of R196. -/
theorem State.judgeSlot_eq (s : State) (k : Fin 8) :
    s.judgeSlot k = ((boardRule s.orders.slots[k] (stateWord s.mem k)).map (s.setSlot k)).getD (s.rewriteSlot k) := by
  have hself := s.setSlot_self k
  unfold State.judgeSlot stateWord
  generalize Memory.readNat s.mem (slotBase k) 2 = w
  generalize s.orders.slots[k] = kept at hself ⊢
  match kept, w, hself with
  | .taken, _, h => exact h.symm
  | .empty, 0, h | .posted, 1, h | .done, 3, h | .refused, 4, h => exact h.symm
  | .posted, 0, _ | .done, 0, _ | .refused, 0, _ => rfl
  | .empty, 1, _ | .done, 1, _ | .refused, 1, _ => rfl
  | .empty, 2, _ | .posted, 2, _ | .done, 2, _ | .refused, 2, _ => rfl
  | .empty, 3, _ | .posted, 3, _ | .refused, 3, _ => rfl
  | .empty, 4, _ | .posted, 4, _ | .done, 4, _ => rfl
  | .empty, n + 5, _ | .posted, n + 5, _ | .done, n + 5, _ | .refused, n + 5, _ => rfl

theorem SlotState.code_le (v : SlotState) : v.code ≤ 4 := by
  cases v <;> decide

/-- The state word is written with the state kept (R196). -/
theorem State.rewriteSlot_reads {s : State} (k : Fin 8) (hmem : s.MemoryLegal) :
    stateWord (s.rewriteSlot k).mem k = s.orders.slots[k].code ∧
      Memory.readNat (s.rewriteSlot k).mem 0x14 4 = slotBase k ∧
      ∀ a, ¬ bytesFrom (slotBase k) 2 a → ¬ bytesFrom 0x14 4 a →
        Memory.read (s.rewriteSlot k).mem a = Memory.read s.mem a := by
  have hsize : slotBase k + 2 ≤ 0x300 ∧ 0x100 ≤ slotBase k := by unfold slotBase; omega
  have hcode := s.orders.slots[k].code_le
  have hword := Memory.wf_writeBytes (leBytes 2 s.orders.slots[k].code) s.mem (slotBase k) hmem
  rw [State.rewriteSlot, State.recordHeld_mem, State.writeMem_mem]
  refine ⟨?_, ?_, fun a ha ha' => ?_⟩
  · rw [stateWord, Memory.readNat_congr 2 _ fun b hb => Memory.read_writeBytes_of_not ?_,
      Memory.readNat_writeBytes 2 _ hmem (by omega), Nat.mod_eq_of_lt (by omega)]
    rw [length_leBytes]
    unfold bytesFrom at *
    omega
  · rw [Memory.readNat_writeBytes 4 _ hword (by decide), Nat.mod_eq_of_lt (by omega)]
  · rw [Memory.read_writeBytes_of_not (by rwa [length_leBytes]),
      Memory.read_writeBytes_of_not (by rwa [length_leBytes])]

/-- Settles O15. -/
theorem slotEventFollowsTheTable : Obligations.SlotEventFollowsTheTable := by
  intro k s hpin hs hmem hk
  have hjudge := State.judgeSlot_eq
    { s with orders := { s.orders with watchEvents := s.orders.watchEvents.erase k } } k
  dsimp only at hjudge
  cases hrule : boardRule s.orders.slots[k] (stateWord s.mem k) with
  | some v =>
    rw [hrule] at hjudge
    exact ⟨_, exec_of_lanes hpin hs rfl ((if_pos hk).trans hjudge) rfl rfl rfl rfl, rfl, rfl,
      fun _ _ => ⟨rfl, rfl, rfl⟩, nofun⟩
  | none =>
    rw [hrule] at hjudge
    obtain ⟨hword, hheld, hkept⟩ := State.rewriteSlot_reads (s :=
      { s with orders := { s.orders with watchEvents := s.orders.watchEvents.erase k } }) k hmem
    refine ⟨_, exec_of_lanes hpin hs rfl ((if_pos hk).trans hjudge) rfl rfl rfl rfl, ?_, rfl, nofun,
      fun _ => ⟨hword, rfl, rfl, hheld, hkept⟩⟩
    have hself : s.orders.slots.set k s.orders.slots[k] = s.orders.slots := Vector.set_getElem_self k.isLt
    rw [Option.getD_none, hself]
    rfl

/-! ## Taking an order -/

/-- The slot that is taken next: the first POSTED one after the last taken. -/
theorem Orders.nextPosted_eq {o : Orders} {k : Fin 8} {n : Nat} (hn : n < 8)
    (hk : k.val = (o.lastTaken.val + 1 + n) % 8) (hposted : o.slots[k] = .posted)
    (hfirst : ∀ m < n, ∀ j : Fin 8, j.val = (o.lastTaken.val + 1 + m) % 8 → o.slots[j] ≠ .posted) :
    o.nextPosted = some k := by
  have hslot : ∀ m, (slotAfter o.lastTaken (m + 1)).val = (o.lastTaken.val + 1 + m) % 8 := fun m => by
    rw [slotAfter, Fin.val_ofNat, Nat.add_right_comm, Nat.add_assoc]
  have hkn : slotAfter o.lastTaken (n + 1) = k := Fin.ext ((hslot n).trans hk.symm)
  rw [Orders.nextPosted, List.find?_map, Option.map_eq_some_iff]
  refine ⟨n, List.find?_range_eq_some.mpr ⟨?_, List.mem_range.mpr hn, fun m hm => ?_⟩, hkn⟩
  · simpa [hkn] using hposted
  · simpa using hfirst m hm _ (hslot m)

/-- The order that the words of a slot hold (R197). -/
def orderOf (m : List Host.Cell) (k : Fin 8) (takenAt : Nat) : OrderInService where
  slot := k
  kind := Memory.read m (slotBase k + 2)
  ticket := BitVec.ofNat 16 (Memory.readNat m (slotBase k + 4) 2)
  args := Memory.readBytes m (slotBase k + 8) 40
  takenAt := takenAt
  stage := .handed

/-- The state word is no part of the order. -/
theorem orderOf_writeState (m : List Host.Cell) (k : Fin 8) (takenAt v : Nat) :
    orderOf (Memory.writeBytes m (slotBase k) (leBytes 2 v)) k takenAt = orderOf m k takenAt := by
  have hread : ∀ a, ¬ bytesFrom (slotBase k) 2 a →
      Memory.read (Memory.writeBytes m (slotBase k) (leBytes 2 v)) a = Memory.read m a := fun a ha =>
    Memory.read_writeBytes_of_not (by rwa [length_leBytes])
  have hticket := Memory.readNat_congr 2 (slotBase k + 4) fun a ha => hread a (by unfold bytesFrom at *; omega)
  have hargs := Memory.readBytes_congr 40 (slotBase k + 8) fun a ha => hread a (by unfold bytesFrom at *; omega)
  rw [orderOf, orderOf, hread (slotBase k + 2) (by unfold bytesFrom; omega), hticket, hargs]

theorem State.takeSlot_eq (s : State) (k : Fin 8) :
    s.takeSlot k =
      { s with
        mem := Memory.writeBytes s.mem (slotBase k) (leBytes 2 SlotState.taken.code)
        orders :=
          { s.orders with
            slots := s.orders.slots.set k .taken
            lastTaken := k
            service := some (orderOf s.mem k s.timeBase) } } := by
  rw [← orderOf_writeState s.mem k s.timeBase SlotState.taken.code]
  rfl

/-- Settles O16. -/
theorem takeCopiesTheNextPostedSlot : Obligations.TakeCopiesTheNextPostedSlot := by
  refine ⟨fun s k n hpin hs hmem hnone hn hk hposted hfirst => ?_, fun s o hpin hs ho hstage hkind => ?_⟩
  · have hnext := Orders.nextPosted_eq hn hk hposted hfirst
    have hsize : slotBase k + 2 ≤ 0x40000 := by unfold slotBase; omega
    refine ⟨_, exec_of_lanes hpin hs rfl (Eq.trans (by rw [hnone, hnext]) (s.takeSlot_eq k)) rfl rfl rfl rfl, rfl, rfl,
      ?_, fun a ha => Memory.read_writeBytes_of_not (by rwa [length_leBytes])⟩
    exact Memory.readNat_writeBytes 2 _ hmem hsize
  · have hunknown : o.stage = .handed ∧ kindKnown o.kind = false := by
      refine ⟨hstage, ?_⟩
      rw [kindKnown, Bool.and_eq_false_iff, decide_eq_false_iff_not, decide_eq_false_iff_not]
      omega
    refine ⟨s.answerAt s.timeBase false .kind noData,
      exec_of_lanes hpin hs rfl (by rw [ho]; exact if_pos hunknown) rfl rfl rfl rfl, rfl, ?_⟩
    rw [State.answerAt, State.setStage, ho]
    rfl

/-! ## Ending an order -/

theorem length_resultBytes (bs : List Byte) : (resultBytes bs).length = 16 := by
  simp [resultBytes]

theorem resultBytes_getElem (bs : List Byte) {i : Nat} (h : i < (resultBytes bs).length) :
    (resultBytes bs)[i] = bs.getD i 0#8 := by
  rw [length_resultBytes] at h
  simp only [resultBytes, List.getElem_take]
  obtain hi | hi := Nat.lt_or_ge i bs.length
  · rw [List.getElem_append_left hi, getD_of_lt _ hi]
  · rw [List.getElem_append_right hi, List.getElem_replicate,
      List.getD_eq_getElem?_getD, List.getElem?_eq_none hi, Option.getD_none]

/-- The bytes that an order's end writes, and every other byte (R198). -/
theorem State.endOrder_reads {s : State} (o : OrderInService) (done : Bool) (code : OrderCode) (data : ResultData)
    (hmem : s.MemoryLegal) :
    stateWord (s.endOrder o done code data).mem o.slot = (if done then 3 else 4) ∧
      Memory.read (s.endOrder o done code data).mem (slotBase o.slot + 3) = BitVec.ofNat 8 code.code ∧
      Memory.readNat (s.endOrder o done code data).mem (slotBase o.slot + 6) 2 = o.ticket.toNat ∧
      Memory.readBytes (s.endOrder o done code data).mem (slotBase o.slot + 48) 16 = s.resultData data ∧
      ∀ a, ¬ bytesFrom (slotBase o.slot) 2 a → a ≠ slotBase o.slot + 3 → ¬ bytesFrom (slotBase o.slot + 6) 2 a →
        ¬ bytesFrom (slotBase o.slot + 48) 16 a →
        Memory.read (s.endOrder o done code data).mem a = Memory.read s.mem a := by
  have hbase : slotBase o.slot + 64 ≤ 0x40000 := by unfold slotBase; omega
  have hdata : (s.resultData data).length = 16 := by cases data <;> exact length_resultBytes _
  unfold stateWord
  generalize hm : (s.endOrder o done code data).mem = m
  simp only [State.endOrder, State.raise_mem, State.setSlot_mem, State.writeMem_mem] at hm
  generalize slotBase o.slot = base at *
  subst hm
  have hdataWritten := Memory.wf_writeBytes (s.resultData data) s.mem (base + 48) hmem
  have hcodeWritten := Memory.wf_writeBytes (leBytes 1 code.code) _ (base + 3) hdataWritten
  have hticketWritten := Memory.wf_writeBytes (leBytes 2 o.ticket.toNat) _ (base + 6) hcodeWritten
  refine ⟨?_, ?_, ?_, ?_, fun a hstate hcode hticket hresult => ?_⟩
  · rw [Memory.readNat_writeBytes 2 _ hticketWritten (by omega)]
    cases done <;> rfl
  · rw [Memory.read_writeBytes_outside _ _ _ _ (by rw [length_leBytes]; omega),
      Memory.read_writeBytes_outside _ _ _ _ (by rw [length_leBytes]; omega)]
    exact Memory.read_writeBytes_inside (leBytes 1 code.code) _ (base + 3) 0 Nat.one_pos hdataWritten
      (show base + 3 + 1 ≤ 0x40000 by omega)
  · rw [Memory.readNat_writeBytes_disjoint (by rw [length_leBytes]; omega),
      Memory.readNat_writeBytes 2 _ hcodeWritten (by omega)]
    exact Nat.mod_eq_of_lt o.ticket.isLt
  · rw [Memory.readBytes_writeBytes_disjoint (by rw [length_leBytes]; omega),
      Memory.readBytes_writeBytes_disjoint (by rw [length_leBytes]; omega),
      Memory.readBytes_writeBytes_disjoint (by rw [length_leBytes]; omega), ← hdata]
    exact Memory.readBytes_writeBytes _ s.mem (base + 48) hmem (by omega)
  · unfold bytesFrom at *
    rw [Memory.read_writeBytes_outside _ _ _ _ (by rw [length_leBytes]; omega),
      Memory.read_writeBytes_outside _ _ _ _ (by rw [length_leBytes]; omega),
      Memory.read_writeBytes_outside _ _ _ _ (by rw [length_leBytes]; omega),
      Memory.read_writeBytes_outside _ _ _ _ (by rw [hdata]; omega)]

/-- Settles O17. -/
theorem orderEndWritesTheResult : Obligations.OrderEndWritesTheResult := by
  intro s o done code result due hpin hs hmem ho hstage hdue data
  obtain ⟨hstate, hcode, hticket, hdata, hkept⟩ :=
    State.endOrder_reads (s := { s with timeBase := max s.timeBase due }) o done code result hmem
  refine ⟨State.endOrder { s with timeBase := max s.timeBase due } o done code result,
    exec_of_lanes hpin hs rfl ?_ rfl rfl rfl rfl, rfl, rfl, rfl, hstate, hcode, hticket, fun i h => ?_, hkept⟩
  · simp only [ho, hstage]
    exact State.onDue_of_reached _ hdue
  have hi : i < (Memory.readBytes (State.endOrder { s with timeBase := max s.timeBase due } o done code result).mem
      (slotBase o.slot + 48) 16).length := by rwa [Memory.length_readBytes]
  rw [← Memory.readBytes_getElem _ 16 _ i hi]
  simp only [hdata]
  cases result <;> exact resultBytes_getElem _ _

end Sys2Proof.Machine
end

section
/-! The Station Clock (08). -/

namespace Sys2Proof.Machine

open Sys2Proof

/-! ## The readout (R172) -/

/-- The bytes of the readout. -/
theorem State.writeReadout_reads {s : State} (hmem : s.MemoryLegal) (hday : s.clock.day < 65536)
    (hminute : s.clock.minute < 1440) (hms : s.clock.ms < 60000) :
    Memory.readNat s.writeReadout.mem 0x08 2 = s.clock.day ∧
      Memory.readNat s.writeReadout.mem 0x0A 2 = s.clock.minute ∧
      Memory.readNat s.writeReadout.mem 0x0C 2 = s.clock.ms ∧
      Memory.readNat s.writeReadout.mem 0x0E 2 = (s.clock.stamp + 1#16).toNat ∧
      ∀ a, ¬ bytesFrom 0x08 8 a → Memory.read s.writeReadout.mem a = Memory.read s.mem a := by
  have hm : s.writeReadout.mem =
      Memory.writeBytes
        (Memory.writeBytes
          (Memory.writeBytes (Memory.writeBytes s.mem 0x08 (leBytes 2 s.clock.day)) 0x0A (leBytes 2 s.clock.minute))
          0x0C (leBytes 2 s.clock.ms))
        0x0E (leBytes 2 (s.clock.stamp + 1#16).toNat) := by
    simp only [State.writeReadout, State.writeMem_mem, Memory.writeBytes_append, List.length_append, length_leBytes]
  have hdayWritten := Memory.wf_writeBytes (leBytes 2 s.clock.day) s.mem 0x08 hmem
  have hminuteWritten := Memory.wf_writeBytes (leBytes 2 s.clock.minute) _ 0x0A hdayWritten
  have hmsWritten := Memory.wf_writeBytes (leBytes 2 s.clock.ms) _ 0x0C hminuteWritten
  rw [hm]
  refine ⟨?_, ?_, ?_, ?_, fun a ha => ?_⟩
  · rw [Memory.readNat_writeBytes_disjoint (by simp [length_leBytes]),
      Memory.readNat_writeBytes_disjoint (by simp [length_leBytes]),
      Memory.readNat_writeBytes_disjoint (by simp [length_leBytes]), Memory.readNat_writeBytes 2 _ hmem (by decide)]
    exact Nat.mod_eq_of_lt hday
  · rw [Memory.readNat_writeBytes_disjoint (by simp [length_leBytes]),
      Memory.readNat_writeBytes_disjoint (by simp [length_leBytes]),
      Memory.readNat_writeBytes 2 _ hdayWritten (by decide)]
    exact Nat.mod_eq_of_lt (by omega)
  · rw [Memory.readNat_writeBytes_disjoint (by simp [length_leBytes]),
      Memory.readNat_writeBytes 2 _ hminuteWritten (by decide)]
    exact Nat.mod_eq_of_lt (by omega)
  · rw [Memory.readNat_writeBytes 2 _ hmsWritten (by decide)]
    exact Nat.mod_eq_of_lt (BitVec.isLt _)
  · unfold bytesFrom at ha
    rw [Memory.read_writeBytes_outside _ _ _ _ (by rw [length_leBytes]; omega),
      Memory.read_writeBytes_outside _ _ _ _ (by rw [length_leBytes]; omega),
      Memory.read_writeBytes_outside _ _ _ _ (by rw [length_leBytes]; omega),
      Memory.read_writeBytes_outside _ _ _ _ (by rw [length_leBytes]; omega)]

/-- Settles O20. -/
theorem rolloverAndReadout : Obligations.RolloverAndReadout := by
  intro s hpin hs hmem
  refine ⟨fun hdue => ⟨s.rollover, exec_of_lanes hpin hs rfl (if_pos hdue) rfl rfl rfl rfl, rfl⟩, fun hclock hdue => ?_⟩
  obtain ⟨hday, hminute, hms, -⟩ := hclock
  exact ⟨s.writeReadout, exec_of_lanes hpin hs rfl (if_pos hdue) rfl rfl rfl rfl, rfl,
    State.writeReadout_reads hmem hday hminute hms⟩

/-! ## The tick (R164) -/

theorem State.settle_of_nothing_owed {s : State} (hrollover : s.clock.rolloverDue = false)
    (hreadout : s.clock.readoutDue = false) : s.settleRollover.settleReadout = s := by
  have hnone : s.settleRollover = s := if_neg (by rw [hrollover]; decide)
  rw [hnone]
  exact if_neg (by rw [hreadout]; decide)

/-- A shift of its timers shows nothing of a lane. -/
theorem State.shiftTimers_quiet {s u : State} (step : Int) (hlanes : u.lanes = (s.shiftTimers step).lanes)
    (he : u.emergency = s.emergency) (hjournal : u.journal = s.journal) : s.QuietLanes u := by
  have hlane : ∀ l, u.lane l = (s.lane l).shift step := fun l =>
    (State.lane_congr hlanes l).trans (s.lane_shiftTimers step l)
  refine ⟨fun l => ?_, fun l => ?_, fun l => ?_, by rw [hjournal]⟩
  · rw [hlane, he]
    simp [shownFields, Lane.shift, laneFlags]
  · rw [hlane]
    rfl
  · rw [hlane]
    rfl

/-- The station time of an instant within the days of station time, and of the one after them (R164). -/
theorem StationTime.ofInstant_of_fields {i : Int} {d m k : Nat} (hd : d < 65536) (hm : m < 1440) (hk : k < 60000)
    (h : i = d * 86400000 + m * 60000 + k) : StationTime.ofInstant i = ⟨d, m, k⟩ := by
  unfold StationTime.ofInstant daySpan
  simp only [StationTime.mk.injEq]
  omega

theorem StationTime.ofInstant_daySpan : StationTime.ofInstant daySpan = ⟨0, 0, 0⟩ := by decide

/-- One millisecond of station time with its carries; past day 65535 the held timers move (R164, R168). -/
theorem State.advance_cases {s : State} (h : s.ClockLegal) :
    (∃ d m k : Nat, s.advance = { s with clock := { s.clock with day := d, minute := m, ms := k } } ∧
      s.instant + 1 < daySpan ∧ StationTime.ofInstant (s.instant + 1) = ⟨d, m, k⟩) ∨
    (s.advance = State.shiftTimers { s with clock := { s.clock with day := 0, minute := 0, ms := 0 } } (-daySpan) ∧
      s.instant + 1 = daySpan ∧ s.clock.last = true) := by
  obtain ⟨hday, hminute, hms, -⟩ := h
  have hinstant : s.instant = s.clock.day * 86400000 + s.clock.minute * 60000 + s.clock.ms := rfl
  unfold State.advance
  dsimp only
  split
  next h =>
    exact .inl ⟨s.clock.day, s.clock.minute, s.clock.ms + 1, rfl, by unfold daySpan; omega,
      StationTime.ofInstant_of_fields hday hminute h (by omega)⟩
  next hms' =>
    split
    next h =>
      exact .inl ⟨s.clock.day, s.clock.minute + 1, 0, rfl, by unfold daySpan; omega,
        StationTime.ofInstant_of_fields hday h (by decide) (by omega)⟩
    next hminute' =>
      split
      next h =>
        exact .inl ⟨s.clock.day + 1, 0, 0, rfl, by unfold daySpan; omega,
          StationTime.ofInstant_of_fields h (by decide) (by decide) (by omega)⟩
      next hday' =>
        refine .inr ⟨rfl, by unfold daySpan; omega, ?_⟩
        simp only [StationClock.last, Bool.and_eq_true, decide_eq_true_iff]
        omega

theorem State.owe_rolloverDue (s : State) :
    s.owe.clock.rolloverDue = decide (s.owe.clock.minute = s.clock.serviceStart ∧ s.owe.clock.ms = 0) :=
  (Bool.and_comm _ _).trans (Bool.decide_and _ _).symm

/-- Settles O19. -/
theorem tickAdvancesStationTime : Obligations.TickAdvancesStationTime := by
  intro s hpin hs hclock hrollover hreadout
  have htick : s.tick = (State.advance
      { s with timeBase := s.nextTick, nextTick := s.nextTick + Config.unitsPerMs }).owe := by
    rw [State.tick, State.settle_of_nothing_owed hrollover hreadout]
  obtain ⟨d, m, k, hadvance, hinstant, htime⟩ | ⟨hadvance, hinstant, hlast⟩ := State.advance_cases (s :=
    { s with timeBase := s.nextTick, nextTick := s.nextTick + Config.unitsPerMs }) hclock
  · rw [hadvance] at htick
    refine ⟨_, exec_of_lanes hpin hs rfl htick rfl rfl rfl rfl, rfl, rfl, htime.symm, ?_, rfl, fun _ => ⟨rfl, rfl, rfl⟩,
      fun hend => absurd hend (Int.ne_of_lt hinstant)⟩
    exact State.owe_rolloverDue _
  · rw [hadvance] at htick
    have hquiet := s.shiftTimers_quiet (-daySpan) (u := State.owe (State.shiftTimers
      { s with
        timeBase := s.nextTick
        nextTick := s.nextTick + Config.unitsPerMs
        clock := { s.clock with day := 0, minute := 0, ms := 0 } } (-daySpan))) rfl rfl rfl
    have hnow : StationTime.ofInstant (s.instant + 1) = ⟨0, 0, 0⟩ := by
      rw [show s.instant + 1 = daySpan from hinstant, StationTime.ofInstant_daySpan]
    refine ⟨_, exec_of_quiet hpin hs rfl htick hquiet rfl, rfl, rfl, hnow.symm,
      State.owe_rolloverDue _, rfl, fun hlt => absurd hinstant (Int.ne_of_lt hlt), fun _ => ⟨⟨rfl, rfl, rfl⟩, ?_⟩⟩
    exact exec_of_quiet hpin hs rfl ((if_pos hlast).trans htick) hquiet rfl

/-! ## SET TIME (R166, R167) -/

theorem DayType.ofCode?_code (d : DayType) : DayType.ofCode? d.code = some d := by
  cases d <;> rfl

theorem OrderInService.timeArgs_eq {o : OrderInService} {today next : DayType} (hminute : o.arg 2 2 < 1440)
    (hms : o.arg 4 2 < 60000) (hstart : o.arg 8 2 < 1440) (htoday : o.arg 6 1 = today.code)
    (hnext : o.arg 7 1 = next.code) :
    o.timeArgs = some (⟨o.arg 0 2, o.arg 2 2, o.arg 4 2⟩, today, next, o.arg 8 2) := by
  unfold OrderInService.timeArgs
  rw [htoday, hnext, DayType.ofCode?_code, DayType.ofCode?_code]
  exact if_pos ⟨hminute, hms, hstart⟩

theorem OrderInService.timeArgs_eq_none {o : OrderInService}
    (h : 1440 ≤ o.arg 2 2 ∨ 60000 ≤ o.arg 4 2 ∨ 1440 ≤ o.arg 8 2 ∨ o.arg 6 1 < 1 ∨ 2 < o.arg 6 1 ∨ o.arg 7 1 < 1 ∨
      2 < o.arg 7 1) : o.timeArgs = none := by
  have hcode : ∀ {n : Nat} {d : DayType}, DayType.ofCode? n = some d → 1 ≤ n ∧ n ≤ 2 := fun {n d} hd => by
    unfold DayType.ofCode? at hd
    split at hd
    · decide
    · decide
    · contradiction
  unfold OrderInService.timeArgs
  split
  next htoday hnext =>
    have htoday' := hcode htoday
    have hnext' := hcode hnext
    exact if_neg (by omega)
  next => rfl

/-- The state with the station time named, before its readout is written. -/
def State.timeNamed (s : State) (t : StationTime) (today next : DayType) (start : Nat) : State :=
  (State.shiftTimers
    { s with clock :=
      { s.clock with
        day := t.day
        minute := t.minute
        ms := t.ms
        today := today
        nextDay := next
        serviceStart := start
        setFlag := true } } (t.instant - s.instant)).setReady fun r => { r with clockSet := true }

theorem State.setTime_eq {s : State} (t : StationTime) (today next : DayType) (start : Nat)
    (hrollover : s.clock.rolloverDue = false) (hreadout : s.clock.readoutDue = false) :
    s.setTime t today next start = (s.timeNamed t today next start).writeReadout := by
  rw [State.setTime, State.settle_of_nothing_owed hrollover hreadout]
  rfl

/-- Settles O18. -/
theorem setTimeSetsTheClock : Obligations.SetTimeSetsTheClock := by
  refine ⟨fun s o today next hpin hs hmem hhanded hrollover hreadout hminute hms hstart htoday hnext => ?_,
    fun s o hpin hs hhanded h => ?_⟩
  · have hargs := OrderInService.timeArgs_eq hminute hms hstart htoday hnext
    have hday : o.arg 0 2 < 65536 := fieldAt_lt o.args 0 2
    obtain ⟨hreadDay, hreadMinute, hreadMs, hreadStamp, hreadKept⟩ := State.writeReadout_reads (s := s.timeNamed
      ⟨o.arg 0 2, o.arg 2 2, o.arg 4 2⟩ today next (o.arg 8 2)) hmem hday hminute hms
    have hquiet : s.QuietLanes (State.answer (State.writeReadout (s.timeNamed ⟨o.arg 0 2, o.arg 2 2, o.arg 4 2⟩ today
        next (o.arg 8 2))) o true .none (.bytes (timeResult ⟨o.arg 0 2, o.arg 2 2, o.arg 4 2⟩ today next
          (o.arg 8 2)))) := State.shiftTimers_quiet _ rfl rfl rfl
    obtain ⟨m, hconclude, hkept, hnat⟩ := State.conclude_readiness hs hquiet
    refine ⟨_, (exec_concluded hpin rfl ?_).trans (congrArg Host.Outcome.next hconclude), rfl, ?_,
      ⟨rfl, rfl, rfl⟩, rfl, State.answer_ended _ _ _ hhanded.1 hhanded.1,
      (hnat 0x08 2 (not_shown_header (by decide) (by decide))).trans hreadDay,
      (hnat 0x0A 2 (not_shown_header (by decide) (by decide))).trans hreadMinute,
      (hnat 0x0C 2 (not_shown_header (by decide) (by decide))).trans hreadMs,
      (hnat 0x0E 2 (not_shown_header (by decide) (by decide))).trans hreadStamp, fun a hshown ha =>
      (hkept a hshown).trans (hreadKept a ha)⟩
    · rw [State.withOrder_of_handed hhanded, hargs]
      exact congrArg (fun u => State.answer u o true .none _) (State.setTime_eq _ today next _ hrollover hreadout)
    · change (⟨_, _, _, true, _, today, next, s.clock.stamp + 1#16, s.clock.rolloverDue, false⟩ : StationClock) = _
      rw [hrollover]
      rfl
  · obtain ⟨ho, hstage, hkind⟩ := hhanded
    refine ⟨s.answer o false .argument noData, exec_of_lanes hpin hs rfl ?_ rfl rfl rfl rfl, rfl,
      State.answer_ended _ _ _ ho ho⟩
    rw [State.withOrder_of_handed ⟨ho, hstage, hkind⟩, OrderInService.timeArgs_eq_none h]

end Sys2Proof.Machine
end

section
/-! SET PARAMETERS (10 R199, R200), with the expiries that lowered lives bring about at once (06 R129, R130). -/

namespace Sys2Proof.Machine

open Sys2Proof

/-! ## The expiries of parts (R123, R130) -/

/-- The record that the end of an entry's part asks for, when its life has passed. -/
def State.endedPart (s : State) (e : Sighting) : Option RecordRequest :=
  e.uncertainty.bind fun u =>
    if s.partExpired u then some ⟨resolvedRecord e.card u u.lane .unresolved s.now false, .part, .nobody⟩ else none

theorem findSighting_map {g : Sighting → Sighting} (hg : ∀ e, (g e).card = e.card) (card : CardNumber) :
    ∀ t : List Sighting, findSighting (t.map g) card = (findSighting t card).map g
  | [] => rfl
  | e :: rest => by
    have ih := findSighting_map hg card rest
    unfold findSighting at *
    by_cases h : e.card = card
    · simp [hg, h]
    · simp [hg, h, ih]

theorem State.expirePart_of_none {s : State} {e : Sighting} (h : s.endedPart e = none) : s.expirePart e = s := by
  unfold State.expirePart
  split
  next => rfl
  next u hu =>
    rw [State.endedPart, hu] at h
    refine if_neg fun hexpired => ?_
    simp [hexpired] at h

theorem State.expirePart_of_some {s : State} {e : Sighting} {r : RecordRequest} (h : s.endedPart e = some r) :
    s.expirePart e = (s.enqueue r).changeEntry e.card fun e => { e with uncertainty := none } := by
  unfold State.expirePart
  split
  next hu =>
    rw [State.endedPart, hu] at h
    contradiction
  next u hu =>
    rw [State.endedPart, hu, Option.bind_some] at h
    split at h
    next hexpired =>
      obtain rfl := Option.some.inj h
      exact if_pos hexpired
    next => contradiction

/-- Parts that end change the table and the queue only, and neither the clock nor the lives. -/
theorem State.expirePart_eq (s : State) (e : Sighting) :
    s.expirePart e = { s with
      screening := { s.screening with table := (s.expirePart e).screening.table }
      journal :=
        { s.journal with
          queue := s.journal.queue ++ (s.endedPart e).toList, writeDue := (s.expirePart e).journal.writeDue } } := by
  cases h : s.endedPart e with
  | none =>
    rw [State.expirePart_of_none h, Option.toList_none, List.append_nil]
  | some r =>
    rw [State.expirePart_of_some h]
    rfl

theorem State.expirePart_find (s : State) (e : Sighting) (card : CardNumber) :
    findSighting (s.expirePart e).screening.table card = (findSighting s.screening.table card).map fun x =>
      if e.card = card ∧ (s.endedPart e).isSome then { x with uncertainty := none } else x := by
  cases h : s.endedPart e with
  | none => simp [State.expirePart_of_none h]
  | some r =>
    rw [State.expirePart_of_some h]
    change findSighting (changeSighting s.screening.table e.card _) card = _
    by_cases hcard : e.card = card
    · subst hcard
      rw [findSighting_changeSighting_self]
      simp
    · rw [findSighting_changeSighting_ne _ (Ne.symm hcard)]
      simp [hcard]

theorem State.endedPart_expirePart (s : State) (e x : Sighting) : (s.expirePart e).endedPart x = s.endedPart x := by
  rw [State.expirePart_eq]
  rfl

theorem State.expireParts_eq : ∀ (es : List Sighting) (s : State),
    s.expireParts es = { s with
      screening := { s.screening with table := (s.expireParts es).screening.table }
      journal :=
        { s.journal with
          queue := s.journal.queue ++ es.filterMap s.endedPart, writeDue := (s.expireParts es).journal.writeDue } }
  | [], s => by
    rw [List.filterMap_nil, List.append_nil]
    rfl
  | e :: rest, s => by
    have hended : (s.expirePart e).endedPart = s.endedPart := funext fun x => s.endedPart_expirePart e x
    rw [State.expireParts, State.expireParts_eq rest, hended, s.expirePart_eq e]
    have hqueue : s.journal.queue ++ (s.endedPart e).toList ++ rest.filterMap s.endedPart =
        s.journal.queue ++ (e :: rest).filterMap s.endedPart := by
      rw [List.append_assoc]
      cases h : s.endedPart e <;> simp [h]
    rw [← hqueue]

theorem State.expireParts_find (card : CardNumber) : ∀ (es : List Sighting) (s : State),
    findSighting (s.expireParts es).screening.table card = (findSighting s.screening.table card).map fun x =>
      if ∃ e ∈ es, e.card = card ∧ (s.endedPart e).isSome then { x with uncertainty := none } else x
  | [], s => by simp [State.expireParts]
  | e :: rest, s => by
    rw [State.expireParts, State.expireParts_find card rest, State.expirePart_find, Option.map_map]
    refine congrArg (fun f => Option.map f _) (funext fun x => ?_)
    simp only [State.endedPart_expirePart, Function.comp_apply, List.mem_cons, or_and_right, exists_or,
      exists_eq_left]
    by_cases hfirst : e.card = card ∧ (s.endedPart e).isSome
    · by_cases hrest : ∃ e ∈ rest, e.card = card ∧ (s.endedPart e).isSome <;> simp [hfirst, hrest]
    · by_cases hrest : ∃ e ∈ rest, e.card = card ∧ (s.endedPart e).isSome <;> simp [hfirst, hrest]

/-! ## The expiries that lowered lives bring about -/

theorem State.endedPart_expireUsed (s : State) (e : Sighting) : s.endedPart (s.expireUsed e) = s.endedPart e := by
  unfold State.expireUsed
  split
  · split <;> rfl
  · rfl

theorem State.expireAtOnce_eq (s : State) :
    s.expireAtOnce = { s with
      screening := { s.screening with table := s.expireAtOnce.screening.table }
      journal :=
        { s.journal with
          queue := s.journal.queue ++ s.screening.table.filterMap s.endedPart
          writeDue := s.expireAtOnce.journal.writeDue } } := by
  have hended : (s.screening.table.map s.expireUsed).filterMap s.endedPart =
      s.screening.table.filterMap s.endedPart := by
    rw [List.filterMap_map]
    exact congrArg (fun f => List.filterMap f _) (funext s.endedPart_expireUsed)
  rw [← hended]
  exact State.expireParts_eq _ _

/-- What the expiries make of a card's entry: the mark as its own life says, the part gone when its life has passed. -/
theorem State.expireAtOnce_find {s : State} (htable : s.TableLegal) (card : CardNumber) :
    findSighting s.expireAtOnce.screening.table card = (findSighting s.screening.table card).map fun e =>
      if (s.endedPart e).isSome then { s.expireUsed e with uncertainty := none } else s.expireUsed e := by
  have hused := findSighting_map s.expireUsed_card card s.screening.table
  have hparts := State.expireParts_find card (s.screening.table.map s.expireUsed)
    (s.setTable (s.screening.table.map s.expireUsed))
  refine hparts.trans ?_
  change Option.map _ (findSighting (s.screening.table.map s.expireUsed) card) = _
  rw [hused, Option.map_map]
  cases he : findSighting s.screening.table card with
  | none => rfl
  | some e =>
    have hcard := findSighting_card he
    have hiff : (∃ x ∈ s.screening.table.map s.expireUsed, x.card = card ∧ (s.endedPart x).isSome = true) ↔
        (s.endedPart e).isSome = true := by
      constructor
      · rintro ⟨x, hx, hxcard, hended⟩
        obtain ⟨y, hy, rfl⟩ := List.mem_map.mp hx
        rw [State.expireUsed_card] at hxcard
        have hfound := findSighting_of_mem htable.2 hy
        rw [hxcard, he] at hfound
        rw [Option.some.inj hfound, ← State.endedPart_expireUsed]
        exact hended
      · intro hended
        refine ⟨s.expireUsed e, List.mem_map_of_mem (findSighting_mem he), (s.expireUsed_card e).trans hcard, ?_⟩
        rwa [State.endedPart_expireUsed]
    simp only [Option.map_some, Function.comp_apply]
    refine congrArg some (ite_eq_ite_of_iff hiff)

/-! ## The values taken -/

theorem clampTo_eq {lo hi : Nat} (v : Nat) (h : lo ≤ hi) : clampTo lo hi v = max lo (min hi v) := by
  unfold clampTo
  split
  · omega
  · split <;> omega

theorem clampTo_zero (hi v : Nat) : clampTo 0 hi v = min hi v := by
  rw [clampTo_eq v (Nat.zero_le hi), Nat.zero_max]

theorem waitChoice_cases (v : Nat) :
    waitChoice v = 2 ∧ v ≤ 2 ∨ waitChoice v = 4 ∧ 2 < v ∧ v ≤ 4 ∨ waitChoice v = 8 ∧ 4 < v ∧ v ≤ 8 ∨
      waitChoice v = 16 ∧ 8 < v := by
  unfold waitChoice
  split
  · omega
  · split
    · omega
    · split <;> omega

theorem polarityOf_clamp (v : Nat) : polarityOf (clampTo 0 1 v) = if v = 0 then .normal else .inverted := by
  rw [clampTo_zero]
  unfold polarityOf
  exact ite_eq_ite_of_iff (by omega)

/-- The count of clamped fields and the first of them, as two bytes and one (R200). -/
theorem clampSummary_eq (fields : List (Nat × Nat)) (h : fields.length < 256) :
    clampSummary fields =
      [BitVec.ofNat 8 ((fields.map fun p => decide (p.1 ≠ p.2)).count true), 0#8,
        BitVec.ofNat 8 (((fields.map fun p => decide (p.1 ≠ p.2)).idxOf? true).getD 255)] := by
  have hcount : (fields.countP fun f => f.1 ≠ f.2) = (fields.map fun p => decide (p.1 ≠ p.2)).count true := by
    rw [List.count, List.countP_map]
    refine List.countP_congr fun p _ => ?_
    simp
  have hfirst : (fields.findIdx? fun f => f.1 ≠ f.2) = (fields.map fun p => decide (p.1 ≠ p.2)).idxOf? true := by
    rw [List.idxOf?, List.findIdx?_map]
    refine congrArg (fun p => List.findIdx? p fields) (funext fun p => ?_)
    simp
  have hlt : (fields.countP fun f => f.1 ≠ f.2) / 256 = 0 :=
    Nat.div_eq_of_lt (Nat.lt_of_le_of_lt List.countP_le_length h)
  rw [clampSummary, hfirst, leBytes, leBytes, hlt, hcount]
  rfl

/-- The state after the block's end, but for the answer (R200). -/
def State.parametersTaken (s : State) (p : Parameters) : State :=
  State.expireAtOnce { s with params := p, debounceLog := (s.timeBase, p.debounce) :: s.debounceLog }

theorem State.parametersTaken_eq (s : State) (p : Parameters) :
    s.parametersTaken p = { s with
      params := p
      debounceLog := (s.timeBase, p.debounce) :: s.debounceLog
      screening := { s.screening with table := (s.parametersTaken p).screening.table }
      journal :=
        { s.journal with
          queue := s.journal.queue ++ s.screening.table.filterMap (State.endedPart { s with params := p })
          writeDue := (s.parametersTaken p).journal.writeDue } } := State.expireAtOnce_eq _

theorem State.parametersTaken_find {s : State} (p : Parameters) (htable : s.TableLegal) (card : CardNumber) :
    findSighting (s.parametersTaken p).screening.table card = (findSighting s.screening.table card).map fun e =>
      if (State.endedPart { s with params := p } e).isSome then
        { State.expireUsed { s with params := p } e with uncertainty := none }
      else State.expireUsed { s with params := p } e :=
  State.expireAtOnce_find
    (s := { s with params := p, debounceLog := (s.timeBase, p.debounce) :: s.debounceLog }) htable card

/-- The parameters that a block gives. -/
def blockParameters (m : List Host.Cell) (base : Nat) : Parameters :=
  parametersOf fun i => ((readParameters m base).getD i (0, 0)).2

theorem State.takeParameters_eq (s : State) (base : Nat) :
    s.takeParameters base = (s.parametersTaken (blockParameters s.mem base)).answerAt s.timeBase true .none
      (.bytes (clampSummary (readParameters s.mem base))) := rfl

/-- A USED mark older than the interval becomes NONE, and any other mark is kept. -/
theorem State.expireUsed_mark (s : State) (e : Sighting) :
    ∃ mark, s.expireUsed e = { e with mark := mark } ∧
      ((∃ dir time, e.mark = .used dir time ∧ time + 1000 * s.params.passbackInterval ≤ s.instant) → mark = .none) ∧
      ((¬ ∃ dir time, e.mark = .used dir time ∧ time + 1000 * s.params.passbackInterval ≤ s.instant) →
        mark = e.mark) := by
  unfold State.expireUsed
  split
  next dir time hmark =>
    by_cases hexpired : s.markExpired e.mark = true
    · refine ⟨.none, if_pos hexpired, fun _ => rfl, fun h => absurd ⟨dir, time, hmark, ?_⟩ h⟩
      simpa [State.markExpired, hmark] using hexpired
    · refine ⟨e.mark, if_neg hexpired, fun ⟨dir', time', hmark', hend⟩ => absurd ?_ hexpired, fun _ => rfl⟩
      simpa [State.markExpired, hmark'] using hend
  next hmark => exact ⟨e.mark, rfl, fun ⟨dir, time, h, _⟩ => absurd h (hmark dir time), fun _ => rfl⟩

theorem State.endedPart_eq (s : State) :
    s.endedPart = fun e => e.uncertainty.bind fun u =>
      if u.created + 1000 * s.params.uncertaintyLife ≤ s.instant then
        some ⟨resolvedRecord e.card u u.lane .unresolved s.now false, .part, .nobody⟩
      else none := by
  funext e
  simp only [State.endedPart, State.partExpired, decide_eq_true_iff]

theorem State.endedPart_isSome (s : State) (e : Sighting) :
    (s.endedPart e).isSome = true ↔
      ∃ u, e.uncertainty = some u ∧ u.created + 1000 * s.params.uncertaintyLife ≤ s.instant := by
  unfold State.endedPart
  cases e.uncertainty with
  | none => simp
  | some u =>
    simp only [Option.bind_some, Option.some.injEq, exists_eq_left']
    split
    next h => simpa [State.partExpired] using h
    next h => simpa [State.partExpired] using h

/-- A part whose life has passed goes, and any other stays. -/
theorem State.expiredEntry_eq (s : State) (e : Sighting) :
    ∃ mark part, (if (s.endedPart e).isSome then { s.expireUsed e with uncertainty := none } else s.expireUsed e) =
        { e with mark := mark, uncertainty := part } ∧
      ((∃ dir time, e.mark = .used dir time ∧ time + 1000 * s.params.passbackInterval ≤ s.instant) → mark = .none) ∧
      ((¬ ∃ dir time, e.mark = .used dir time ∧ time + 1000 * s.params.passbackInterval ≤ s.instant) →
        mark = e.mark) ∧
      (∀ u, e.uncertainty = some u → u.created + 1000 * s.params.uncertaintyLife ≤ s.instant → part = none) ∧
      ((∀ u, e.uncertainty = some u → ¬ u.created + 1000 * s.params.uncertaintyLife ≤ s.instant) →
        part = e.uncertainty) := by
  obtain ⟨mark, hused, hgone, hkept⟩ := s.expireUsed_mark e
  rw [hused]
  split
  next h =>
    obtain ⟨u, hu, hlife⟩ := (s.endedPart_isSome e).mp h
    exact ⟨mark, none, rfl, hgone, hkept, fun _ _ _ => rfl, fun hall => absurd hlife (hall u hu)⟩
  next h =>
    exact ⟨mark, e.uncertainty, rfl, hgone, hkept, fun u hu hlife =>
      absurd ((s.endedPart_isSome e).mpr ⟨u, hu, hlife⟩) h, fun _ => rfl⟩

/-- The fields of a block as the obligation lists them: the value written, and the value taken. -/
theorem readParameters_eq (m : List Host.Cell) (base : Nat) :
    let v := fun off n => Memory.readNat m (base + off) n
    let p := blockParameters m base
    readParameters m base =
      [(v 0 2, p.scanPeriod), (v 2 2, p.detectDelta), (v 4 2, p.gainTarget), (v 6 2, p.noiseThreshold),
        (v 8 2, p.responseWait), (v 10 2, p.dialogueWindow), (v 12 2, p.regrantGrace), (v 14 2, p.passbackInterval),
        (v 16 4, p.uncertaintyLife), (v 20 2, p.debounce), (v 22 2, p.creditLife), (v 24 2, p.maxPassage),
        (v 26 2, p.boost), (v 28 2, p.brake), (v 30 2, p.tonePitch), (v 32 4, p.increment.get .lane0),
        (v 36 4, p.increment.get .lane1), (v 40 4, p.increment.get .lane2), (v 44 4, p.increment.get .lane3),
        (v 48 1, min 1 (v 48 1)), (v 49 1, min 1 (v 49 1)), (v 50 1, min 1 (v 50 1)), (v 51 1, min 1 (v 51 1))] := by
  intro v p
  simp only [← clampTo_zero 1]
  rfl

/-- Settles O21. -/
theorem parametersAreBroughtIntoRange : Obligations.ParametersAreBroughtIntoRange := by
  refine ⟨fun s o hpin hs hhanded => ?_, fun s o base hpin hs htable ho hstage hdue => ?_⟩
  · obtain ⟨ho, -⟩ := id hhanded
    by_cases hbad : o.arg 0 4 % 2 = 1 ∨ Area.inFree ⟨o.arg 0 4, 52⟩ = false
    · refine ⟨s.answer o false .argument noData, exec_of_lanes hpin hs rfl ?_ rfl rfl rfl rfl, rfl,
        fun _ => State.answer_ended _ _ _ ho ho, fun heven hlow hhigh => ?_⟩
      · rw [State.withOrder_of_handed hhanded]
        exact if_pos hbad
      · exfalso
        have hfree : Area.inFree ⟨o.arg 0 4, 52⟩ = true := Area.inFree_iff.mpr ⟨hlow, hhigh⟩
        rw [hfree] at hbad
        simp [heven] at hbad
    · refine ⟨s.setStage (.readingParameters (o.arg 0 4)), exec_of_lanes hpin hs rfl ?_ rfl rfl rfl rfl, rfl,
        fun hrange => absurd ?_ hbad, fun _ _ _ => ?_⟩
      · rw [State.withOrder_of_handed hhanded]
        exact if_neg hbad
      · refine hrange.imp_right fun hout => Bool.eq_false_iff.mpr fun hfree => ?_
        obtain ⟨hlow, hhigh⟩ := Area.inFree_iff.mp hfree
        change 0x300 ≤ o.arg 0 4 at hlow
        change o.arg 0 4 + 52 ≤ 0x40000 at hhigh
        omega
      · change s.orders.service.map _ = _
        rw [ho]
        rfl
  · have hread := readParameters_eq s.mem base
    have hfind := State.parametersTaken_find (s := { s with timeBase := max s.timeBase (o.takenAt + 20) })
      (blockParameters s.mem base) htable
    have htaken := State.parametersTaken_eq { s with timeBase := max s.timeBase (o.takenAt + 20) }
      (blockParameters s.mem base)
    have heffect : State.onDue s (o.takenAt + usec 2) (fun s => s.takeParameters base) =
        (State.parametersTaken { s with timeBase := max s.timeBase (o.takenAt + 20) }
          (blockParameters s.mem base)).answerAt (max s.timeBase (o.takenAt + 20)) true .none
            (.bytes (clampSummary (readParameters s.mem base))) :=
      (State.onDue_of_reached _ hdue).trans (State.takeParameters_eq _ base)
    generalize State.parametersTaken { s with timeBase := max s.timeBase (o.takenAt + 20) }
      (blockParameters s.mem base) = u at hfind htaken heffect
    generalize u.screening.table = table at hfind htaken
    generalize u.journal.writeDue = writeDue at htaken
    subst htaken
    refine ⟨_, exec_of_lanes hpin hs rfl (Eq.trans (by simp only [ho, hstage]) heffect) rfl rfl rfl rfl, rfl,
      ⟨fun card hnone => ?_, fun card e he => ?_, ?_⟩, ?_, clampTo_eq _ (by decide), clampTo_eq _ (by decide),
      clampTo_eq _ (by decide), clampTo_zero _ _, waitChoice_cases _, clampTo_eq _ (by decide), clampTo_zero _ _,
      clampTo_zero _ _, clampTo_eq _ (by decide), clampTo_eq _ (by decide), clampTo_eq _ (by decide),
      clampTo_eq _ (by decide), clampTo_zero _ _, clampTo_zero _ _, clampTo_eq _ (by decide), fun l => ?_⟩
    · exact (hfind card).trans (by rw [hnone]; rfl)
    · obtain ⟨mark, part, hentry, hmark⟩ := State.expiredEntry_eq { s with params := blockParameters s.mem base } e
      exact ⟨mark, part, (hfind card).trans (by rw [he]; exact congrArg some hentry), hmark⟩
    · exact congrArg (fun f => s.journal.queue ++ s.screening.table.filterMap f) (State.endedPart_eq _)
    · have hlength : (readParameters s.mem base).length < 256 := by
        rw [readParameters, List.length_map]
        decide
      have hdata := (clampSummary_eq (readParameters s.mem base) hlength).trans (congrArg (fun fields =>
        [BitVec.ofNat 8 ((fields.map fun p : Nat × Nat => decide (p.1 ≠ p.2)).count true), 0#8,
          BitVec.ofNat 8 (((fields.map fun p : Nat × Nat => decide (p.1 ≠ p.2)).idxOf? true).getD 255)]) hread)
      refine ⟨Eq.trans ?_ (congrArg (fun bs =>
        some { o with stage := .ended true .none (.bytes bs) (max s.timeBase (o.takenAt + 20)) }) hdata), ho⟩
      change s.orders.service.map _ = _
      rw [ho]
      rfl
    · cases l <;> exact ⟨clampTo_eq _ (by decide), polarityOf_clamp _⟩

end Sys2Proof.Machine
end

section
/-! The journal (09): the ring, the consumed tally, the records. -/

namespace Sys2Proof.Machine

open Sys2Proof

/-! ## CONFIGURE JOURNAL (R175, R176) -/

/-- The first failing argument, in the order of R175. -/
theorem State.ringFailure_cases (s : State) (r : Ring) :
    (¬ (64 ≤ r.size ∧ r.size ≤ 4096) → s.ringFailure r = some 2) ∧
    (64 ≤ r.size ∧ r.size ≤ 4096 → ¬ (1 ≤ r.level ∧ r.level ≤ r.size) → s.ringFailure r = some 3) ∧
    (64 ≤ r.size ∧ r.size ≤ 4096 → 1 ≤ r.level ∧ r.level ≤ r.size → 10000 < r.delay → s.ringFailure r = some 4) ∧
    (64 ≤ r.size ∧ r.size ≤ 4096 → 1 ≤ r.level ∧ r.level ≤ r.size → r.delay ≤ 10000 →
      s.ringFailure r = if r.base % 32 = 0 ∧ 0x300 ≤ r.base ∧ r.base + 32 * r.size ≤ 0x40000 ∧
        { s.orders.held with ring := none }.overlaps ⟨r.base, 32 * r.size⟩ = false then none else some 1) := by
  unfold State.ringFailure
  refine ⟨fun h => if_pos (by omega), fun h h' => (if_neg (by omega)).trans (if_pos (by omega)), fun h h' h'' =>
    (if_neg (by omega)).trans ((if_neg (by omega)).trans (if_pos h'')), fun h h' h'' => ?_⟩
  rw [if_neg (by omega), if_neg (by omega), if_neg (by omega)]
  have hfree : r.area.inFree = false ↔ ¬ (0x300 ≤ r.base ∧ r.base + 32 * r.size ≤ 0x40000) := by
    rw [Bool.eq_false_iff, ne_eq, Area.inFree_iff]
    rfl
  have hfails : (r.base % 32 ≠ 0 ∨ r.area.inFree = false ∨
      { s.orders.held with ring := none }.overlaps r.area = true) ↔
      ¬ (r.base % 32 = 0 ∧ 0x300 ≤ r.base ∧ r.base + 32 * r.size ≤ 0x40000 ∧
        { s.orders.held with ring := none }.overlaps ⟨r.base, 32 * r.size⟩ = false) := by
    rw [hfree, ← Bool.not_eq_false, Ring.area]
    simp only [Classical.not_and_iff_not_or_not, or_assoc, ne_eq]
  by_cases hplace : r.base % 32 = 0 ∧ 0x300 ≤ r.base ∧ r.base + 32 * r.size ≤ 0x40000 ∧
      { s.orders.held with ring := none }.overlaps ⟨r.base, 32 * r.size⟩ = false
  · rw [if_pos hplace]
    exact if_neg fun h => hfails.mp h hplace
  · rw [if_neg hplace]
    exact if_pos (hfails.mpr hplace)

/-- The tallies are written zero. -/
theorem State.configure_reads {s : State} (r : Ring) (hmem : s.MemoryLegal) :
    Memory.readNat (s.configure r).mem 0x10 2 = 0 ∧ Memory.readNat (s.configure r).mem 0x12 2 = 0 := by
  have hm : (s.configure r).mem =
      Memory.writeBytes (Memory.writeBytes s.mem 0x10 (leBytes 2 0)) 0x12 (leBytes 2 0) :=
    Memory.writeBytes_append (leBytes 2 0) (leBytes 2 0) s.mem 0x10
  have hwritten := Memory.wf_writeBytes (leBytes 2 0) s.mem 0x10 hmem
  rw [hm]
  exact ⟨(Memory.readNat_writeBytes_disjoint (by simp [length_leBytes])).trans
    (Memory.readNat_writeBytes 2 0 hmem (by decide)), Memory.readNat_writeBytes 2 0 hwritten (by decide)⟩

theorem State.configure_kept (s : State) (r : Ring) : s.MemoryKept (s.configure r) (bytesFrom 0x10 4) :=
  fun _ _ ha => Memory.read_writeBytes_of_not (by rwa [length_leBytes])

/-- What CONFIGURE JOURNAL does with the order in service. -/
def State.configured (s : State) (o : OrderInService) : State :=
  match s.ringFailure o.ring with
  | some k => s.answer o false .argument (.bytes (leBytes 1 k))
  | none =>
    if s.journal.unconsumed ≠ 0 ∨ s.journal.reserved ≠ 0 then
      s.answer o false .busy (.bytes (leBytes 2 s.journal.unconsumed ++ leBytes 2 s.journal.reserved))
    else (s.configure o.ring).answer o true .none (.bytes (leBytes 4 o.ring.base ++ leBytes 2 o.ring.size))

theorem exec_configureJournal {s : State} {o : OrderInService} (hpin : s.sys.resetPin = false) (h : s.Handed o 3) :
    exec .configureJournal s = .next (State.conclude s (s.configured o)) :=
  exec_concluded hpin rfl (State.withOrder_of_handed h _)

theorem State.configured_eq (s : State) (o : OrderInService) :
    s.configured o = { s with
      journal := (s.configured o).journal, orders := (s.configured o).orders, mem := (s.configured o).mem } := by
  unfold State.configured
  split
  · rfl
  · split <;> rfl

/-- An order that is answered and does nothing else ends, and no byte of the memory but the shown ones changes. -/
theorem State.conclude_answer {s : State} {o : OrderInService} (ho : s.orders.service = some o) (done : Bool)
    (code : OrderCode) (data : ResultData) :
    (State.conclude s (s.answer o done code data)).journal = s.journal ∧
      (State.conclude s (s.answer o done code data)).orders.held = s.orders.held ∧
      s.MemoryKept (State.conclude s (s.answer o done code data)) noByte ∧
      s.EndedWith (State.conclude s (s.answer o done code data)) o done code data (o.takenAt + 20) := by
  refine ⟨State.conclude_journal _ _, ?_, State.MemoryKept.conclude (.of_mem _ rfl), ?_⟩
  · rw [State.conclude_eq_with]
    rfl
  · have hended := s.answer_ended done code data ho ho
    rw [State.conclude_eq_with]
    exact hended

theorem Journal.openRoom_of_fresh (j : Journal) (r : Ring) :
    Journal.openRoom { j with ring := some r, position := 0, written := 0#16, consumed := 0#16, notifyDue := none } =
      r.size - j.reserved := by
  simp only [Journal.openRoom, Journal.unconsumed, BitVec.sub_self, BitVec.toNat_ofNat, Nat.zero_mod, Nat.sub_zero]

/-- A ring that passes R175 while no record is unconsumed or reserved replaces the ring (R176). -/
theorem State.conclude_configure {s : State} {o : OrderInService} (ho : s.orders.service = some o)
    (hsize : 64 ≤ o.ring.size) (hreserved : s.journal.reserved = 0) :
    let t := State.conclude s ((s.configure o.ring).answer o true .none
      (.bytes (leBytes 4 o.ring.base ++ leBytes 2 o.ring.size)))
    t.journal = { s.journal with
        ring := some o.ring, position := 0, written := 0#16, consumed := 0#16, notifyDue := none } ∧
      t.orders.held = { s.orders.held with ring := some o.ring.area } ∧
      t.orders.ready = { s.orders.ready with journalConfigured := true } ∧
      (∀ l, (t.lane l).journalFull = false) ∧
      s.EndedWith t o true .none (.bytes (leBytes 4 o.ring.base ++ leBytes 2 o.ring.size)) (o.takenAt + 20) ∧
      (s.MemoryLegal → Memory.readNat t.mem 0x10 2 = 0 ∧ Memory.readNat t.mem 0x12 2 = 0) ∧
      s.MemoryKept t (bytesFrom 0x10 4) := by
  obtain ⟨lanes, m, hconclude, -, hkept, hnat, hfull⟩ := State.conclude_exists s
    ((s.configure o.ring).answer o true .none (.bytes (leBytes 4 o.ring.base ++ leBytes 2 o.ring.size)))
  rw [hconclude]
  refine ⟨rfl, rfl, rfl, fun l => (hfull l).2 ?_, State.answer_ended _ _ _ ho ho, fun hmem => ?_,
    fun a hshown ha => (hkept a hshown).trans (s.configure_kept o.ring a hshown ha)⟩
  · refine le_of_le_of_eq ?_ (s.journal.openRoom_of_fresh o.ring).symm
    omega
  · obtain ⟨hwritten, hconsumed⟩ := State.configure_reads o.ring hmem
    exact ⟨(hnat 0x10 2 (not_shown_header (by decide) (by decide))).trans hwritten,
      (hnat 0x12 2 (not_shown_header (by decide) (by decide))).trans hconsumed⟩

/-- Settles O22. -/
theorem configureJournalReplacesTheRing : Obligations.ConfigureJournalReplacesTheRing := by
  intro s o hpin hhanded base size level delay sizePasses levelPasses areaPasses busy
  obtain ⟨hsize, hlevel, hdelay, harea⟩ := s.ringFailure_cases o.ring
  have ho : s.orders.service = some o := by
    obtain ⟨ho, -⟩ := hhanded
    exact ho
  have hrefused : ∀ k, s.ringFailure o.ring = some k →
      s.configured o = s.answer o false .argument (.bytes (leBytes 1 k)) := fun k hk => by
    unfold State.configured
    rw [hk]
  refine ⟨_, exec_configureJournal hpin hhanded, ?_, .conclude ?_, ⟨fun h => ?_, fun h h' => ?_, fun h h' h'' => ?_,
    fun h h' h'' hplace => ?_⟩, fun h h' h'' hplace => ⟨fun hbusy => ?_, fun hfree => ?_⟩⟩
  · rw [State.conclude_eq_with, State.configured_eq]
  · rw [State.configured_eq]
  · rw [hrefused 2 (hsize h)]
    exact State.conclude_answer ho _ _ _
  · rw [hrefused 3 (hlevel h h')]
    exact State.conclude_answer ho _ _ _
  · rw [hrefused 4 (hdelay h h' h'')]
    exact State.conclude_answer ho _ _ _
  · rw [hrefused 1 ((harea h h' h'').trans (if_neg hplace))]
    exact State.conclude_answer ho _ _ _
  · have heq : s.configured o = s.answer o false .busy
        (.bytes (leBytes 2 s.journal.unconsumed ++ leBytes 2 s.journal.reserved)) := by
      unfold State.configured
      rw [(harea h h' h'').trans (if_pos hplace)]
      exact if_pos hbusy
    rw [heq]
    exact State.conclude_answer ho _ _ _
  · have heq : s.configured o = (s.configure o.ring).answer o true .none
        (.bytes (leBytes 4 o.ring.base ++ leBytes 2 o.ring.size)) := by
      unfold State.configured
      rw [(harea h h' h'').trans (if_pos hplace)]
      exact if_neg hfree
    rw [heq]
    exact State.conclude_configure ho h.1 (by simpa using fun hne => hfree (.inr hne))

end Sys2Proof.Machine
end

section
/-! The consumed tally (09 R182, R183). -/

namespace Sys2Proof.Machine

open Sys2Proof

theorem State.startNotify_of_pos (s : State) {delay : Nat} (h : 0 < delay) :
    s.startNotify delay = { s with journal := { s.journal with notifyDue := some (s.timeBase + msec delay) } } :=
  if_neg (Nat.ne_of_gt h)

/-- An accepted advance moves the tally, the notify timer and at most one cause. -/
theorem State.acceptTally_eq (s : State) (v : Word) :
    s.acceptTally v = { s with
      journal := { s.journal with consumed := v, notifyDue := (s.acceptTally v).journal.notifyDue }
      regs := (s.acceptTally v).regs } := by
  unfold State.acceptTally State.startNotify
  dsimp only
  split
  · rfl
  · split
    · rfl
    · split <;> rfl

/-- With nothing left unconsumed the notify timer is stopped, otherwise it runs anew (R185). -/
theorem State.acceptTally_ring {s : State} {v : Word} {r : Ring} (hring : s.journal.ring = some r) :
    ((s.acceptTally v).journal.unconsumed = 0 →
      (s.acceptTally v).journal.notifyDue = none ∧ (s.acceptTally v).regs = s.regs) ∧
    ((s.acceptTally v).journal.unconsumed ≠ 0 → 0 < r.delay →
      (s.acceptTally v).journal.notifyDue = some (s.timeBase + 10000 * r.delay) ∧ (s.acceptTally v).regs = s.regs) := by
  have hcount : (s.acceptTally v).journal.unconsumed = Journal.unconsumed { s.journal with consumed := v } := by
    rw [State.acceptTally_eq]
    rfl
  rw [hcount]
  refine ⟨fun hnone => ?_, fun hsome hdelay => ?_⟩
  · have heq : s.acceptTally v = { s with journal := { s.journal with consumed := v, notifyDue := none } } := by
      simp only [State.acceptTally, hring]
      exact if_pos (hring ▸ hnone)
    exact heq ▸ ⟨rfl, rfl⟩
  · have heq : s.acceptTally v = { s with
        journal := { s.journal with consumed := v, notifyDue := some (s.timeBase + msec r.delay) } } := by
      simp only [State.acceptTally, hring]
      exact (if_neg (hring ▸ hsome)).trans (State.startNotify_of_pos _ hdelay)
    rw [heq]
    exact ⟨rfl, rfl⟩

/-- A value that is not accepted is written back with the tally that stands, and its address is recorded (R183). -/
theorem State.writeBack_reads {s : State} (hmem : s.MemoryLegal) (v : Word) :
    Memory.readNat ((s.writeMem 0x12 (leBytes 2 v.toNat)).recordHeld 0x12).mem 0x12 2 = v.toNat ∧
      Memory.readNat ((s.writeMem 0x12 (leBytes 2 v.toNat)).recordHeld 0x12).mem 0x14 4 = 0x12 ∧
      s.MemoryKept ((s.writeMem 0x12 (leBytes 2 v.toNat)).recordHeld 0x12) (bytesFrom 0x12 6) := by
  have hword := Memory.wf_writeBytes (leBytes 2 v.toNat) s.mem 0x12 hmem
  rw [State.MemoryKept, State.recordHeld_mem, State.writeMem_mem]
  refine ⟨?_, ?_, fun a _ ha => ?_⟩
  · rw [Memory.readNat_writeBytes_disjoint (by simp [length_leBytes]), Memory.readNat_writeBytes 2 _ hmem (by decide)]
    exact Nat.mod_eq_of_lt v.isLt
  · exact Memory.readNat_writeBytes 4 _ hword (by decide)
  · unfold bytesFrom at ha
    rw [Memory.read_writeBytes_of_not (by simp only [bytesFrom, length_leBytes]; omega),
      Memory.read_writeBytes_of_not (by simp only [bytesFrom, length_leBytes]; omega)]

/-- Settles O23. -/
theorem consumedTallyIsJudged : Obligations.ConsumedTallyIsJudged := by
  intro s hpin hmem htaken v accepted
  obtain ⟨w, hw⟩ : ∃ w : State,
    w = { s with orders := { s.orders with tallyEvents := s.orders.tallyEvents - 1 } } := ⟨_, rfl⟩
  have hexec : ∀ {u : State}, w.judgeTally = u → exec .consumedTallyEvent s = .next (State.conclude s u) := fun hu =>
    exec_concluded hpin rfl ((if_neg (Nat.ne_of_gt htaken)).trans (hw ▸ hu))
  by_cases haccepted : accepted
  · have heq : w.judgeTally = w.acceptTally v := by
      subst hw
      exact if_pos haccepted
    obtain ⟨lanes, m, hconclude, hlanes, hkept, -, hfull⟩ := State.conclude_exists s (w.acceptTally v)
    have hshape := w.acceptTally_eq v
    have hring : w.journal.ring = s.journal.ring := by rw [hw]
    have htime : w.timeBase = s.timeBase := by rw [hw]
    have hregs : w.regs = s.regs := by rw [hw]
    refine ⟨_, (hexec heq).trans (congrArg _ hconclude), ?_, fun l => ?_, ?_, fun _ =>
      ⟨?_, ?_, fun a hshown _ => (hkept a hshown).trans ?_, fun r hr hnone => ?_, fun r hr hsome hdelay => ?_,
        fun hroom l => (hfull l).2 hroom⟩, fun hnot => absurd haccepted hnot⟩
    · rw [hshape, hw]
    · have hconcluded := hlanes l
      rwa [hshape, hw] at hconcluded
    · change (w.acceptTally v).journal = _
      rw [hshape, hw]
    · change (w.acceptTally v).journal.consumed = v
      rw [hshape]
    · change (w.acceptTally v).sys = _
      rw [hshape, hw]
    · rw [hshape, hw]
    · obtain ⟨hstopped, -⟩ := State.acceptTally_ring (v := v) (hring.trans hr)
      exact hregs ▸ hstopped hnone
    · obtain ⟨-, hrunning⟩ := State.acceptTally_ring (v := v) (hring.trans hr)
      exact htime ▸ hregs ▸ hrunning hsome hdelay
  · have heq : w.judgeTally = (w.writeMem 0x12 (leBytes 2 s.journal.consumed.toNat)).recordHeld 0x12 := by
      subst hw
      exact if_neg haccepted
    obtain ⟨lanes, m, hconclude, hlanes, hkept, hnat, -⟩ := State.conclude_exists s
      ((w.writeMem 0x12 (leBytes 2 s.journal.consumed.toNat)).recordHeld 0x12)
    obtain ⟨hback, haddress, hbytes⟩ := State.writeBack_reads (s := w) (by rwa [hw]) s.journal.consumed
    refine ⟨_, (hexec heq).trans (congrArg _ hconclude), ?_, ?_, ?_, fun hyes => absurd hyes haccepted, fun _ =>
      ⟨?_, ?_, ?_, (hnat 0x12 2 (not_shown_header (by decide) (by decide))).trans hback,
        (hnat 0x14 4 (not_shown_header (by decide) (by decide))).trans haddress,
        fun a hshown ha => (hkept a hshown).trans ((hbytes a hshown ha).trans ?_)⟩⟩
    all_goals subst hw
    · rfl
    · exact hlanes
    · rfl
    · rfl
    · rfl
    · rfl
    · rfl

end Sys2Proof.Machine
end

section
/-! The records of the journal (09 R177, R184, R185). -/

namespace Sys2Proof.Machine

open Sys2Proof

/-! ## A record is written -/

/-- The state when the request at the front is written, before what waited for its record goes on (R177, steps 1 to 4,
and the level test). -/
def State.recordPlaced (s : State) (q : RecordRequest) (rest : List RecordRequest) (r : Ring) : State :=
  let u := (s.placeRecord r q.record).useReservation q.holder
  State.notifyTests { u with journal := { u.journal with queue := rest, writeDue := u.timeBase + usec 2 } } r
    (decide (s.journal.unconsumed = 0))

theorem State.writeFront_eq {s : State} {q : RecordRequest} {rest : List RecordRequest} {r : Ring}
    (hqueue : s.journal.queue = q :: rest) (hring : s.journal.ring = some r) :
    s.writeFront = (s.recordPlaced q rest r).afterRecord q.waiter s.journal.written := by
  unfold State.writeFront
  rw [hqueue, hring]
  rfl

theorem exec_journalRecordWrite {s : State} {q : RecordRequest} {rest : List RecordRequest} {r : Ring}
    (hpin : s.sys.resetPin = false) (hqueue : s.journal.queue = q :: rest) (hring : s.journal.ring = some r)
    (hdue : s.journal.writeDue ≤ s.nextTick) (hwaiter : ∀ l, q.waiter ≠ .grant l) :
    exec .journalRecordWrite s = .next (State.conclude s
      ((State.recordPlaced { s with timeBase := max s.timeBase s.journal.writeDue } q rest r).afterRecord q.waiter
        s.journal.written)) := by
  have hgrants : s.journal.frontGrants = false := by
    unfold Journal.frontGrants
    rw [hqueue]
    dsimp only
    split
    next l hw => exact absurd hw (hwaiter l)
    next => rfl
  have heffect : s.writeDueFront =
      (State.recordPlaced { s with timeBase := max s.timeBase s.journal.writeDue } q rest r).afterRecord q.waiter
        s.journal.written := by
    rw [State.writeDueFront, hqueue, List.isEmpty_cons, if_neg Bool.false_ne_true, State.onDue_of_reached _ hdue]
    exact State.writeFront_eq hqueue hring
  change execJournalRecordWrite s = _
  rw [execJournalRecordWrite_eq, hgrants, Bool.false_and, if_neg Bool.false_ne_true, State.event_eq hpin, heffect]

/-! ## The state of a written record -/

section
variable (s : State) (q : RecordRequest) (rest : List RecordRequest) (r : Ring)

/-- The request's reservation falls by one, and so do its holder's places (R177, step 4). -/
theorem State.useReservation_exists (h : Holder) : ∃ lanes : PerLane Lane,
    s.useReservation h = { s with
      lanes := lanes, journal := { s.journal with reserved := s.journal.reserved - 1 } } ∧
    ∀ l, lanes.get l = if h = .dialogue l then usedPlace (s.lane l) else s.lane l := by
  refine ⟨(s.useReservation h).lanes, by cases h <;> rfl, fun l => ?_⟩
  cases h with
  | credit => rfl
  | part => rfl
  | dialogue k =>
    by_cases hk : k = l
    · subst hk
      rw [if_pos rfl]
      exact State.lane_updLane_self _ _ _
    · rw [if_neg fun hne => hk (Holder.dialogue.inj hne)]
      exact State.lane_updLane_ne _ _ (Ne.symm hk)

/-- The level test raises JOURNAL, and the first unconsumed record starts the notify timer (R184, R185). -/
def Notified (s : State) (r : Ring) (first : Prop) (unconsumed : Nat) (due : Option Nat) (regs : Registers) : Prop :=
  (r.level ≤ unconsumed → regs.attention &&& 0x0002#16 = 0x0002#16) ∧
  (unconsumed < r.level → (0 < r.delay ∨ ¬ first) → regs = s.regs) ∧
  (first → 0 < r.delay → due = some (s.timeBase + 10000 * r.delay)) ∧
  (¬ first → due = s.journal.notifyDue)

theorem State.notifyTests_exists (first : Bool) : ∃ (due : Option Nat) (regs : Registers),
    s.notifyTests r first = { s with journal := { s.journal with notifyDue := due }, regs := regs } ∧
    Notified s r (first = true) s.journal.unconsumed due regs := by
  have hstart : ∃ (due : Option Nat) (regs : Registers),
      (if first then s.startNotify r.delay else s) =
        { s with journal := { s.journal with notifyDue := due }, regs := regs } ∧
      ((0 < r.delay ∨ ¬ first = true) → regs = s.regs) ∧
      (first = true → 0 < r.delay → due = some (s.timeBase + 10000 * r.delay)) ∧
      (¬ first = true → due = s.journal.notifyDue) := by
    cases first with
    | false => exact ⟨s.journal.notifyDue, s.regs, rfl, fun _ => rfl, nofun, fun _ => rfl⟩
    | true =>
      rcases Nat.eq_zero_or_pos r.delay with hzero | hpos
      · refine ⟨none, (s.raise .journal).regs, (if_pos rfl).trans (if_pos hzero), ?_, fun _ hpos => ?_, nofun⟩
        · rintro (hpos | hnot)
          · omega
          · exact absurd rfl hnot
        · omega
      · exact ⟨_, s.regs, s.startNotify_of_pos hpos, fun _ => rfl, fun _ _ => rfl, fun hnot => absurd rfl hnot⟩
  obtain ⟨due, regs, heq, hregs, hdue, hkept⟩ := hstart
  unfold State.notifyTests Notified
  dsimp only
  rw [heq]
  by_cases hlevel : r.level ≤ s.journal.unconsumed
  · refine ⟨due, { regs with attention := regs.attention ||| 0x0002#16 }, if_pos hlevel, fun _ => ?_,
      fun hlt => absurd hlevel (Nat.not_le_of_lt hlt), hdue, hkept⟩
    exact BitVec.eq_of_getLsbD_eq fun i _ => by
      rw [BitVec.getLsbD_and, BitVec.getLsbD_or]
      exact (by decide : ∀ a b : Bool, ((a || b) && b) = b) _ _
  · exact ⟨due, regs, if_neg hlevel, fun h => absurd h hlevel, fun _ => hregs, hdue, hkept⟩

theorem State.writeRecord_eq (record : Record) :
    s.writeRecord r record = { s with mem := (s.writeRecord r record).mem } := by
  unfold State.writeRecord
  generalize record.bytes s.journal.written = bs
  generalize leBytes 2 _ = cs
  rfl

theorem State.placeRecord_fields (record : Record) :
    s.placeRecord r record = { s with
      journal := { s.journal with
        position := if s.journal.position + 1 < r.size then s.journal.position + 1 else 0
        written := s.journal.written + 1#16 }
      mem := (s.writeRecord r record).mem } := by
  rw [State.placeRecord_eq]
  generalize hw : s.writeRecord r record = w
  rw [State.writeRecord_eq] at hw
  subst hw
  rfl
theorem State.recordPlaced_exists : ∃ (lanes : PerLane Lane) (due : Option Nat) (regs : Registers),
    s.recordPlaced q rest r = { s with
      lanes := lanes
      journal := { s.journal with
        position := if s.journal.position + 1 < r.size then s.journal.position + 1 else 0
        written := s.journal.written + 1#16
        reserved := s.journal.reserved - 1
        notifyDue := due
        queue := rest
        writeDue := s.timeBase + usec 2 }
      regs := regs
      mem := (s.writeRecord r q.record).mem } ∧
    (∀ l, lanes.get l = if q.holder = .dialogue l then usedPlace (s.lane l) else s.lane l) ∧
    Notified s r (s.journal.unconsumed = 0) (Journal.unconsumed { s.journal with written := s.journal.written + 1#16 })
      due regs := by
  have hplaced := s.placeRecord_fields r q.record
  obtain ⟨lanes, hreserved, hlanes⟩ := State.useReservation_exists (s.placeRecord r q.record) q.holder
  unfold State.recordPlaced
  rw [hreserved]
  rw [hplaced] at hlanes ⊢
  generalize (s.writeRecord r q.record).mem = m at hlanes ⊢
  obtain ⟨due, regs, htests, hnotified⟩ := State.notifyTests_exists
    { s with
      lanes := lanes
      journal := { s.journal with
        position := if s.journal.position + 1 < r.size then s.journal.position + 1 else 0
        written := s.journal.written + 1#16
        reserved := s.journal.reserved - 1
        queue := rest
        writeDue := s.timeBase + usec 2 }
      mem := m } r (decide (s.journal.unconsumed = 0))
  refine ⟨lanes, due, regs, ?_, hlanes, ?_⟩
  · exact htests
  · unfold Notified Journal.unconsumed at *
    rw [decide_eq_true_iff] at hnotified
    exact hnotified

/-- The place at the write position holds the record, and the header's word the tally (R177). -/
theorem State.writeRecord_reads (hmem : s.MemoryLegal) (hbase : 0x300 ≤ r.base)
    (hend : r.base + 32 * s.journal.position + 32 ≤ 0x40000) :
    Memory.readBytes (s.writeRecord r q.record).mem (r.base + 32 * s.journal.position) 32 =
        q.record.bytes s.journal.written ∧
      Memory.readNat (s.writeRecord r q.record).mem 0x10 2 = (s.journal.written + 1#16).toNat ∧
      ∀ a, ¬ (bytesFrom (r.base + 32 * s.journal.position) 32 a ∨ bytesFrom 0x10 2 a) →
        Memory.read (s.writeRecord r q.record).mem a = Memory.read s.mem a := by
  have hlength := q.record.length_bytes s.journal.written
  have hwf := Memory.wf_writeBytes (q.record.bytes s.journal.written) s.mem (r.base + 32 * s.journal.position) hmem
  rw [State.writeRecord, State.writeMem_mem, State.writeMem_mem]
  refine ⟨?_, ?_, fun a ha => ?_⟩
  · have hread := Memory.readBytes_writeBytes (q.record.bytes s.journal.written) s.mem
      (r.base + 32 * s.journal.position) hmem (by rwa [hlength])
    rw [hlength] at hread
    rw [Memory.readBytes_writeBytes_disjoint (by rw [length_leBytes]; omega), hread]
  · rw [Memory.readNat_writeBytes 2 _ hwf (by decide)]
    exact Nat.mod_eq_of_lt (s.journal.written + 1#16).isLt
  · rw [not_or] at ha
    obtain ⟨hplace, htally⟩ := ha
    rw [Memory.read_writeBytes_of_not (by rwa [length_leBytes]), Memory.read_writeBytes_of_not (by rwa [hlength])]

end

/-- What follows a written record changes neither the rest of the journal nor the memory. -/
theorem recordWritten_of {s u : State} {q : RecordRequest} {rest : List RecordRequest} {r : Ring} {n : Nat}
    {due : Option Nat} (hmem : s.MemoryLegal) (hring : s.journal.ring = some r) (hfree : ringInFree s)
    (htime : u.timeBase = max s.timeBase s.journal.writeDue)
    (hjournal : u.journal = { s.journal with
      position := if s.journal.position + 1 < r.size then s.journal.position + 1 else 0
      written := s.journal.written + 1#16
      reserved := n
      notifyDue := due
      queue := rest
      writeDue := u.timeBase + usec 2 })
    (hwritten : u.mem = (s.writeRecord r q.record).mem) :
    recordWritten s (State.conclude s u) q rest r := by
  obtain ⟨hbase, hend, hposition⟩ := hfree r hring
  obtain ⟨hplace, htally, hkept⟩ := State.writeRecord_reads s q r hmem hbase (by omega)
  obtain ⟨lanes, m, hconclude, -, hbytes, hnat, -⟩ := State.conclude_exists s u
  have hadvanced : (if s.journal.position + 1 < r.size then s.journal.position + 1 else 0) =
      if s.journal.position + 1 = r.size then 0 else s.journal.position + 1 := by
    split <;> split <;> omega
  rw [hconclude]
  unfold recordWritten
  dsimp only
  rw [hjournal]
  refine ⟨htime, rfl, hadvanced, rfl, rfl, rfl, rfl, ?_, ?_, fun a hshown ha => ?_⟩
  · rw [← hplace, ← hwritten]
    exact Memory.readBytes_congr 32 _ fun b hb => hbytes b (not_shown_above (by omega) b hb)
  · rw [← htally, ← hwritten]
    exact hnat 0x10 2 (not_shown_header (by decide) (by decide))
  · rw [hbytes a hshown, hwritten]
    exact hkept a ha

/-! ## The rest of RELEASE -/

section
variable (p : Parameters) (tb : Nat) (now : Int) (outcome : ResultCode) (byAbort : Bool) (x : Lane)

/-- What the end of RELEASE leaves of a lane, apart from its display and tone. -/
theorem Lane.released_fields :
    (x.released p tb now outcome byAbort).lastResult = outcome ∧
      (x.released p tb now outcome byAbort).inProgress = false ∧
      (x.released p tb now outcome byAbort).field = x.field ∧
      (x.field = .on → (x.released p tb now outcome byAbort).watch = some ⟨0, some (now + 20), false⟩ ∧
        (x.released p tb now outcome byAbort).link = .idle) := by
  have hshown : ∀ y : Lane, (y.showOutcome p tb outcome byAbort).lastResult = y.lastResult ∧
      (y.showOutcome p tb outcome byAbort).inProgress = y.inProgress ∧
      (y.showOutcome p tb outcome byAbort).field = y.field := fun y => by
    unfold Lane.showOutcome
    split
    · exact ⟨rfl, rfl, rfl⟩
    · split <;> exact ⟨rfl, rfl, rfl⟩
  obtain ⟨hresult, hprogress, hfield⟩ := hshown
    { x with lastResult := outcome, rewritten := 6 :: x.rewritten, inProgress := false, dialogue := none }
  unfold Lane.released Lane.startWatch
  split
  next h => exact ⟨hresult, hprogress, hfield, fun _ => ⟨rfl, rfl⟩⟩
  next h => exact ⟨hresult, hprogress, hfield, fun hon => absurd (hfield.trans hon) h⟩

/-- What RELEASE shows of an outcome (03 R62). -/
theorem Lane.released_shown :
    (byAbort = true → (x.released p tb now outcome byAbort).tone = x.tone ∧
      (x.released p tb now outcome byAbort).timedDisplay = x.timedDisplay) ∧
    (byAbort = false →
      (outcome = .accept ∨ outcome = .regrant →
        (x.released p tb now outcome byAbort).tone = some ⟨.accept, p.tonePitch, tb + 10000 * 150⟩ ∧
        (x.released p tb now outcome byAbort).timedDisplay = x.timedDisplay) ∧
      (outcome = .uncertain →
        (x.released p tb now outcome byAbort).tone = some ⟨.refuse, p.tonePitch, tb + 10000 * 400⟩ ∧
        (x.released p tb now outcome byAbort).timedDisplay = some ⟨.wait, tb + 20000000⟩) ∧
      (outcome ≠ .accept → outcome ≠ .regrant → outcome ≠ .uncertain →
        (x.released p tb now outcome byAbort).tone = some ⟨.refuse, p.tonePitch, tb + 10000 * 400⟩ ∧
        (x.released p tb now outcome byAbort).timedDisplay = some ⟨.cross, tb + 15000000⟩)) := by
  have hwatch : ∀ y : Lane, (y.startWatch now).tone = y.tone ∧ (y.startWatch now).timedDisplay = y.timedDisplay :=
    fun y => by
      unfold Lane.startWatch
      split <;> exact ⟨rfl, rfl⟩
  obtain ⟨htone, hdisplay⟩ := hwatch (Lane.showOutcome p tb outcome byAbort
    { x with lastResult := outcome, rewritten := 6 :: x.rewritten, inProgress := false, dialogue := none })
  unfold Lane.released
  rw [htone, hdisplay]
  cases byAbort with
  | true => exact ⟨fun _ => ⟨rfl, rfl⟩, nofun⟩
  | false =>
    refine ⟨nofun, fun _ => ?_⟩
    cases outcome with
    | accept => exact ⟨fun _ => ⟨rfl, rfl⟩, nofun, fun h => absurd rfl h⟩
    | regrant => exact ⟨fun _ => ⟨rfl, rfl⟩, nofun, fun _ h => absurd rfl h⟩
    | uncertain => exact ⟨fun h => absurd h (by decide), fun _ => ⟨rfl, rfl⟩, fun _ _ h => absurd rfl h⟩
    | _ => exact ⟨fun h => absurd h (by decide), nofun, fun _ _ _ => ⟨rfl, rfl⟩⟩

end

theorem outcomeShown_of {s t : State} {l : LaneId} {d : Dialogue} {code : ResultCode} {tb : Nat} {now : Int} {x : Lane}
    (htime : t.timeBase = tb) (hsilent : x.tone = (s.lane l).tone)
    (hsymbol : x.timedDisplay = (s.lane l).timedDisplay)
    (htone : (t.lane l).tone = (x.released s.params tb now code d.byAbort).tone)
    (hdisplay : (t.lane l).timedDisplay = (x.released s.params tb now code d.byAbort).timedDisplay) :
    outcomeShown s t l d code := by
  unfold outcomeShown
  dsimp only
  rw [htone, hdisplay, htime, ← hsilent, ← hsymbol]
  exact Lane.released_shown _ _ _ _ _ _

/-- The table of a dialogue that lets its claim go (R57). -/
theorem Dialogue.findSighting_dropClaim (d : Dialogue) (t : List Sighting) :
    (∀ card, card ≠ d.card → findSighting (d.dropClaim t) card = findSighting t card) ∧
    (∀ e, findSighting t d.card = some e →
      findSighting (d.dropClaim t) d.card = some { e with claim := if d.claimHeld then none else e.claim }) := by
  unfold Dialogue.dropClaim
  split
  · refine ⟨fun card hne => findSighting_changeSighting_ne _ hne t, fun e he => ?_⟩
    rw [findSighting_changeSighting_self, he]
    rfl
  · exact ⟨fun _ _ => rfl, fun e he => he⟩

/-! ## The statement -/

/-- The state of a record that is placed, with what else the lanes and causes then show. -/
def State.recorded (s : State) (rest : List RecordRequest) (r : Ring) (lanes : PerLane Lane) (due : Option Nat)
    (regs : Registers) (m : List Host.Cell) : State :=
  { s with
    timeBase := max s.timeBase s.journal.writeDue
    lanes := lanes
    journal := { s.journal with
      position := if s.journal.position + 1 < r.size then s.journal.position + 1 else 0
      written := s.journal.written + 1#16
      reserved := s.journal.reserved - 1
      notifyDue := due
      queue := rest
      writeDue := max s.timeBase s.journal.writeDue + usec 2 }
    regs := regs
    mem := m }

theorem State.recorded_exists (s : State) (q : RecordRequest) (rest : List RecordRequest) (r : Ring) :
    ∃ (lanes : PerLane Lane) (due : Option Nat) (regs : Registers) (m : List Host.Cell),
      State.recordPlaced { s with timeBase := max s.timeBase s.journal.writeDue } q rest r =
        s.recorded rest r lanes due regs m ∧
      m = (s.writeRecord r q.record).mem ∧
      (∀ l, lanes.get l = if q.holder = .dialogue l then usedPlace (s.lane l) else s.lane l) ∧
      Notified { s with timeBase := max s.timeBase s.journal.writeDue } r (s.journal.unconsumed = 0)
        (Journal.unconsumed { s.journal with written := s.journal.written + 1#16 }) due regs := by
  obtain ⟨lanes, due, regs, hplaced, hlanes, hnotified⟩ :=
    State.recordPlaced_exists { s with timeBase := max s.timeBase s.journal.writeDue } q rest r
  have hsame : (State.writeRecord { s with timeBase := max s.timeBase s.journal.writeDue } r q.record).mem =
      (s.writeRecord r q.record).mem := by
    rw [State.writeRecord, State.writeRecord, State.writeMem_mem, State.writeMem_mem, State.writeMem_mem,
      State.writeMem_mem]
  rw [hsame] at hplaced
  exact ⟨lanes, due, regs, _, hplaced, rfl, hlanes, hnotified⟩

section
variable {s : State} {q : RecordRequest} {rest : List RecordRequest} {r : Ring} (hpin : s.sys.resetPin = false)
  (hmem : s.MemoryLegal) (hqueue : s.journal.queue = q :: rest) (hring : s.journal.ring = some r)
  (hdue : s.journal.writeDue ≤ s.nextTick) (hfree : ringInFree s)
include hpin hmem hqueue hring hdue hfree

/-- A record that no grant, release or order waits for. -/
theorem record_of_nobody (hwaiter : q.waiter = .nobody ∨ ∃ l, q.waiter = .screen l) :
    ∃ t, exec .journalRecordWrite s = .next t ∧ recordWritten s t q rest r ∧
      t = { s with timeBase := t.timeBase, lanes := t.lanes, journal := t.journal, regs := t.regs, mem := t.mem } ∧
      (∀ l, Lane.Concluded (if q.holder = .dialogue l then usedPlace (s.lane l) else s.lane l) (t.lane l)) ∧
      t.journal.reserved = s.journal.reserved - 1 ∧
      (r.level ≤ t.journal.unconsumed → t.regs.attention &&& 0x0002#16 = 0x0002#16) ∧
      (t.journal.unconsumed < r.level → (0 < r.delay ∨ s.journal.unconsumed ≠ 0) → t.regs = s.regs) ∧
      (s.journal.unconsumed = 0 → 0 < r.delay → t.journal.notifyDue = some (t.timeBase + 10000 * r.delay)) ∧
      (s.journal.unconsumed ≠ 0 → t.journal.notifyDue = s.journal.notifyDue) := by
  obtain ⟨lanes, due, regs, m, hplaced, hm, hlanes, hlevel, hquiet, hfirst, hlater⟩ := s.recorded_exists q rest r
  have hexec := exec_journalRecordWrite hpin hqueue hring hdue (by
    rcases hwaiter with h | ⟨l, h⟩ <;> simp [h])
  have hafter : ∀ u : State, u.afterRecord q.waiter s.journal.written = u := fun u => by
    rcases hwaiter with h | ⟨l, h⟩ <;> rw [h] <;> rfl
  rw [hafter, hplaced] at hexec
  have hwritten := recordWritten_of (u := s.recorded rest r lanes due regs m) hmem hring hfree rfl rfl hm
  obtain ⟨shown, m', hconclude, hconcluded, -⟩ := State.conclude_exists s (s.recorded rest r lanes due regs m)
  rw [hconclude] at hexec hwritten
  exact ⟨_, hexec, hwritten, rfl, fun l => hlanes l ▸ hconcluded l, rfl, hlevel, hquiet, hfirst, hlater⟩

/-- A record that a release waits for is followed by the rest of that RELEASE. -/
theorem record_of_release {l : LaneId} {d : Dialogue} {code : ResultCode} (hwaiter : q.waiter = .release l)
    (hholder : q.holder = .dialogue l) (hdialogue : (s.lane l).dialogue = some d) (houtcome : d.outcome = some code)
    (hpositive : 0 < d.reserved) (hreserved : d.reserved ≤ s.journal.reserved) :
    ∃ t, exec .journalRecordWrite s = .next t ∧ recordWritten s t q rest r ∧
      t = { s with
        timeBase := t.timeBase
        lanes := t.lanes
        screening := { s.screening with table := t.screening.table }
        journal := t.journal
        regs := t.regs
        mem := t.mem } ∧
      s.OtherLanesKept t l ∧
      t.journal.reserved + d.reserved = s.journal.reserved +
        (if code = .accept ∨ code = .regrant ∨ code = .uncertain then 1 else 0) ∧
      (∀ card, card ≠ d.card → findSighting t.screening.table card = findSighting s.screening.table card) ∧
      (∀ e, findSighting s.screening.table d.card = some e →
        findSighting t.screening.table d.card = some { e with claim := if d.claimHeld then none else e.claim }) ∧
      (t.lane l).dialogue = none ∧ (t.lane l).lastResult = code ∧ (t.lane l).inProgress = false ∧
      (t.lane l).credits = (s.lane l).credits ∧ (t.lane l).field = (s.lane l).field ∧ outcomeShown s t l d code ∧
      ((s.lane l).field = .on →
        (t.lane l).watch = some ⟨0, some (s.instant + 20), false⟩ ∧ (t.lane l).link = .idle) := by
  obtain ⟨lanes, due, regs, m, hplaced, hm, hlanes, -⟩ := s.recorded_exists q rest r
  obtain ⟨w, hw⟩ : ∃ w, w = s.recorded rest r lanes due regs m := ⟨_, rfl⟩
  have hlane : w.lane l = usedPlace (s.lane l) := by
    subst hw
    exact (hlanes l).trans (if_pos hholder)
  have hother : ∀ k, k ≠ l → w.lane k = s.lane k := fun k hk => by
    subst hw
    exact (hlanes k).trans (if_neg fun h => hk (Holder.dialogue.inj (h.symm.trans hholder)))
  have hplace : (w.lane l).dialogue = some { d with reserved := d.reserved - 1 } := by
    rw [hlane, usedPlace, hdialogue]
    rfl
  have hexec := exec_journalRecordWrite hpin hqueue hring hdue (by simp [hwaiter])
  rw [hwaiter, hplaced, ← hw, State.afterRecord, State.finishRelease_eq hplace] at hexec
  obtain ⟨u, hu⟩ : ∃ u, u = ((w.setTable (Dialogue.dropClaim { d with reserved := d.reserved - 1 }
      w.screening.table)).setReserved (w.journal.reserved - (d.reserved - 1) +
        (d.outcome.getD .none).keptPlaces)).updLane l
      (Lane.released w.params w.timeBase w.instant (d.outcome.getD .none) d.byAbort) := ⟨_, rfl⟩
  have hreleased : u.lane l =
      (usedPlace (s.lane l)).released s.params (max s.timeBase s.journal.writeDue) s.instant code d.byAbort := by
    rw [hu, State.lane_updLane_self, houtcome]
    change Lane.released w.params w.timeBase w.instant code d.byAbort (w.lane l) = _
    rw [hlane, hw]
    rfl
  have hkept : ∀ k, k ≠ l → u.lane k = s.lane k := fun k hk => by
    rw [hu, State.lane_updLane_ne _ _ hk]
    exact hother k hk
  rw [← hu] at hexec
  have hwritten : recordWritten s (State.conclude s u) q rest r := by
    subst hu hw
    exact recordWritten_of hmem hring hfree rfl rfl hm
  obtain ⟨shown, m', hconclude, hconcluded, -⟩ := State.conclude_exists s u
  have hshape : u = { s with
      timeBase := u.timeBase
      lanes := u.lanes
      screening := { s.screening with table := d.dropClaim s.screening.table }
      journal := u.journal
      regs := u.regs
      mem := u.mem } := by
    subst hu hw
    rfl
  have hroom : u.journal.reserved = s.journal.reserved - 1 - (d.reserved - 1) + code.keptPlaces := by
    rw [hu, houtcome, hw]
    rfl
  have htime : u.timeBase = max s.timeBase s.journal.writeDue := by
    subst hu hw
    rfl
  have htable : u.screening.table = d.dropClaim s.screening.table := by rw [hshape]
  have hplaces : code.keptPlaces = if code = .accept ∨ code = .regrant ∨ code = .uncertain then 1 else 0 := by
    cases code <;> rfl
  obtain ⟨hclaimOther, hclaim⟩ := d.findSighting_dropClaim s.screening.table
  obtain ⟨hresult, hprogress, hfield, hwatch⟩ := Lane.released_fields s.params (max s.timeBase s.journal.writeDue)
    s.instant code d.byAbort (usedPlace (s.lane l))
  have hl : shown.get l = _ := hconcluded l
  rw [hconclude] at hexec hwritten
  refine ⟨_, hexec, hwritten, ?_, fun k hk => ?_, ?_, ?_, ?_, ?_, ?_, ?_, ?_, ?_, ?_, ?_⟩
  · rw [hshape]
  · exact hkept k hk ▸ hconcluded k
  · change u.journal.reserved + d.reserved = _
    omega
  · exact htable ▸ hclaimOther
  · exact htable ▸ hclaim
  · exact (congrArg Lane.dialogue hl).trans (hreleased ▸ Lane.released_dialogue _ _ _ _ _ _)
  · exact (congrArg Lane.lastResult hl).trans (hreleased ▸ hresult)
  · exact (congrArg Lane.inProgress hl).trans (hreleased ▸ hprogress)
  · exact (congrArg Lane.credits hl).trans (hreleased ▸ Lane.released_credits _ _ _ _ _ _)
  · exact (congrArg Lane.field hl).trans (hreleased ▸ hfield)
  · refine outcomeShown_of (x := usedPlace (s.lane l)) (now := s.instant) htime rfl rfl
      ((congrArg Lane.tone hl).trans ?_) ((congrArg Lane.timedDisplay hl).trans ?_)
    · exact hreleased ▸ rfl
    · exact hreleased ▸ rfl
  · intro hon
    obtain ⟨hwatched, hlink⟩ := hwatch hon
    exact ⟨(congrArg Lane.watch hl).trans (hreleased ▸ hwatched),
      (congrArg Lane.link hl).trans (hreleased ▸ hlink)⟩

end

/-- Settles O24. -/
theorem recordIsWrittenAtTheWritePosition : Obligations.RecordIsWrittenAtTheWritePosition := by
  refine ⟨fun s q rest r hpin hmem hqueue hring hdue hfree => ⟨fun hwaiter => ?_,
    fun l d code hwaiter hholder hdialogue houtcome hpositive hreserved => ?_⟩, fun s due hpin hs hnotify hdue => ?_⟩
  · exact record_of_nobody hpin hmem hqueue hring hdue hfree hwaiter
  · exact record_of_release hpin hmem hqueue hring hdue hfree hwaiter hholder hdialogue houtcome hpositive hreserved
  · refine ⟨_, exec_of_lanes hpin hs rfl (Eq.trans ?_ (State.onDue_of_reached (fun s =>
      State.raise { s with journal := { s.journal with notifyDue := none } } .journal) hdue)) rfl rfl rfl rfl, rfl⟩
    rw [hnotify]

end Sys2Proof.Machine
end

section
/-! The Fare Unit's adoption of a table (05 R83 to R85), and the stages of an exit (05 R94 to R99, R103). -/

namespace Sys2Proof.Machine

open Sys2Proof

/-! ## The stages of an exit -/

/-- Settles O29 (`exitStages` names the model's function). -/
theorem exitStagesHold : Obligations.ExitStages := by
  refine ⟨fun m p hd hfare hopen hcounter hexpiry => ?_, fun m p r image hd hopen hlen hday hprice => ?_⟩
  · have hspent : purseCounter p.purse ≠ 65535 := Nat.ne_of_lt hcounter
    have hvalid : ¬ productExpiry p.product < p.transaction.serviceDay := Nat.not_lt.mpr hexpiry
    obtain ⟨-, -, -, -, hstages⟩ := directionCharge_chargedBy m p
    obtain ⟨daily, hdaily, hgive⟩ := hstages hfare hd hopen
    refine ⟨_, _, daily, hgive, fun hover => price_below_floor hspent hvalid (.inr hover), fun hover => ?_⟩
    have hfloor : ¬ belowFloor m p := by
      rintro (⟨hentry, -⟩ | hbelow)
      · exact absurd (hd.symm.trans hentry) (by decide)
      · exact Int.not_lt.mpr hover hbelow
    refine ⟨_, _, price_above_floor hspent hvalid hfloor, rfl, rfl, fun hlen hday => ?_⟩
    obtain ⟨-, -, -, -, hexit⟩ := directionImage_imagePriced hlen hcounter hfloor
    obtain ⟨-, -, -, -, -, -, -, hsum⟩ := hexit hd
    exact hsum hday daily hdaily
  · have hspent : purseCounter p.purse ≠ 65535 := fun h => by
      rw [price_spent h] at hprice
      contradiction
    have hvalid : ¬ productExpiry p.product < p.transaction.serviceDay := fun h => by
      rw [price_expired hspent h] at hprice
      contradiction
    have hfloor : ¬ belowFloor m p := fun h => by
      rw [price_below_floor hspent hvalid h] at hprice
      contradiction
    have hcounter : purseCounter p.purse < 65535 := by
      have hlt : purseCounter p.purse < 65536 := fieldAt_lt _ _ _
      omega
    rw [price_above_floor hspent hvalid hfloor] at hprice
    obtain ⟨-, rfl⟩ := PriceAnswer.priced.inj hprice
    have hcharge : directionCharge m p = exitCharge m p := by rw [directionCharge, hd]
    obtain ⟨sum, hsum⟩ : ∃ sum, (exitCharge m p).daily = some sum := by
      unfold exitCharge
      rw [purseOpen, decide_eq_true hopen]
      split
      · exact ⟨_, rfl⟩
      · exact ⟨_, rfl⟩
    obtain ⟨-, -, -, -, hexit⟩ := directionImage_imagePriced hlen hcounter hfloor
    obtain ⟨-, -, -, -, -, -, -, hdaily⟩ := hexit hd
    obtain ⟨hdailyDay, hdailySum⟩ := hdaily hday sum ((congrArg Charge.daily hcharge).trans hsum)
    exact ⟨hdailyDay, hdailySum ▸ exitCharge_daily_le hsum⟩

/-! ## The examination of a table (R84) -/

theorem badBand_eq_false {m : List Host.Cell} {t : Area} {d : DayType} {i : Nat} :
    badBand m t d i = false ↔ bandStart m t d i ≤ 1439 ∧
      if i = 0 then bandStart m t d i = 0 else bandStart m t d (i - 1) < bandStart m t d i := by
  unfold badBand
  split
  · simp
  · simp

/-- The starts of a day type's bands pass: the first is 0, none is above 1439, and each is above the one before. -/
theorem firstBadBand_eq_none {m : List Host.Cell} {t : Area} {d : DayType} (hcount : 1 ≤ bandCount m t d) :
    firstBadBand m t d = none ↔ bandStart m t d 0 = 0 ∧ (∀ i, i < bandCount m t d → bandStart m t d i ≤ 1439) ∧
      ∀ i, i + 1 < bandCount m t d → bandStart m t d i < bandStart m t d (i + 1) := by
  have hall : firstBadBand m t d = none ↔ ∀ i < bandCount m t d, badBand m t d i = false := by
    simp [firstBadBand]
  rw [hall]
  refine ⟨fun h => ⟨?_, fun i hi => ?_, fun i hi => ?_⟩, fun ⟨hzero, hstart, hrise⟩ i hi => badBand_eq_false.mpr ?_⟩
  · obtain ⟨-, hzero⟩ := badBand_eq_false.mp (h 0 hcount)
    exact hzero
  · obtain ⟨hstart, -⟩ := badBand_eq_false.mp (h i hi)
    exact hstart
  · obtain ⟨-, hrise⟩ := badBand_eq_false.mp (h (i + 1) hi)
    exact hrise
  · cases i with
    | zero => exact ⟨hstart 0 hi, hzero⟩
    | succ i => exact ⟨hstart _ hi, hrise i hi⟩

theorem countInRange_eq_true {m : List Host.Cell} {t : Area} {d : DayType} :
    countInRange m t d = true ↔ 1 ≤ bandCount m t d ∧ bandCount m t d ≤ 8 := by
  simp [countInRange]

/-- A day type's bands pass. -/
def bandsPass (m : List Host.Cell) (t : Area) (d : DayType) : Prop :=
  1 ≤ bandCount m t d ∧ bandCount m t d ≤ 8 ∧ bandStart m t d 0 = 0 ∧
    (∀ i, i < bandCount m t d → bandStart m t d i ≤ 1439) ∧
    ∀ i, i + 1 < bandCount m t d → bandStart m t d i < bandStart m t d (i + 1)

theorem bandsPass_iff {m : List Host.Cell} {t : Area} {d : DayType} :
    bandsPass m t d ↔ countInRange m t d = true ∧ firstBadBand m t d = none := by
  rw [countInRange_eq_true]
  refine ⟨fun ⟨hlow, hhigh, hstarts⟩ => ⟨⟨hlow, hhigh⟩, (firstBadBand_eq_none hlow).mpr hstarts⟩,
    fun ⟨⟨hlow, hhigh⟩, hbad⟩ => ⟨hlow, hhigh, (firstBadBand_eq_none hlow).mp hbad⟩⟩

theorem mem_roundingSteps {n : Nat} :
    n ∈ roundingSteps ↔ n = 1 ∨ n = 2 ∨ n = 5 ∨ n = 10 ∨ n = 20 ∨ n = 50 ∨ n = 100 := by
  simp [roundingSteps]

/-- A table passes exactly when every check does (R84). -/
theorem tableFailure_eq_none {m : List Host.Cell} {a : Area} :
    tableFailure m a = none ↔ 1 ≤ fareZones m a ∧ fareZones m a ≤ 16 ∧
      a.len = 128 + 2 * fareZones m a * fareZones m a ∧ (∀ d, bandsPass m a d) ∧
      roundingStep m a ∈ roundingSteps ∧ 1 ≤ stationZone m a ∧ stationZone m a ≤ fareZones m a := by
  have hdays : (∀ d, bandsPass m a d) ↔ bandsPass m a .workday ∧ bandsPass m a .restday :=
    ⟨fun h => ⟨h _, h _⟩, fun ⟨hwork, hrest⟩ d => by cases d <;> assumption⟩
  rw [hdays, bandsPass_iff, bandsPass_iff]
  unfold tableFailure
  dsimp only
  split
  next h => exact ⟨nofun, fun _ => by omega⟩
  next hzones =>
    split
    next h => exact ⟨nofun, fun ⟨_, _, hlen, _⟩ => absurd hlen h⟩
    next hlen =>
      split
      next h => exact ⟨nofun, fun ⟨_, _, _, ⟨⟨hcount, _⟩, _⟩, _⟩ => by simp [h] at hcount⟩
      next hwork =>
        split
        next h => exact ⟨nofun, fun ⟨_, _, _, ⟨_, hcount, _⟩, _⟩ => by simp [h] at hcount⟩
        next hrest =>
          split
          next h => exact ⟨nofun, fun ⟨_, _, _, ⟨⟨_, hbad⟩, _⟩, _⟩ => by simp [h] at hbad⟩
          next h => exact ⟨nofun, fun ⟨_, _, _, ⟨_, _, hbad⟩, _⟩ => by simp [h] at hbad⟩
          next hworkBands hrestBands =>
            split
            next h => exact ⟨nofun, fun ⟨_, _, _, _, hstep, _⟩ => absurd hstep h⟩
            next hstep =>
              split
              next h => exact ⟨nofun, fun ⟨_, _, _, _, _, hzone⟩ => by omega⟩
              next hzone =>
                refine ⟨fun _ => ⟨by omega, by omega, by omega, ⟨⟨?_, hworkBands⟩, ?_, hrestBands⟩, ?_, by omega⟩,
                  fun _ => rfl⟩
                · simpa using hwork
                · simpa using hrest
                · simpa using hstep

/-- Settles O25. -/
theorem adoptFareTableExaminesTheArea : Obligations.AdoptFareTableExaminesTheArea := by
  refine ⟨?_, fun m a => ⟨fun h => ?_, fun h h' h'' => ?_, ?_⟩⟩
  · intro s o hpin hs hhanded base len passes
    obtain ⟨ho, -⟩ := id hhanded
    have hpasses : s.fareAreaPasses o.fareArea = true ↔ passes := by
      simp only [State.fareAreaPasses, Bool.and_eq_true, decide_eq_true_iff, Area.inFree_iff, Bool.not_eq_true',
        and_assoc]
      rfl
    by_cases h : passes
    · refine ⟨_, exec_of_lanes hpin hs rfl ((State.withOrder_of_handed hhanded _).trans (if_pos (hpasses.mpr h)))
        rfl rfl rfl rfl, rfl, fun _ => ⟨rfl, ?_⟩, fun hnot => absurd h hnot⟩
      exact congrArg (fun service => { s.orders with
        held := { s.orders.held with fareSecond := some ⟨base, len⟩ }, service := service })
        (congrArg (Option.map fun o => { o with stage := .validatingTable s.timeBase }) ho)
    · refine ⟨_, exec_of_lanes hpin hs rfl ((State.withOrder_of_handed hhanded _).trans
        (if_neg fun hp => h (hpasses.mp hp))) rfl rfl rfl rfl, rfl, fun hyes => absurd hyes h,
        fun _ => ⟨rfl, rfl, State.answer_ended _ _ _ ho ho⟩⟩
  · exact if_pos h
  · exact (if_neg (by unfold fareZones; omega)).trans (if_pos h'')
  · rw [tableFailure_eq_none, mem_roundingSteps]
    rfl

/-! ## The switch (R85) -/

theorem State.releasePrevious_of_bound {s : State} {t : Area} (hactive : s.fare.active = some t)
    (h : s.fare.previous.any s.fare.bound = true) : s.releasePrevious = s := by
  unfold State.releasePrevious
  rw [hactive]
  exact if_pos h

/-- With no pricing bound to it the previous table is released and the adoption ends (R85). -/
theorem State.releasePrevious_of_free {s : State} {t : Area} (hactive : s.fare.active = some t)
    (h : s.fare.previous.any s.fare.bound = false) :
    s.releasePrevious = ((((s.setFare { s.fare with previous := none }).setHeld
      { s.orders.held with fareSecond := none }).setReady fun r => { r with fareAdopted := true }).answerAt s.timeBase
        true .none (adopted s.mem t)) := by
  unfold State.releasePrevious
  rw [hactive]
  exact if_neg (by simp [h])

/-- The result of a validation, at its end. -/
def State.validated (s : State) (a : Area) : State :=
  match tableFailure s.mem a with
  | none => s.switchTable a
  | some (field, day, index) =>
    ((s.setFare { s.fare with pending := none }).setHeld { s.orders.held with fareSecond := none }).answerAt s.timeBase
      false .tableInvalid (tableInvalid field day index)

theorem State.validated_of_failure {s : State} {a : Area} {field day index : Nat}
    (h : tableFailure s.mem a = some (field, day, index)) :
    s.validated a = ((s.setFare { s.fare with pending := none }).setHeld
      { s.orders.held with fareSecond := none }).answerAt s.timeBase false .tableInvalid
        (tableInvalid field day index) := by
  unfold State.validated
  rw [h]

theorem State.validated_of_pass {s : State} {a : Area} (h : tableFailure s.mem a = none) :
    s.validated a = s.switchTable a := by
  unfold State.validated
  rw [h]

/-- While a pricing is bound to the old table it stays the previous one (R85). -/
theorem State.switchTable_of_bound {s : State} (a : Area) (h : s.fare.active.any s.fare.bound = true) :
    s.switchTable a = { s with
      fare := { s.fare with active := some a, pending := none, previous := s.fare.active }
      orders := { s.orders with
        held := { s.orders.held with fare := some a, fareSecond := s.fare.active }
        service := s.orders.service.map fun o => { o with stage := .awaitingPricings } } } := by
  unfold State.switchTable
  exact State.releasePrevious_of_bound (t := a) rfl h

theorem State.switchTable_of_free {s : State} (a : Area) (h : s.fare.active.any s.fare.bound = false) :
    s.switchTable a = { s with
      fare := { s.fare with active := some a, pending := none, previous := none }
      orders := { s.orders with
        held := { s.orders.held with fare := some a, fareSecond := none }
        ready := { s.orders.ready with fareAdopted := true }
        service := (s.orders.service.map fun o => { o with stage := .awaitingPricings }).map fun o =>
          { o with stage := .ended true .none (adopted s.mem a) s.timeBase } } } := by
  unfold State.switchTable
  dsimp only
  rw [State.releasePrevious_of_free (t := a) rfl h]
  simp only [State.answerAt, State.setStage, State.setReady, State.setHeld, State.setFare]

/-- Settles O26. -/
theorem validationEndSwitchesOrRefuses : Obligations.ValidationEndSwitchesOrRefuses := by
  intro s o a start hpin hs ho hstage hpending hdue
  have heffect : ∀ {u : State}, State.validated { s with timeBase := max s.timeBase (start + a.len) } a = u →
      exec .fareTableValidationEnd s = .next (State.conclude s u) := fun hu => exec_concluded hpin rfl (by
    rw [ho, hpending]
    dsimp only
    rw [hstage]
    exact (State.onDue_of_reached _ hdue).trans hu)
  have hended : ∀ stage, s.orders.service.map (fun o => { o with stage := stage }) = some { o with stage := stage } :=
    fun stage => congrArg _ ho
  cases hfailure : tableFailure s.mem a with
  | some failure =>
    obtain ⟨field, day, index⟩ := failure
    obtain ⟨m, hconclude, hkept, -⟩ := State.conclude_readiness (u := State.answerAt ((State.setFare
      { s with timeBase := max s.timeBase (start + a.len) } { s.fare with pending := none }).setHeld
        { s.orders.held with fareSecond := none }) (max s.timeBase (start + a.len)) false .tableInvalid
          (tableInvalid field day index)) hs (.of_lanes rfl rfl rfl)
    refine ⟨_, (heffect (State.validated_of_failure hfailure)).trans (congrArg _ hconclude), rfl, fun _ => rfl,
      fun a hshown _ => hkept a hshown, fun _ _ _ h => ?_, nofun⟩
    obtain ⟨⟩ := h
    exact ⟨rfl, rfl, rfl, hended _, ho⟩
  | none =>
    cases hbound : s.fare.active.any s.fare.bound with
    | true =>
      have hswitch := (State.validated_of_pass (s := { s with timeBase := max s.timeBase (start + a.len) })
        hfailure).trans (State.switchTable_of_bound a hbound)
      obtain ⟨m, hconclude, hkept, -⟩ := State.conclude_readiness (u := { s with
        timeBase := max s.timeBase (start + a.len)
        fare := { s.fare with active := some a, pending := none, previous := s.fare.active }
        orders := { s.orders with
          held := { s.orders.held with fare := some a, fareSecond := s.fare.active }
          service := s.orders.service.map fun o => { o with stage := .awaitingPricings } } }) hs (.of_lanes rfl rfl rfl)
      refine ⟨_, (heffect hswitch).trans (congrArg _ hconclude), rfl, fun _ => rfl,
        fun a hshown _ => hkept a hshown, nofun,
        fun _ => ⟨rfl, rfl, rfl, rfl, fun hfree => ?_, fun old hold _ => ⟨hold, hold, hended _⟩⟩⟩
      obtain ⟨old, hold, hb⟩ : ∃ old, s.fare.active = some old ∧ s.fare.bound old = true := by
        simpa [Option.any_eq_true] using hbound
      exact absurd (hfree old hold) (by simp [hb])
    | false =>
      have hswitch := (State.validated_of_pass (s := { s with timeBase := max s.timeBase (start + a.len) })
        hfailure).trans (State.switchTable_of_free a hbound)
      obtain ⟨m, hconclude, hkept, -⟩ := State.conclude_readiness (u := { s with
        timeBase := max s.timeBase (start + a.len)
        fare := { s.fare with active := some a, pending := none, previous := none }
        orders := { s.orders with
          held := { s.orders.held with fare := some a, fareSecond := none }
          ready := { s.orders.ready with fareAdopted := true }
          service := (s.orders.service.map fun o => { o with stage := .awaitingPricings }).map fun o =>
            { o with stage := .ended true .none (adopted s.mem a) (max s.timeBase (start + a.len)) } } }) hs
              (.of_lanes rfl rfl rfl)
      refine ⟨_, (heffect hswitch).trans (congrArg _ hconclude), rfl, fun _ => rfl,
        fun a hshown _ => hkept a hshown, nofun,
        fun _ => ⟨rfl, rfl, rfl, rfl, fun _ => ⟨rfl, rfl, rfl, ?_, ho⟩, fun old hold hb => ?_⟩⟩
      · exact (congrArg (Option.map _) (hended _)).trans rfl
      · rw [hold, Option.any_some, hb] at hbound
        contradiction

end Sys2Proof.Machine
end

section
/-! The denylist's adoption (06 R114 to R116). -/

namespace Sys2Proof.Machine

open Sys2Proof

/-- Where a property holds of some number there is a first one it holds of. -/
theorem exists_first {p : Nat → Prop} (n : Nat) (h : p n) : ∃ i, p i ∧ ∀ j < i, ¬ p j := by
  induction n using Nat.strongRecOn with
  | ind n ih =>
    by_cases hless : ∃ j, j < n ∧ p j
    · obtain ⟨j, hj, hp⟩ := hless
      exact ih j hj hp
    · exact ⟨n, h, fun j hj hp => hless ⟨j, hj, hp⟩⟩

/-! ## The examination (R114) -/

theorem exec_adoptDenylist {s u : State} {o : OrderInService} (hpin : s.sys.resetPin = false) (hs : s.Settled)
    (h : s.Handed o 5)
    (heffect : (if 8192 < o.arg 4 2 then s.answer o false .listInvalid (listInvalid 1 0)
      else if o.arg 4 2 = 0 then (s.setLists s.screening.active (some o.denylist)).setStage .awaitingSwitch
      else if o.denylist.offset % 2 = 1 ∨ o.denylist.area.inFree = false ∨
          s.orders.held.overlaps o.denylist.area = true then
        s.answer o false .listInvalid (listInvalid 2 0)
      else
        ((s.setLists s.screening.active (some o.denylist)).setHeld
          { s.orders.held with denyPending := some o.denylist.area }).setStage (.scanningDenylist s.timeBase)) = u)
    (hlanes : u.lanes = s.lanes) (he : u.emergency = s.emergency) (hjournal : u.journal.openRoom = s.journal.openRoom)
    (hready : u.orders.ready = s.orders.ready) : exec .adoptDenylist s = .next u :=
  exec_of_lanes hpin hs rfl ((State.withOrder_of_handed h _).trans heffect) hlanes he hjournal hready

theorem denylistExamined (s : State) (o : OrderInService) (hpin : s.sys.resetPin = false) (hs : s.Settled)
    (hhanded : s.Handed o 5) :
    let base := o.arg 0 4
    let count := o.arg 4 2
    let passes := base % 2 = 0 ∧ 0x300 ≤ base ∧ base + 12 * count ≤ 0x40000 ∧
      s.orders.held.overlaps ⟨base, 12 * count⟩ = false
    ∃ t, exec .adoptDenylist s = .next t ∧ t = { s with screening := t.screening, orders := t.orders } ∧
      (8192 < count → t.screening = s.screening ∧ t.orders.held = s.orders.held ∧
        s.EndedWith t o false .listInvalid (.bytes [1#8, 0#8, 0#8, 0#8]) (o.takenAt + 20)) ∧
      (0 < count → count ≤ 8192 → ¬ passes → t.screening = s.screening ∧ t.orders.held = s.orders.held ∧
        s.EndedWith t o false .listInvalid (.bytes [2#8, 0#8, 0#8, 0#8]) (o.takenAt + 20)) ∧
      (count = 0 → t.screening = { s.screening with pending := some ⟨base, 0⟩ } ∧
        t.orders = { s.orders with service := some { o with stage := .awaitingSwitch } }) ∧
      (0 < count → count ≤ 8192 → passes → t.screening = { s.screening with pending := some ⟨base, count⟩ } ∧
        t.orders = { s.orders with
          held := { s.orders.held with denyPending := some ⟨base, 12 * count⟩ }
          service := some { o with stage := .scanningDenylist s.timeBase } }) := by
  intro base count passes
  obtain ⟨ho, -⟩ := id hhanded
  have hstage : ∀ stage, s.orders.service.map (fun o => { o with stage := stage }) = some { o with stage := stage } :=
    fun stage => congrArg _ ho
  have hfails : (o.denylist.offset % 2 = 1 ∨ o.denylist.area.inFree = false ∨
      s.orders.held.overlaps o.denylist.area = true) ↔ ¬ passes := by
    have hfree : o.denylist.area.inFree = false ↔ ¬ (0x300 ≤ base ∧ base + 12 * count ≤ 0x40000) := by
      rw [Bool.eq_false_iff, ne_eq, Area.inFree_iff]
      rfl
    have hodd : o.denylist.offset % 2 = 1 ↔ ¬ base % 2 = 0 := by
      change base % 2 = 1 ↔ _
      omega
    have hoverlap : s.orders.held.overlaps o.denylist.area = true ↔
        ¬ s.orders.held.overlaps ⟨base, 12 * count⟩ = false := Bool.not_eq_false _ ▸ Iff.rfl
    rw [hfree, hodd, hoverlap]
    simp only [passes, Classical.not_and_iff_not_or_not, or_assoc]
  by_cases hmany : 8192 < count
  · refine ⟨_, exec_adoptDenylist hpin hs hhanded (if_pos hmany) rfl rfl rfl rfl, rfl,
      fun _ => ⟨rfl, rfl, State.answer_ended _ _ _ ho ho⟩, fun _ h => absurd hmany (Nat.not_lt_of_le h),
      fun h => absurd hmany (by omega), fun _ h => absurd hmany (Nat.not_lt_of_le h)⟩
  by_cases hnone : count = 0
  · refine ⟨_, exec_adoptDenylist hpin hs hhanded ((if_neg hmany).trans (if_pos hnone)) rfl rfl rfl rfl, rfl,
      fun h => absurd h hmany, fun h => absurd hnone (Nat.ne_of_gt h), fun _ => ⟨?_, ?_⟩,
      fun h => absurd hnone (Nat.ne_of_gt h)⟩
    · exact congrArg (fun n => { s.screening with pending := some ⟨base, n⟩ }) hnone
    · exact congrArg (fun service => { s.orders with service := service }) (hstage _)
  by_cases hpasses : passes
  · refine ⟨_, exec_adoptDenylist hpin hs hhanded ((if_neg hmany).trans ((if_neg hnone).trans
      (if_neg fun h => hfails.mp h hpasses))) rfl rfl rfl rfl, rfl, fun h => absurd h hmany,
      fun _ _ h => absurd hpasses h, fun h => absurd h hnone, fun _ _ _ => ⟨rfl, ?_⟩⟩
    exact congrArg (fun service => { s.orders with
      held := { s.orders.held with denyPending := some ⟨base, 12 * count⟩ }, service := service }) (hstage _)
  · exact ⟨_, exec_adoptDenylist hpin hs hhanded ((if_neg hmany).trans ((if_neg hnone).trans
      (if_pos (hfails.mpr hpasses)))) rfl rfl rfl rfl, rfl, fun h => absurd h hmany,
      fun _ _ _ => ⟨rfl, rfl, State.answer_ended _ _ _ ho ho⟩, fun h => absurd h hnone,
      fun _ _ h => absurd h hpasses⟩

/-! ## The scan (R115) -/

theorem badEntry_eq {m : List Host.Cell} {offset i : Nat} :
    (entryFits m offset i → badEntry m offset i = none) ∧
    (¬ entryFits m offset i → badEntry m offset i =
      some (if (denyEntry m offset i).kind = 1 ∨ (denyEntry m offset i).kind = 2 then 4 else 3)) := by
  unfold badEntry entryFits
  dsimp only
  by_cases hkind : (denyEntry m offset i).kind = 1 ∨ (denyEntry m offset i).kind = 2
  · rw [if_neg (by omega), if_pos hkind]
    refine ⟨fun ⟨_, horder⟩ => if_neg ?_, fun h => if_pos ?_⟩
    · exact fun ⟨hi, hnot⟩ => horder.elim hi hnot
    · exact ⟨fun hi => h ⟨hkind, .inl hi⟩, fun hlt => h ⟨hkind, .inr hlt⟩⟩
  · refine ⟨fun ⟨h, _⟩ => absurd h hkind, fun _ => ?_⟩
    rw [if_pos (by omega), if_neg hkind]

theorem firstBadEntry_eq_none {m : List Host.Cell} {d : Denylist} (h : ∀ i < d.count, entryFits m d.offset i) :
    firstBadEntry m d = none := by
  unfold firstBadEntry
  rw [List.findSome?_eq_none_iff]
  intro i hi
  rw [badEntry_eq.1 (h i (List.mem_range.mp hi))]
  rfl

theorem firstBadEntry_eq_some {m : List Host.Cell} {d : Denylist} {i : Nat} (hi : i < d.count)
    (hfirst : ∀ j < i, entryFits m d.offset j) (hbad : ¬ entryFits m d.offset i) :
    firstBadEntry m d =
      some (if (denyEntry m d.offset i).kind = 1 ∨ (denyEntry m d.offset i).kind = 2 then 4 else 3, i) := by
  obtain ⟨n, hn⟩ := Nat.exists_eq_add_of_lt hi
  have hbefore : (List.range i).findSome? (fun i => (badEntry m d.offset i).map fun part => (part, i)) = none :=
    firstBadEntry_eq_none (d := ⟨d.offset, i⟩) hfirst
  unfold firstBadEntry
  rw [hn, Nat.add_assoc, List.range_add, List.findSome?_append, hbefore, List.range_succ_eq_map, List.map_cons,
    List.findSome?_cons, Nat.add_zero, badEntry_eq.2 hbad]
  rfl

/-- What the scan's end does (R115). -/
def State.scanResult (s : State) (bad : Option (Nat × Nat)) : State :=
  match bad with
  | none => s.setStage .awaitingSwitch
  | some (part, i) =>
    ((s.setLists s.screening.active none).setHeld { s.orders.held with denyPending := none }).answerAt s.timeBase
      false .listInvalid (listInvalid part i)

theorem exec_denylistScanEnd {s u : State} {o : OrderInService} {d : Denylist} {start : Nat}
    {bad : Option (Nat × Nat)} (hpin : s.sys.resetPin = false) (hs : s.Settled) (ho : s.orders.service = some o)
    (hstage : o.stage = .scanningDenylist start) (hpending : s.screening.pending = some d)
    (hbad : firstBadEntry s.mem d = bad) (hdue : start + scanTime d bad ≤ s.nextTick)
    (heffect : State.scanResult { s with timeBase := max s.timeBase (start + scanTime d bad) } bad = u)
    (hlanes : u.lanes = s.lanes) (he : u.emergency = s.emergency) (hjournal : u.journal.openRoom = s.journal.openRoom)
    (hready : u.orders.ready = s.orders.ready) : exec .denylistScanEnd s = .next u := by
  refine exec_of_lanes hpin hs rfl (Eq.trans ?_ heffect) hlanes he hjournal hready
  rw [ho, hpending]
  dsimp only
  rw [hstage]
  dsimp only
  subst hbad
  exact State.onDue_of_reached _ hdue

theorem denylistScanned (s : State) (o : OrderInService) (d : Denylist) (start : Nat) (hpin : s.sys.resetPin = false)
    (hs : s.Settled) (ho : s.orders.service = some o) (hstage : o.stage = .scanningDenylist start)
    (hpending : s.screening.pending = some d) (hdue : start + 5 * d.count ≤ s.nextTick) :
    ∃ t, exec .denylistScanEnd s = .next t ∧
      t = { s with timeBase := t.timeBase, screening := t.screening, orders := t.orders } ∧
      ((∀ i < d.count, entryFits s.mem d.offset i) →
        t.timeBase = max s.timeBase (start + 5 * d.count) ∧ t.screening = s.screening ∧
        t.orders = { s.orders with service := some { o with stage := .awaitingSwitch } }) ∧
      ∀ i < d.count, (∀ j < i, entryFits s.mem d.offset j) → ¬ entryFits s.mem d.offset i →
        t.timeBase = max s.timeBase (start + 5 * (i + 1)) ∧ t.screening = { s.screening with pending := none } ∧
        t.orders.held = { s.orders.held with denyPending := none } ∧
        s.EndedWith t o false .listInvalid
          (.bytes (leBytes 2
            (if (denyEntry s.mem d.offset i).kind = 1 ∨ (denyEntry s.mem d.offset i).kind = 2 then 4 else 3) ++
            leBytes 2 i)) t.timeBase := by
  have hended : ∀ stage, s.orders.service.map (fun o => { o with stage := stage }) = some { o with stage := stage } :=
    fun stage => congrArg _ ho
  by_cases hall : ∀ i < d.count, entryFits s.mem d.offset i
  · refine ⟨_, exec_denylistScanEnd hpin hs ho hstage hpending (firstBadEntry_eq_none hall) hdue rfl rfl rfl rfl rfl,
      rfl, fun _ => ⟨rfl, rfl, ?_⟩, fun i hi _ hbad => absurd (hall i hi) hbad⟩
    exact congrArg (fun service => { s.orders with service := service }) (hended _)
  · obtain ⟨n, hn⟩ := Classical.not_forall.mp hall
    obtain ⟨i, ⟨hi, hbad⟩, hbefore⟩ := exists_first (p := fun i => i < d.count ∧ ¬ entryFits s.mem d.offset i) n
      (Classical.not_imp.mp hn)
    have hfirst : ∀ j < i, entryFits s.mem d.offset j := fun j hj =>
      Classical.byContradiction fun hnot => hbefore j hj ⟨Nat.lt_trans hj hi, hnot⟩
    have honly : ∀ j < d.count, (∀ k < j, entryFits s.mem d.offset k) → ¬ entryFits s.mem d.offset j → j = i := by
      intro j _ hbefore hnot
      rcases Nat.lt_trichotomy i j with h | h | h
      · exact absurd (hbefore i h) hbad
      · exact h.symm
      · exact absurd (hfirst j h) hnot
    refine ⟨_, exec_denylistScanEnd hpin hs ho hstage hpending (firstBadEntry_eq_some hi hfirst hbad)
      (by simp only [scanTime]; omega) rfl rfl rfl rfl rfl, rfl, fun h => absurd (h i hi) hbad,
      fun j hj hbefore hnot => ?_⟩
    obtain rfl := honly j hj hbefore hnot
    exact ⟨rfl, rfl, rfl, hended _, ho⟩

/-! ## The switch (R116) -/

/-- A search makes at most as many probes as it is given. -/
theorem searchDeny_probes_le (m : List Host.Cell) (offset : Nat) (card : CardNumber) :
    ∀ fuel lo hi, (searchDeny m offset card fuel lo hi).1 ≤ fuel
  | 0, _, _ => Nat.le_refl 0
  | fuel + 1, lo, hi => by
    have hhigh := searchDeny_probes_le m offset card fuel ((lo + hi) / 2 + 1) hi
    have hlow := searchDeny_probes_le m offset card fuel lo ((lo + hi) / 2)
    unfold searchDeny
    dsimp only
    split
    · refine Nat.succ_le_succ ?_
      split
      · exact Nat.zero_le _
      · split
        · exact hhigh
        · exact hlow
    · exact Nat.zero_le _

theorem lookupDeny_probes_le (m : List Host.Cell) (list : Option Denylist) (card : CardNumber) :
    (lookupDeny m list card).1 ≤ 14 := by
  unfold lookupDeny
  split
  · exact Nat.zero_le _
  · exact searchDeny_probes_le _ _ _ _ _ _

/-- The end of a lookup that begins now on the active list. -/
def State.lookupEnd (s : State) (d : Dialogue) : Nat :=
  s.timeBase + usec (lookupDeny s.mem s.screening.active d.card).1

theorem State.setLane_lane (s : State) (l : LaneId) : s.setLane l (s.lane l) = s := by
  rw [State.setLane, State.lane, PerLane.set_get]

theorem State.startLookup_eq {s : State} {l : LaneId} {d : Dialogue} (h : (s.lane l).dialogue = some d) :
    s.startLookup l = s.updLane l fun x => { x with dialogue := x.dialogue.map fun e =>
      { e with outstanding := some (.lookup s.screening.active (s.lookupEnd d)) } } := by
  rw [State.startLookup, h, State.lookupEnd]
  dsimp only
  generalize (lookupDeny s.mem s.screening.active d.card).1 = probes
  rfl

/-- The lane with its waiting lookup begun on the active list. -/
def State.lookupResumed (s : State) (x : Lane) : Lane :=
  if x.waitsForList then
    { x with dialogue := x.dialogue.map fun d =>
        { d with outstanding := some (.lookup s.screening.active (s.lookupEnd d)) } }
  else x

theorem State.resumeLookup_eq (s : State) (l : LaneId) : s.resumeLookup l = s.updLane l s.lookupResumed := by
  unfold State.resumeLookup State.updLane State.lookupResumed
  split
  next h =>
    cases hd : (s.lane l).dialogue with
    | none =>
      rw [Lane.waitsForList, hd] at h
      contradiction
    | some d =>
      rw [State.startLookup_eq hd, State.updLane, hd, Option.map_some, Option.map_some]
  next => exact (s.setLane_lane l).symm

/-- After a lane's lookup the others begin theirs as before it. -/
theorem State.lookupResumed_updLane (s : State) (l : LaneId) (f : Lane → Lane) :
    (s.updLane l f).lookupResumed = s.lookupResumed := by
  funext x
  unfold State.lookupResumed State.lookupEnd
  simp only [State.updLane_mem, State.updLane_screening, State.updLane_timeBase]

/-- Every waiting lookup begins (R116). -/
def State.resumeLookups (s : State) : State :=
  (((s.resumeLookup .lane0).resumeLookup .lane1).resumeLookup .lane2).resumeLookup .lane3

theorem State.resumeLookups_eq (s : State) :
    s.resumeLookups = { s with lanes := ⟨s.lookupResumed s.lanes.l0, s.lookupResumed s.lanes.l1,
      s.lookupResumed s.lanes.l2, s.lookupResumed s.lanes.l3⟩ } := by
  unfold State.resumeLookups
  simp only [State.resumeLookup_eq, State.lookupResumed_updLane]
  generalize s.lookupResumed = f
  rfl

/-- A lane's lookup is begun, 14 probes long at most. -/
theorem State.lookupResumed_cases (s : State) (x : Lane) :
    x.waitsForList = false ∧ s.lookupResumed x = x ∨
      ∃ e due, x.dialogue = some e ∧ e.outstanding = some .lookupWaiting ∧ s.timeBase ≤ due ∧
        due ≤ s.timeBase + 140 ∧
        s.lookupResumed x =
          { x with dialogue := some { e with outstanding := some (.lookup s.screening.active due) } } := by
  unfold State.lookupResumed
  split
  next h =>
    refine .inr ?_
    cases hd : x.dialogue with
    | none =>
      rw [Lane.waitsForList, hd] at h
      contradiction
    | some d =>
      rw [Lane.waitsForList, hd, Option.any_some, decide_eq_true_iff] at h
      have hprobes := lookupDeny_probes_le s.mem s.screening.active d.card
      refine ⟨d, s.lookupEnd d, rfl, h, Nat.le_add_right _ _, ?_, rfl⟩
      unfold State.lookupEnd usec
      omega
  next h => exact .inl ⟨by simpa using h, rfl⟩

theorem State.lookupsInProgress_eq_false {s : State}
    (h : ∀ l e, (s.lane l).dialogue = some e → ∀ list due, e.outstanding ≠ some (.lookup list due)) :
    s.lookupsInProgress = false := by
  have hlane : ∀ l, (s.lane l).lookingUp = false := fun l => by
    unfold Lane.lookingUp
    cases hd : (s.lane l).dialogue with
    | none => rfl
    | some d =>
      rw [Option.any_some]
      split
      next list due hout => exact absurd hout (h l d hd list due)
      next => rfl
  simp only [State.lookupsInProgress, Bool.or_eq_false_iff]
  exact ⟨⟨⟨hlane .lane0, hlane .lane1⟩, hlane .lane2⟩, hlane .lane3⟩

/-- The list and the held places of a switch, before the waiting lookups begin (R116). -/
def State.listSwitched (s : State) (d : Denylist) : State :=
  (s.setLists (some d) none).setHeld
    { s.orders.held with deny := (if d.count = 0 then none else some d.area), denyPending := none }

theorem State.switchList_eq (s : State) (d : Denylist) :
    s.switchList d = { s.listSwitched d with
      lanes := ⟨(s.listSwitched d).lookupResumed s.lanes.l0, (s.listSwitched d).lookupResumed s.lanes.l1,
        (s.listSwitched d).lookupResumed s.lanes.l2, (s.listSwitched d).lookupResumed s.lanes.l3⟩
      orders := { (s.listSwitched d).orders with
        ready := { s.orders.ready with denyAdopted := true }
        service := s.orders.service.map fun o =>
          { o with stage := .ended true .none (.bytes (leBytes 2 d.count)) s.timeBase } } } := by
  have hresumed := (s.listSwitched d).resumeLookups_eq
  generalize hf : (s.listSwitched d).lookupResumed = f at hresumed ⊢
  have hswitch : s.switchList d = (((s.listSwitched d).resumeLookups.setReady fun r =>
      { r with denyAdopted := true }).answerAt (s.listSwitched d).resumeLookups.timeBase true .none
        (.bytes (leBytes 2 d.count))) := rfl
  rw [hswitch, hresumed]
  rfl

theorem State.endedWith_of {s t w : State} {o : OrderInService} {done : Bool} {code : OrderCode} {data : ResultData}
    {due : Nat} (ho : s.orders.service = some o) (hw : w.orders.service = some o)
    (h : t.orders.service = w.orders.service.map fun o => { o with stage := .ended done code data due }) :
    s.EndedWith t o done code data due :=
  ⟨h.trans (congrArg _ hw), ho⟩

/-- Settles O30. -/
theorem denylistIsExaminedScannedAndSwitched : Obligations.DenylistIsExaminedScannedAndSwitched := by
  refine ⟨denylistExamined, denylistScanned, fun s o d hpin ho hstage hpending hfree => ?_⟩
  have hwaits : s.switchWaits = true := by
    unfold State.switchWaits
    rw [ho, Option.any_some, hstage]
    rfl
  have hexec : exec .denylistSwitch s = .next (State.conclude s (s.switchList d)) := by
    refine exec_concluded hpin rfl ?_
    rw [hpending]
    exact if_pos ⟨hwaits, State.lookupsInProgress_eq_false hfree⟩
  have hswitch := s.switchList_eq d
  generalize hf : (s.listSwitched d).lookupResumed = f at hswitch
  obtain ⟨lanes, m, hconclude, hlanes, hkept, -⟩ := State.conclude_exists s (s.switchList d)
  rw [hswitch] at hconclude hlanes hkept
  rw [hswitch, hconclude] at hexec
  refine ⟨_, hexec, rfl, rfl, rfl, rfl, State.endedWith_of ho ho rfl, fun a hshown _ => hkept a hshown, fun l => ?_⟩
  have hlane : (f (s.lane l)).Concluded (lanes.get l) := by
    have hconcluded := hlanes l
    cases l <;> exact hconcluded
  subst hf
  obtain ⟨hwait, hsame⟩ | ⟨e, due, hdialogue, hout, hlow, hhigh, hresumed⟩ :=
    (s.listSwitched d).lookupResumed_cases (s.lane l)
  · exact .inl ⟨hwait, hsame ▸ hlane⟩
  · exact .inr ⟨e, due, hdialogue, hout, hlow, hhigh, hresumed ▸ hlane⟩

end Sys2Proof.Machine
end

section
/-! The key orders (04 R69 to R74). -/

namespace Sys2Proof.Machine

open Sys2Proof

/-! ## Keys and slots -/

theorem OrderInService.keySlot_eq_none {o : OrderInService} (h : 8 ≤ o.arg 0 1) : o.keySlot = none :=
  dif_neg (Nat.not_lt_of_le h)

theorem OrderInService.keySlot_eq_some {o : OrderInService} {i : Fin 8} (h : i.val = o.arg 0 1) :
    o.keySlot = some i := by
  unfold OrderInService.keySlot
  rw [dif_pos (h ▸ i.isLt)]
  exact congrArg some (Fin.ext h.symm)

theorem anySlot_iff (slots : Vector KeySlot 8) (P : KeySlot → Bool) :
    slots.toList.any P = true ↔ ∃ j : Fin 8, P slots[j] = true := by
  rw [List.any_eq_true]
  refine ⟨fun ⟨k, hk, hP⟩ => ?_, fun ⟨j, hP⟩ => ⟨slots[j], ?_, hP⟩⟩
  · obtain ⟨i, hi, rfl⟩ := Vector.mem_iff_getElem.mp (Vector.mem_toList_iff.mp hk)
    exact ⟨⟨i, hi⟩, hP⟩
  · exact Vector.mem_toList_iff.mpr (Vector.getElem_mem j.isLt)

theorem holdsLoaded_iff (slots : Vector KeySlot 8) (version : Nat) :
    slots.toList.any (KeySlot.holds .loaded version) = true ↔
      ∃ j : Fin 8, slots[j].state = .loaded ∧ slots[j].version = version := by
  rw [anySlot_iff]
  simp only [KeySlot.holds, Bool.and_eq_true, decide_eq_true_iff]

/-- The step of an order that ends with the summary of the slots (R74). -/
theorem State.conclude_answerKey {s w : State} {o : OrderInService} (due : Nat) (done : Bool) (code : OrderCode)
    (ho : s.orders.service = some o) (hw : w.orders.service = some o) :
    let t := State.conclude s (w.answerKey due done code)
    t = { w with lanes := t.lanes, orders := t.orders, mem := t.mem } ∧
      (∀ l, (w.lane l).Concluded (t.lane l)) ∧ (∀ a, ¬ shownByte a → Memory.read t.mem a = Memory.read w.mem a) ∧
      t.orders.held = w.orders.held ∧ t.engine = w.engine ∧ keyInputRight t ∧
      s.EndedWith t o done code (.bytes (keySummary w.engine.slots)) due := by
  obtain ⟨lanes, m, hconclude, hlanes, hkept, -⟩ := State.conclude_exists s (w.answerKey due done code)
  rw [hconclude]
  refine ⟨rfl, hlanes, hkept, rfl, rfl, ?_, State.endedWith_of ho hw rfl⟩
  refine (anySlot_iff w.engine.slots fun k => k.state = .loaded).trans ?_
  simp only [decide_eq_true_iff]
  rfl

/-- The staging bytes are zero (R69 to R71). -/
theorem State.zeroStaging_reads {s : State} {a : Area} (hmem : s.MemoryLegal) (h : a.base + 16 ≤ 0x40000) :
    (∀ b, bytesFrom a.base 16 b → Memory.read (s.zeroStaging a).mem b = 0#8) ∧
      ∀ b, ¬ bytesFrom a.base 16 b → Memory.read (s.zeroStaging a).mem b = Memory.read s.mem b := by
  rw [State.zeroStaging, State.writeMem_mem]
  refine ⟨fun b ⟨hlow, hhigh⟩ => ?_, fun b hb => Memory.read_writeBytes_of_not (by rwa [List.length_replicate])⟩
  have hread := Memory.read_writeBytes_inside (List.replicate 16 0#8) s.mem a.base (b - a.base)
    (by rw [List.length_replicate]; omega) hmem (by rwa [List.length_replicate])
  rw [List.getElem_replicate, Nat.add_sub_cancel' hlow] at hread
  exact hread

/-! ## LOAD KEY (R69, R70) -/

/-- The examination of R69. -/
def State.keyExamined (s : State) (o : OrderInService) : State :=
  match o.keySlot with
  | none => s.answerKey (o.takenAt + 20) false .argument
  | some i =>
    if o.staging.inFree = false ∨ s.orders.held.overlaps o.staging = true then
      s.answerKey (o.takenAt + 20) false .argument
    else if s.engine.slots[i].state ≠ .empty then
      (s.zeroStaging o.staging).answerKey (o.takenAt + 20) false .slotInUse
    else if s.engine.slots.toList.any (KeySlot.holds .loaded (o.arg 1 1)) then
      (s.zeroStaging o.staging).answerKey (o.takenAt + 20) false .duplicate
    else (s.setHeld { s.orders.held with staging := some o.staging }).setStage .loadingKey

theorem exec_loadKey {s : State} {o : OrderInService} (hpin : s.sys.resetPin = false) (h : s.Handed o 6) :
    exec .loadKey s = .next (State.conclude s (s.keyExamined o)) :=
  exec_concluded hpin rfl (State.withOrder_of_handed h _)

theorem State.keyExamined_eq (s : State) (o : OrderInService) :
    s.keyExamined o = { s with orders := (s.keyExamined o).orders, mem := (s.keyExamined o).mem } := by
  unfold State.keyExamined
  split
  · rfl
  · split
    · rfl
    · split
      · rfl
      · split <;> rfl

theorem State.stagingPasses_iff {s : State} {o : OrderInService} :
    ¬ (o.staging.inFree = false ∨ s.orders.held.overlaps o.staging = true) ↔
      0x300 ≤ o.arg 2 4 ∧ o.arg 2 4 + 16 ≤ 0x40000 ∧ s.orders.held.overlaps ⟨o.arg 2 4, 16⟩ = false := by
  rw [not_or, Bool.not_eq_false, Area.inFree_iff, Bool.not_eq_true, and_assoc]
  rfl

theorem keyExamination (s : State) (o : OrderInService) (hpin : s.sys.resetPin = false) (hmem : s.MemoryLegal)
    (hhanded : s.Handed o 6) :
    let base := o.arg 2 4
    let areaPasses := 0x300 ≤ base ∧ base + 16 ≤ 0x40000 ∧ s.orders.held.overlaps ⟨base, 16⟩ = false
    let data := ResultData.bytes (keySummary s.engine.slots)
    let zeroed := fun t : State => ∀ a, bytesFrom base 16 a → Memory.read t.mem a = 0#8
    ∃ t, exec .loadKey s = .next t ∧
      t = { s with lanes := t.lanes, orders := t.orders, mem := t.mem } ∧ s.LanesKept t ∧
      (8 ≤ o.arg 0 1 ∨ ¬ areaPasses → s.MemoryKept t noByte ∧ t.orders.held = s.orders.held ∧ keyInputRight t ∧
        s.EndedWith t o false .argument data (o.takenAt + 20)) ∧
      ∀ i : Fin 8, i.val = o.arg 0 1 → areaPasses →
        (s.engine.slots[i].state ≠ .empty → zeroed t ∧ s.MemoryKept t (bytesFrom base 16) ∧
          t.orders.held = s.orders.held ∧ keyInputRight t ∧
          s.EndedWith t o false .slotInUse data (o.takenAt + 20)) ∧
        (s.engine.slots[i].state = .empty →
          (∃ j : Fin 8, s.engine.slots[j].state = .loaded ∧ s.engine.slots[j].version = o.arg 1 1) →
          zeroed t ∧ s.MemoryKept t (bytesFrom base 16) ∧ t.orders.held = s.orders.held ∧ keyInputRight t ∧
          s.EndedWith t o false .duplicate data (o.takenAt + 20)) ∧
        (s.engine.slots[i].state = .empty →
          (∀ j : Fin 8, s.engine.slots[j].state = .loaded → s.engine.slots[j].version ≠ o.arg 1 1) →
          s.MemoryKept t noByte ∧
          t.orders = { s.orders with
            held := { s.orders.held with staging := some ⟨base, 16⟩ }
            service := some { o with stage := .loadingKey } }) := by
  intro base areaPasses data zeroed
  obtain ⟨ho, -⟩ := id hhanded
  have hexamined : ∀ i : Fin 8, i.val = o.arg 0 1 → areaPasses → s.keyExamined o =
      if s.engine.slots[i].state ≠ .empty then
        (s.zeroStaging o.staging).answerKey (o.takenAt + 20) false .slotInUse
      else if s.engine.slots.toList.any (KeySlot.holds .loaded (o.arg 1 1)) then
        (s.zeroStaging o.staging).answerKey (o.takenAt + 20) false .duplicate
      else (s.setHeld { s.orders.held with staging := some o.staging }).setStage .loadingKey :=
    fun i hi hpasses => by
      rw [State.keyExamined, OrderInService.keySlot_eq_some hi]
      exact if_neg (State.stagingPasses_iff.mpr hpasses)
  have hargument : ∀ {t}, t = State.conclude s (s.answerKey (o.takenAt + 20) false .argument) →
      s.MemoryKept t noByte ∧ t.orders.held = s.orders.held ∧ keyInputRight t ∧
        s.EndedWith t o false .argument data (o.takenAt + 20) := by
    rintro t rfl
    obtain ⟨-, -, hkept, hheld, -, hinput, hended⟩ :=
      State.conclude_answerKey (w := s) (o.takenAt + 20) false .argument ho ho
    exact ⟨fun a hshown _ => hkept a hshown, hheld, hinput, hended⟩
  have hzeroed : ∀ {t} {code : OrderCode}, areaPasses →
      t = State.conclude s ((s.zeroStaging o.staging).answerKey (o.takenAt + 20) false code) →
      zeroed t ∧ s.MemoryKept t (bytesFrom base 16) ∧ t.orders.held = s.orders.held ∧ keyInputRight t ∧
        s.EndedWith t o false code data (o.takenAt + 20) := by
    rintro t code ⟨hbase, hend, -⟩ rfl
    obtain ⟨-, -, hkept, hheld, -, hinput, hended⟩ :=
      State.conclude_answerKey (w := s.zeroStaging o.staging) (o.takenAt + 20) false code ho ho
    obtain ⟨hzero, hother⟩ := State.zeroStaging_reads (a := o.staging) hmem hend
    refine ⟨fun a ha => (hkept a ?_).trans (hzero a ha), fun a hshown ha => (hkept a hshown).trans (hother a ha),
      hheld, hinput, hended⟩
    exact not_shown_above (by omega) a ha
  refine ⟨_, exec_loadKey hpin hhanded, ?_, ?_, fun hfails => hargument (congrArg _ ?_), fun i hi hpasses =>
    ⟨fun hused => hzeroed hpasses (congrArg _ ?_), fun hempty hdup => hzeroed hpasses (congrArg _ ?_),
      fun hempty hnew => ?_⟩⟩
  · rw [State.conclude_eq_with, State.keyExamined_eq]
  · refine .conclude ?_
    rw [State.keyExamined_eq]
  · rcases hfails with hslot | harea
    · rw [State.keyExamined, OrderInService.keySlot_eq_none hslot]
    · unfold State.keyExamined
      split
      · rfl
      · exact if_pos (Classical.byContradiction fun h => harea (State.stagingPasses_iff.mp h))
  · rw [hexamined i hi hpasses, if_pos hused]
  · rw [hexamined i hi hpasses, if_neg (Classical.not_not.mpr hempty), if_pos ((holdsLoaded_iff _ _).mpr hdup)]
  · have heq : s.keyExamined o =
        (s.setHeld { s.orders.held with staging := some o.staging }).setStage .loadingKey := by
      rw [hexamined i hi hpasses, if_neg (Classical.not_not.mpr hempty), if_neg fun h => ?_]
      obtain ⟨j, hloaded, hversion⟩ := (holdsLoaded_iff _ _).mp h
      exact hnew j hloaded hversion
    obtain ⟨lanes, m, hconclude, -, hkept, -⟩ := State.conclude_exists s
      ((s.setHeld { s.orders.held with staging := some o.staging }).setStage .loadingKey)
    rw [heq, hconclude]
    refine ⟨fun a hshown _ => hkept a hshown, ?_⟩
    exact congrArg (fun service => { s.orders with
      held := { s.orders.held with staging := some ⟨base, 16⟩ }, service := service })
      (congrArg (Option.map fun o => { o with stage := .loadingKey }) ho)

/-- The state of a load that ends, before its answer: the staging zero and released (R70, steps 2 to 4). -/
def State.stagingReleased (s : State) (o : OrderInService) : State :=
  (s.zeroStaging o.staging).setHeld { s.orders.held with staging := none }

theorem State.finishLoad_eq (s : State) (o : OrderInService) (i : Fin 8) :
    s.finishLoad o i =
      if BitVec.ofNat 128 (Memory.readNat s.mem (o.arg 2 4) 16) = 0#128 then
        (s.stagingReleased o).answerKey s.timeBase false .argument
      else ((s.stagingReleased o).setKeySlot i
        ⟨.loaded, o.arg 1 1, BitVec.ofNat 128 (Memory.readNat s.mem (o.arg 2 4) 16)⟩).answerKey s.timeBase true
          .none := by
  unfold State.finishLoad
  dsimp only [OrderInService.staging]
  generalize BitVec.ofNat 128 (Memory.readNat s.mem (o.arg 2 4) 16) = key
  rfl

theorem exec_loadKeyComplete {s : State} {o : OrderInService} {i : Fin 8} (hpin : s.sys.resetPin = false)
    (ho : s.orders.service = some o) (hstage : o.stage = .loadingKey) (hi : i.val = o.arg 0 1)
    (hdue : o.takenAt + 20 ≤ s.nextTick) :
    exec .loadKeyComplete s =
      .next (State.conclude s (State.finishLoad { s with timeBase := max s.timeBase (o.takenAt + 20) } o i)) := by
  refine exec_concluded hpin rfl ?_
  rw [ho]
  dsimp only
  rw [OrderInService.keySlot_eq_some hi]
  exact (if_pos hstage).trans (State.onDue_of_reached _ hdue)

/-- Settles O31. -/
theorem loadKeyTakesTheKey : Obligations.LoadKeyTakesTheKey := by
  refine ⟨keyExamination, fun s o i hpin hmem ho hstage hi hbase hend hdue => ?_⟩
  obtain ⟨w, hw⟩ : ∃ w, w = State.stagingReleased { s with timeBase := max s.timeBase (o.takenAt + 20) } o := ⟨_, rfl⟩
  have hlanes : ∀ l, w.lane l = s.lane l := fun l => by
    subst hw
    rfl
  have hservice : w.orders.service = some o := by
    subst hw
    exact ho
  obtain ⟨hzero, hother⟩ : (∀ b, bytesFrom (o.arg 2 4) 16 b → Memory.read w.mem b = 0#8) ∧
      ∀ b, ¬ bytesFrom (o.arg 2 4) 16 b → Memory.read w.mem b = Memory.read s.mem b := by
    subst hw
    exact State.zeroStaging_reads (a := o.staging) hmem hend
  have hshown : ∀ b, bytesFrom (o.arg 2 4) 16 b → ¬ shownByte b := not_shown_above (by omega)
  have hengine : w.engine = s.engine := by
    subst hw
    rfl
  have hreleased : w.orders.held = { s.orders.held with staging := none } := by
    subst hw
    rfl
  have htime : w.timeBase = max s.timeBase (o.takenAt + 20) := by
    subst hw
    rfl
  have hfields : ∀ {t : State} {e : Engine},
      t = { w with engine := e, lanes := t.lanes, orders := t.orders, mem := t.mem } →
      t = { s with
        timeBase := max s.timeBase (o.takenAt + 20)
        lanes := t.lanes
        engine := t.engine
        orders := t.orders
        mem := t.mem } := fun {t e} ht => by
    subst hw
    rw [ht]
    rfl
  have hexec := exec_loadKeyComplete hpin ho hstage hi hdue
  rw [State.finishLoad_eq] at hexec
  dsimp only at hexec
  by_cases hkey : BitVec.ofNat 128 (Memory.readNat s.mem (o.arg 2 4) 16) = 0#128
  · rw [if_pos hkey, ← hw] at hexec
    obtain ⟨hshape, hconcluded, hkept, hheld, hslots, hinput, hended⟩ :=
      State.conclude_answerKey (w := w) (max s.timeBase (o.takenAt + 20)) false .argument ho hservice
    refine ⟨_, hexec, hfields hshape, fun l => hlanes l ▸ hconcluded l,
      fun a ha => (hkept a (hshown a ha)).trans (hzero a ha),
      fun a hnot ha => (hkept a hnot).trans (hother a ha), hheld.trans hreleased, hinput,
      fun _ => ⟨hslots.trans hengine, ?_⟩, fun hne => absurd hkey hne⟩
    rw [congrArg State.timeBase hshape, ← hengine]
    exact htime ▸ hended
  · rw [if_neg hkey, ← hw] at hexec
    obtain ⟨hshape, hconcluded, hkept, hheld, hslots, hinput, hended⟩ := State.conclude_answerKey
      (w := w.setKeySlot i ⟨.loaded, o.arg 1 1, BitVec.ofNat 128 (Memory.readNat s.mem (o.arg 2 4) 16)⟩)
      (max s.timeBase (o.takenAt + 20)) true .none ho hservice
    refine ⟨_, hexec, hfields hshape, fun l => hlanes l ▸ hconcluded l,
      fun a ha => (hkept a (hshown a ha)).trans (hzero a ha),
      fun a hnot ha => (hkept a hnot).trans (hother a ha), hheld.trans hreleased, hinput,
      fun h => absurd h hkey, fun _ => ⟨hslots.trans ?_, ?_⟩⟩
    · rw [← hengine]
      rfl
    · rw [hslots, congrArg State.timeBase hshape]
      exact htime ▸ hended

/-! ## RETIRE KEY and ERASE KEY (R72, R73) -/

/-- What RETIRE KEY does with the order in service. -/
def State.keyRetired (s : State) (o : OrderInService) : State :=
  match o.keySlot with
  | none => s.answerKey (o.takenAt + 20) false .argument
  | some i =>
    match s.engine.slots[i].state with
    | .empty => s.answerKey (o.takenAt + 20) false .argument
    | .loaded => (s.setKeySlot i { s.engine.slots[i] with state := .retired }).answerKey (o.takenAt + 20) true .none
    | .retired => s.answerKey (o.takenAt + 20) true .none

/-- What ERASE KEY does with the order in service. -/
def State.keyErased (s : State) (o : OrderInService) : State :=
  match o.keySlot with
  | none => s.answerKey (o.takenAt + 20) false .argument
  | some i => (s.setKeySlot i KeySlot.blank).answerKey (o.takenAt + 20) true .none

/-- The step of a key order that leaves these slots. -/
theorem State.conclude_keyChange {s u : State} {o : OrderInService} {slots : Vector KeySlot 8} {done : Bool}
    {code : OrderCode} (ho : s.orders.service = some o)
    (hu : u = State.answerKey { s with engine := { s.engine with slots := slots } } (o.takenAt + 20) done code) :
    let t := State.conclude s u
    t = { s with lanes := t.lanes, engine := t.engine, orders := t.orders, mem := t.mem } ∧ s.LanesKept t ∧
      s.MemoryKept t noByte ∧ t.orders.held = s.orders.held ∧ keyInputRight t ∧
      t.engine = { s.engine with slots := slots } ∧
      s.EndedWith t o done code (.bytes (keySummary slots)) (o.takenAt + 20) := by
  obtain ⟨hshape, hconcluded, hkept, hheld, hslots, hinput, hended⟩ := State.conclude_answerKey
    (w := { s with engine := { s.engine with slots := slots } }) (o.takenAt + 20) done code ho ho
  rw [hu]
  refine ⟨?_, hconcluded, fun a hshown _ => hkept a hshown, hheld, hinput, hslots, hended⟩
  rw [hshape]

/-- A slot that is retired stays as it is (R72). -/
theorem retired_set_self {slots : Vector KeySlot 8} {i : Fin 8} (h : slots[i].state = .retired) :
    slots.set i { slots[i] with state := .retired } = slots := by
  rw [← h]
  exact Vector.set_getElem_self i.isLt

theorem retireKeyRetires (s : State) (o : OrderInService) (hpin : s.sys.resetPin = false) (hhanded : s.Handed o 7) :
    ∃ t, exec .retireKey s = .next t ∧
      t = { s with lanes := t.lanes, engine := t.engine, orders := t.orders, mem := t.mem } ∧ s.LanesKept t ∧
      s.MemoryKept t noByte ∧ t.orders.held = s.orders.held ∧ keyInputRight t ∧
      (8 ≤ o.arg 0 1 → t.engine = s.engine ∧
        s.EndedWith t o false .argument (.bytes (keySummary s.engine.slots)) (o.takenAt + 20)) ∧
      ∀ i : Fin 8, i.val = o.arg 0 1 →
        (s.engine.slots[i].state = .empty → t.engine = s.engine ∧
          s.EndedWith t o false .argument (.bytes (keySummary s.engine.slots)) (o.takenAt + 20)) ∧
        (s.engine.slots[i].state ≠ .empty →
          t.engine = { s.engine with
            slots := s.engine.slots.set i { s.engine.slots[i] with state := .retired } } ∧
          s.EndedWith t o true .none (.bytes (keySummary t.engine.slots)) (o.takenAt + 20)) := by
  obtain ⟨ho, -⟩ := id hhanded
  have hexec : exec .retireKey s = .next (State.conclude s (s.keyRetired o)) :=
    exec_concluded hpin rfl (State.withOrder_of_handed hhanded _)
  by_cases hslot : 8 ≤ o.arg 0 1
  · have hu : s.keyRetired o = s.answerKey (o.takenAt + 20) false .argument := by
      rw [State.keyRetired, OrderInService.keySlot_eq_none hslot]
    obtain ⟨hshape, hlanes, hmem, hheld, hinput, hengine, hended⟩ := State.conclude_keyChange ho hu
    exact ⟨_, hexec, hshape, hlanes, hmem, hheld, hinput, fun _ => ⟨hengine, hended⟩,
      fun i hi => absurd hslot (by omega)⟩
  · obtain ⟨i, hi⟩ : ∃ i : Fin 8, i.val = o.arg 0 1 := ⟨⟨o.arg 0 1, by omega⟩, rfl⟩
    have honly : ∀ j : Fin 8, j.val = o.arg 0 1 → j = i := fun j hj => Fin.ext (hj.trans hi.symm)
    cases hstate : s.engine.slots[i].state with
    | empty =>
      have hu : s.keyRetired o = s.answerKey (o.takenAt + 20) false .argument := by
        rw [State.keyRetired, OrderInService.keySlot_eq_some hi]
        dsimp only
        rw [hstate]
      obtain ⟨hshape, hlanes, hmem, hheld, hinput, hengine, hended⟩ := State.conclude_keyChange ho hu
      refine ⟨_, hexec, hshape, hlanes, hmem, hheld, hinput, fun h => absurd h hslot, fun j hj => ?_⟩
      obtain rfl := honly j hj
      exact ⟨fun _ => ⟨hengine, hended⟩, fun h => absurd hstate h⟩
    | loaded =>
      have hu : s.keyRetired o = (s.setKeySlot i { s.engine.slots[i] with state := .retired }).answerKey
          (o.takenAt + 20) true .none := by
        rw [State.keyRetired, OrderInService.keySlot_eq_some hi]
        dsimp only
        rw [hstate]
      obtain ⟨hshape, hlanes, hmem, hheld, hinput, hengine, hended⟩ := State.conclude_keyChange ho hu
      refine ⟨_, hexec, hshape, hlanes, hmem, hheld, hinput, fun h => absurd h hslot, fun j hj => ?_⟩
      obtain rfl := honly j hj
      exact ⟨fun h => absurd (hstate.symm.trans h) (by decide), fun _ => ⟨hengine, hengine ▸ hended⟩⟩
    | retired =>
      have hu : s.keyRetired o = s.answerKey (o.takenAt + 20) true .none := by
        rw [State.keyRetired, OrderInService.keySlot_eq_some hi]
        dsimp only
        rw [hstate]
      obtain ⟨hshape, hlanes, hmem, hheld, hinput, hengine, hended⟩ := State.conclude_keyChange ho hu
      refine ⟨_, hexec, hshape, hlanes, hmem, hheld, hinput, fun h => absurd h hslot, fun j hj => ?_⟩
      obtain rfl := honly j hj
      refine ⟨fun h => absurd (hstate.symm.trans h) (by decide), fun _ => ⟨hengine.trans ?_, hengine ▸ hended⟩⟩
      rw [retired_set_self hstate]

theorem eraseKeyErases (s : State) (o : OrderInService) (hpin : s.sys.resetPin = false) (hhanded : s.Handed o 8) :
    ∃ t, exec .eraseKey s = .next t ∧
      t = { s with lanes := t.lanes, engine := t.engine, orders := t.orders, mem := t.mem } ∧ s.LanesKept t ∧
      s.MemoryKept t noByte ∧ t.orders.held = s.orders.held ∧ keyInputRight t ∧
      (8 ≤ o.arg 0 1 → t.engine = s.engine ∧
        s.EndedWith t o false .argument (.bytes (keySummary s.engine.slots)) (o.takenAt + 20)) ∧
      ∀ i : Fin 8, i.val = o.arg 0 1 →
        t.engine = { s.engine with slots := s.engine.slots.set i ⟨.empty, 0, 0#128⟩ } ∧
        s.EndedWith t o true .none (.bytes (keySummary t.engine.slots)) (o.takenAt + 20) := by
  obtain ⟨ho, -⟩ := id hhanded
  have hexec : exec .eraseKey s = .next (State.conclude s (s.keyErased o)) :=
    exec_concluded hpin rfl (State.withOrder_of_handed hhanded _)
  by_cases hslot : 8 ≤ o.arg 0 1
  · have hu : s.keyErased o = s.answerKey (o.takenAt + 20) false .argument := by
      rw [State.keyErased, OrderInService.keySlot_eq_none hslot]
    obtain ⟨hshape, hlanes, hmem, hheld, hinput, hengine, hended⟩ := State.conclude_keyChange ho hu
    exact ⟨_, hexec, hshape, hlanes, hmem, hheld, hinput, fun _ => ⟨hengine, hended⟩,
      fun i hi => absurd hslot (by omega)⟩
  · obtain ⟨i, hi⟩ : ∃ i : Fin 8, i.val = o.arg 0 1 := ⟨⟨o.arg 0 1, by omega⟩, rfl⟩
    have hu : s.keyErased o = (s.setKeySlot i KeySlot.blank).answerKey (o.takenAt + 20) true .none := by
      rw [State.keyErased, OrderInService.keySlot_eq_some hi]
    obtain ⟨hshape, hlanes, hmem, hheld, hinput, hengine, hended⟩ := State.conclude_keyChange ho hu
    refine ⟨_, hexec, hshape, hlanes, hmem, hheld, hinput, fun h => absurd h hslot, fun j hj => ?_⟩
    obtain rfl : j = i := Fin.ext (hj.trans hi.symm)
    exact ⟨hengine, hengine ▸ hended⟩

/-- Settles O32. -/
theorem retireAndEraseKey : Obligations.RetireAndEraseKey :=
  fun s o hpin => ⟨retireKeyRetires s o hpin, eraseKeyErases s o hpin⟩

end Sys2Proof.Machine
end

section
/-! READ SIGHTING and FORGET CARD (06 R131, R132). -/

namespace Sys2Proof.Machine

open Sys2Proof

/-! ## READ SIGHTING -/

theorem State.copyOffsetPasses_iff {s : State} {copy : Nat} :
    s.copyOffsetPasses copy = true ↔ copy = 0 ∨ copy % 2 = 0 ∧ 0x300 ≤ copy ∧ copy + 80 ≤ 0x40000 ∧
      s.orders.held.overlaps ⟨copy, 80⟩ = false := by
  simp only [State.copyOffsetPasses, Bool.or_eq_true, Bool.and_eq_true, decide_eq_true_iff, Area.inFree_iff,
    Bool.not_eq_true', and_assoc]

theorem Sighting.length_copyBytes (e : Sighting) : e.copyBytes.length = 80 := by
  have hclaim : (claimByte e.claim).length = 1 := by
    unfold claimByte
    split <;> simp [length_leBytes]
  have himage : (imageBytes e.lastImage).length = 11 := by
    unfold imageBytes
    split <;> simp [length_leBytes]
  have hpart : (partBytes e.uncertainty).length = 31 := by
    unfold partBytes timeBytes
    split <;> simp [length_leBytes]
  have hmark : (markBytes e.mark).length = 11 := by
    unfold markBytes timeBytes
    split <;> simp [length_leBytes]
  simp [Sighting.copyBytes, timeBytes, length_leBytes, hclaim, himage, hpart, hmark]

/-- What READ SIGHTING does with the order in service (R131). -/
def State.sightingRead (s : State) (o : OrderInService) : State :=
  if s.copyOffsetPasses (o.arg 8 4) = false then s.answer o false .argument noData
  else
    match findSighting s.screening.table o.cardArg with
    | none => s.answer o true .notFound noData
    | some e =>
      (if o.arg 8 4 = 0 then s else s.writeMem (o.arg 8 4) e.copyBytes).answer o true .found (.bytes e.summary)

theorem exec_readSighting {s u : State} {o : OrderInService} (hpin : s.sys.resetPin = false) (hs : s.Settled)
    (h : s.Handed o 12) (heffect : s.sightingRead o = u) (hlanes : u.lanes = s.lanes)
    (he : u.emergency = s.emergency) (hroom : u.journal.openRoom = s.journal.openRoom)
    (hready : u.orders.ready = s.orders.ready) : exec .readSighting s = .next u :=
  exec_of_lanes hpin hs rfl ((State.withOrder_of_handed h _).trans heffect) hlanes he hroom hready

theorem readSightingReads (s : State) (o : OrderInService) (hpin : s.sys.resetPin = false) (hs : s.Settled)
    (hmem : s.MemoryLegal) (hhanded : s.Handed o 12) :
    let card := BitVec.ofNat 64 (o.arg 0 8)
    let copy := o.arg 8 4
    let good := copy = 0 ∨ copy % 2 = 0 ∧ 0x300 ≤ copy ∧ copy + 80 ≤ 0x40000 ∧
      s.orders.held.overlaps ⟨copy, 80⟩ = false
    ∃ t, exec .readSighting s = .next t ∧
      t = { s with mem := t.mem, orders := { s.orders with service := t.orders.service } } ∧
      (¬ good → t.mem = s.mem ∧ s.EndedWith t o false .argument (.bytes []) (o.takenAt + 20)) ∧
      (good → findSighting s.screening.table card = none →
        t.mem = s.mem ∧ s.EndedWith t o true .notFound (.bytes []) (o.takenAt + 20)) ∧
      ∀ e, good → findSighting s.screening.table card = some e →
        s.EndedWith t o true .found (.bytes e.summary) (o.takenAt + 20) ∧
        (copy = 0 → t.mem = s.mem) ∧
        (copy ≠ 0 → Memory.readBytes t.mem copy 80 = e.copyBytes ∧
          ∀ a, ¬ bytesFrom copy 80 a → Memory.read t.mem a = Memory.read s.mem a) := by
  intro card copy good
  obtain ⟨ho, -⟩ := id hhanded
  by_cases hgood : good
  · have hpasses : ¬ s.copyOffsetPasses copy = false := by
      rw [Bool.not_eq_false]
      exact State.copyOffsetPasses_iff.mpr hgood
    cases hfound : findSighting s.screening.table card with
    | none =>
      have hu : s.sightingRead o = s.answer o true .notFound noData := by
        rw [State.sightingRead, if_neg hpasses, OrderInService.cardArg, hfound]
      exact ⟨_, exec_readSighting hpin hs hhanded hu rfl rfl rfl rfl, rfl, fun h => absurd hgood h,
        fun _ _ => ⟨rfl, State.answer_ended _ _ _ ho ho⟩, fun _ _ h => absurd h nofun⟩
    | some e =>
      by_cases hcopy : copy = 0
      · have hu : s.sightingRead o = s.answer o true .found (.bytes e.summary) := by
          rw [State.sightingRead, if_neg hpasses, OrderInService.cardArg, hfound]
          dsimp only
          rw [if_pos hcopy]
        refine ⟨_, exec_readSighting hpin hs hhanded hu rfl rfl rfl rfl, rfl, fun h => absurd hgood h,
          fun _ h => absurd h nofun, fun e' _ he' => ?_⟩
        obtain rfl := Option.some.inj he'
        exact ⟨State.answer_ended _ _ _ ho ho, fun _ => rfl, fun h => absurd hcopy h⟩
      · obtain ⟨m, hm, hu⟩ : ∃ m, m = Memory.writeBytes s.mem copy e.copyBytes ∧
            s.sightingRead o = State.answer { s with mem := m } o true .found (.bytes e.summary) := by
          refine ⟨_, rfl, ?_⟩
          rw [State.sightingRead, if_neg hpasses, OrderInService.cardArg, hfound]
          dsimp only
          rw [if_neg hcopy, State.writeMem]
        obtain ⟨-, -, hend, -⟩ := hgood.resolve_left hcopy
        refine ⟨_, exec_readSighting hpin hs hhanded hu rfl rfl rfl rfl, rfl, fun h => absurd hgood h,
          fun _ h => absurd h nofun, fun e' _ he' => ?_⟩
        obtain rfl := Option.some.inj he'
        refine ⟨State.answer_ended _ _ _ ho ho, fun h => absurd h hcopy, fun _ => ?_⟩
        change Memory.readBytes m copy 80 = e.copyBytes ∧
          ∀ a, ¬ bytesFrom copy 80 a → Memory.read m a = Memory.read s.mem a
        rw [hm]
        refine ⟨?_, fun a ha => Memory.read_writeBytes_of_not (by rwa [e.length_copyBytes])⟩
        have hread := Memory.readBytes_writeBytes e.copyBytes s.mem copy hmem (by rwa [e.length_copyBytes])
        rwa [e.length_copyBytes] at hread
  · have hu : s.sightingRead o = s.answer o false .argument noData := by
      refine if_pos ?_
      rw [Bool.eq_false_iff]
      exact fun h => hgood (State.copyOffsetPasses_iff.mp h)
    exact ⟨_, exec_readSighting hpin hs hhanded hu rfl rfl rfl rfl, rfl,
      fun _ => ⟨rfl, State.answer_ended _ _ _ ho ho⟩, fun h => absurd h hgood, fun _ h => absurd h hgood⟩

/-! ## FORGET CARD -/

/-- What FORGET CARD does with the order in service (R132). -/
def State.cardForgotten (s : State) (o : OrderInService) : State :=
  match findSighting s.screening.table o.cardArg with
  | none => s.answer o true .notFound noData
  | some e =>
    if e.claim.isSome then s.answer o false .busy noData
    else
      match e.uncertainty with
      | none => s.forget o e.card
      | some u => (s.askUnresolved e.card u .order).setStage (.forgetting e.card)

theorem exec_forgetCard {s u : State} {o : OrderInService} (hpin : s.sys.resetPin = false) (hs : s.Settled)
    (h : s.Handed o 13) (heffect : s.cardForgotten o = u) (hlanes : u.lanes = s.lanes)
    (he : u.emergency = s.emergency) (hroom : u.journal.openRoom = s.journal.openRoom)
    (hready : u.orders.ready = s.orders.ready) : exec .forgetCard s = .next u :=
  exec_of_lanes hpin hs rfl ((State.withOrder_of_handed h _).trans heffect) hlanes he hroom hready

theorem forgetCardForgets (s : State) (o : OrderInService) (hpin : s.sys.resetPin = false) (hs : s.Settled)
    (hhanded : s.Handed o 13) :
    let card := BitVec.ofNat 64 (o.arg 0 8)
    ∃ t, exec .forgetCard s = .next t ∧
      t = { s with
        screening := { s.screening with table := t.screening.table }
        journal := t.journal
        orders := { s.orders with service := t.orders.service } } ∧
      (∀ c, c ≠ card → findSighting t.screening.table c = findSighting s.screening.table c) ∧
      (findSighting s.screening.table card = none → t.screening = s.screening ∧ t.journal = s.journal ∧
        s.EndedWith t o true .notFound (.bytes []) (o.takenAt + 20)) ∧
      ∀ e, findSighting s.screening.table card = some e →
        (e.claim ≠ none → t.screening = s.screening ∧ t.journal = s.journal ∧
          s.EndedWith t o false .busy (.bytes []) (o.takenAt + 20)) ∧
        (e.claim = none → e.uncertainty = none → t.journal = s.journal ∧
          findSighting t.screening.table card = none ∧
          s.EndedWith t o true .none (.bytes []) (o.takenAt + 20)) ∧
        ∀ u, e.claim = none → e.uncertainty = some u →
          t.screening = s.screening ∧
          t.orders.service = some { o with stage := .forgetting card } ∧
          t.journal = { s.journal with
            queue := s.journal.queue ++ [⟨resolvedRecord card u u.lane .unresolved s.now false, .part, .order⟩]
            writeDue := t.journal.writeDue } := by
  intro card
  obtain ⟨ho, -⟩ := id hhanded
  cases hfound : findSighting s.screening.table card with
  | none =>
    have hu : s.cardForgotten o = s.answer o true .notFound noData := by
      rw [State.cardForgotten, OrderInService.cardArg, hfound]
    exact ⟨_, exec_forgetCard hpin hs hhanded hu rfl rfl rfl rfl, rfl, fun _ _ => rfl,
      fun _ => ⟨rfl, rfl, State.answer_ended _ _ _ ho ho⟩, nofun⟩
  | some e =>
    have honly : ∀ e', some e = some e' → e' = e := fun e' h => (Option.some.inj h).symm
    have hcard := findSighting_card hfound
    cases hclaim : e.claim with
    | some l =>
      have hu : s.cardForgotten o = s.answer o false .busy noData := by
        rw [State.cardForgotten, OrderInService.cardArg, hfound]
        dsimp only
        rw [hclaim]
        rfl
      refine ⟨_, exec_forgetCard hpin hs hhanded hu rfl rfl rfl rfl, rfl, fun _ _ => rfl, nofun, fun e' he' => ?_⟩
      obtain rfl := honly e' he'
      exact ⟨fun _ => ⟨rfl, rfl, State.answer_ended _ _ _ ho ho⟩, fun h => absurd (hclaim.symm.trans h) nofun,
        fun _ h => absurd (hclaim.symm.trans h) nofun⟩
    | none =>
      cases hpart : e.uncertainty with
      | none =>
        have hu : s.cardForgotten o = s.forget o e.card := by
          rw [State.cardForgotten, OrderInService.cardArg, hfound]
          dsimp only
          rw [hclaim, hpart]
          rfl
        refine ⟨_, exec_forgetCard hpin hs hhanded hu rfl rfl rfl rfl, rfl, fun c hc => ?_, nofun, fun e' he' => ?_⟩
        · exact findSighting_removeSighting_ne (hcard ▸ hc) _
        · obtain rfl := honly e' he'
          refine ⟨fun h => absurd hclaim h, fun _ _ => ⟨rfl, ?_, State.answer_ended _ _ _ ho ho⟩,
            fun _ _ h => absurd (hpart.symm.trans h) nofun⟩
          exact hcard ▸ findSighting_removeSighting_self _ _
      | some u =>
        have hu : s.cardForgotten o = (s.askUnresolved e.card u .order).setStage (.forgetting e.card) := by
          rw [State.cardForgotten, OrderInService.cardArg, hfound]
          dsimp only
          rw [hclaim, hpart]
          rfl
        refine ⟨_, exec_forgetCard hpin hs hhanded hu rfl rfl ?_ rfl, rfl, fun _ _ => rfl, nofun, fun e' he' => ?_⟩
        · rfl
        · obtain rfl := honly e' he'
          refine ⟨fun h => absurd hclaim h, fun _ h => absurd (hpart.symm.trans h) nofun, fun u' _ hu' => ?_⟩
          obtain rfl : u = u' := Option.some.inj (hpart.symm.trans hu')
          refine ⟨rfl, ?_, ?_⟩
          · exact (congrArg (Option.map fun o => { o with stage := .forgetting e'.card }) ho).trans (by rw [hcard])
          · rw [hcard]
            rfl

/-- When the UNRESOLVED record is written the entry is removed and the order ends (R132). -/
theorem forgottenWhenWritten (s : State) (o : OrderInService) (card : CardNumber) (q : RecordRequest)
    (rest : List RecordRequest) (r : Ring) (hpin : s.sys.resetPin = false) (hmem : s.MemoryLegal)
    (ho : s.orders.service = some o) (hstage : o.stage = .forgetting card) (hqueue : s.journal.queue = q :: rest)
    (hring : s.journal.ring = some r) (hwaiter : q.waiter = .order) (hholder : q.holder = .part)
    (hdue : s.journal.writeDue ≤ s.nextTick) (hfree : ringInFree s) :
    ∃ t, exec .journalRecordWrite s = .next t ∧ recordWritten s t q rest r ∧
      t = { s with
        timeBase := t.timeBase
        lanes := t.lanes
        screening := { s.screening with table := t.screening.table }
        journal := t.journal
        orders := { s.orders with service := t.orders.service }
        regs := t.regs
        mem := t.mem } ∧
      s.LanesKept t ∧ t.journal.reserved = s.journal.reserved - 1 ∧
      findSighting t.screening.table card = none ∧
      (∀ c, c ≠ card → findSighting t.screening.table c = findSighting s.screening.table c) ∧
      s.EndedWith t o true .none (.bytes []) (o.takenAt + 20) := by
  obtain ⟨lanes, due, regs, m, hplaced, hm, hlanes, -⟩ := s.recorded_exists q rest r
  have hafter : (s.recorded rest r lanes due regs m).afterRecord q.waiter s.journal.written =
      (s.recorded rest r lanes due regs m).forget o card := by
    rw [hwaiter]
    change (s.recorded rest r lanes due regs m).finishForget = _
    have hservice : (s.recorded rest r lanes due regs m).orders.service = some o := ho
    rw [State.finishForget, hservice]
    dsimp only
    rw [hstage]
  have hexec := exec_journalRecordWrite hpin hqueue hring hdue (by simp [hwaiter])
  rw [hplaced, hafter] at hexec
  have hwritten := recordWritten_of (u := (s.recorded rest r lanes due regs m).forget o card) hmem hring hfree rfl
    rfl hm
  obtain ⟨shown, m', hconclude, hconcluded, -⟩ :=
    State.conclude_exists s ((s.recorded rest r lanes due regs m).forget o card)
  rw [hconclude] at hexec hwritten
  refine ⟨_, hexec, hwritten, rfl, fun l => ?_, rfl, findSighting_removeSighting_self _ _,
    fun c hc => findSighting_removeSighting_ne hc _,
    State.endedWith_of (w := s.recorded rest r lanes due regs m) ho ho rfl⟩
  have hlane : lanes.get l = s.lane l := (hlanes l).trans (if_neg (by rw [hholder]; nofun))
  exact hlane ▸ hconcluded l

/-- Settles O36. -/
theorem sightingOrdersReadAndForget : Obligations.SightingOrdersReadAndForget :=
  ⟨fun s o hpin hs hmem => ⟨readSightingReads s o hpin hs hmem, forgetCardForgets s o hpin hs⟩, forgottenWhenWritten⟩

end Sys2Proof.Machine
end

section
/-! SUPPORT. What the end of a dialogue asks for and leaves (03 R38, R54, R56 to R60): RELEASE in its three ways, and
the result of a dialogue whose outcome is decided. -/

namespace Sys2Proof.Machine

open Sys2Proof

/-! ## The three ways of RELEASE -/

section
variable {s : State} {l : LaneId} {d : Dialogue}

/-- A lane whose dialogue in RELEASE waits for its record. -/
def Lane.awaitingRecord (x : Lane) (d : Dialogue) : Lane :=
  { x with dialogue := some { d with phase := .release, outstanding := some .journal } }

theorem State.setLane_setLane (s : State) (l : LaneId) (x y : Lane) : (s.setLane l x).setLane l y = s.setLane l y := by
  simp only [State.setLane, PerLane.set_set]

theorem State.updDialogue_eq (f : Dialogue → Dialogue) (h : (s.lane l).dialogue = some d) :
    s.updDialogue l f = s.setLane l { s.lane l with dialogue := some (f d) } := by
  rw [State.updDialogue, State.updLane, h]
  rfl

theorem State.updDialogue_updDialogue (f g : Dialogue → Dialogue) (h : (s.lane l).dialogue = some d) :
    (s.updDialogue l f).updDialogue l g = s.setLane l { s.lane l with dialogue := some (g (f d)) } := by
  rw [State.updDialogue_eq f h, State.updDialogue_eq (d := f d) g (by rw [State.lane_setLane_self]),
    State.lane_setLane_self, State.setLane_setLane]

theorem State.beginRelease_uncertain (h : (s.lane l).dialogue = some d) (hcode : d.outcome = some .uncertain) :
    s.beginRelease l =
      State.enqueue ((s.setTable (changeSighting s.screening.table d.card fun e =>
        { e with uncertainty := some (d.part l s.now) })).setLane l ((s.lane l).awaitingRecord d))
        ⟨d.fareRecord l .uncertain .uncertain s.now, .dialogue l, .release l⟩ := by
  unfold State.beginRelease
  rw [h]
  dsimp only
  rw [hcode, Option.getD_some, if_pos rfl, State.updDialogue_eq _ h]
  have hlane : State.lane (State.attachPart (s.setLane l { s.lane l with
      dialogue := some { d with phase := .release, outstanding := none } }) d.card (d.part l s.now)) l =
      { s.lane l with dialogue := some { d with phase := .release, outstanding := none } } :=
    State.lane_setLane_self _ _ _
  rw [State.updDialogue_eq (d := { d with phase := .release, outstanding := none }) _ (by rw [hlane]), hlane]
  refine congrArg (fun u => State.enqueue u _) (State.eq_of_lanes rfl ?_)
  exact PerLane.set_set _ _ _ _

theorem State.beginRelease_known {code : ResultCode} (h : (s.lane l).dialogue = some d) (hcode : d.outcome = some code)
    (hcertain : code ≠ .uncertain) (hknown : d.known = true) :
    s.beginRelease l =
      State.enqueue (s.setLane l ((s.lane l).awaitingRecord d))
        ⟨d.refusedRecord l code s.now, .dialogue l, .release l⟩ := by
  unfold State.beginRelease
  rw [h]
  dsimp only
  rw [hcode, Option.getD_some, if_neg hcertain, if_pos hknown, State.updDialogue_updDialogue _ _ h]
  rfl

theorem State.beginRelease_unknown {code : ResultCode} (h : (s.lane l).dialogue = some d)
    (hcode : d.outcome = some code) (hcertain : code ≠ .uncertain) (hknown : d.known = false) :
    s.beginRelease l =
      ((s.setTable (d.dropClaim s.screening.table)).setReserved
        (s.journal.reserved - d.reserved + code.keptPlaces)).updLane l
        (Lane.released s.params s.timeBase s.instant code d.byAbort) := by
  unfold State.beginRelease
  rw [h]
  dsimp only
  rw [hcode, Option.getD_some, if_neg hcertain, hknown, if_neg Bool.false_ne_true, State.updDialogue_eq _ h,
    State.finishRelease_eq (d := { d with phase := .release, outstanding := none }) (by rw [State.lane_setLane_self])]
  simp only [hcode, Option.getD_some]
  refine State.eq_of_lanes rfl ((PerLane.set_set _ _ _ _).trans (congrArg (s.lanes.set l) ?_))
  exact (congrArg (Lane.released s.params s.timeBase s.instant code d.byAbort)
    (State.lane_setLane_self s l _)).trans (Lane.released_of_dialogue _ _ _ _ _ (s.lane l) _)

end

/-! ## What the end of a dialogue leaves unchanged -/

/-- The parts of a lane that the end of its dialogue writes: link, dialogue, watch, last result, display and tone; a
field marked as written stays so. -/
structure Lane.EndsDialogue (x y : Lane) : Prop where
  parts : y = { x with
    link := y.link
    dialogue := y.dialogue
    watch := y.watch
    lastResult := y.lastResult
    rewritten := y.rewritten
    timedDisplay := y.timedDisplay
    inProgress := y.inProgress
    tone := y.tone }
  rewritten : x.rewritten <:+ y.rewritten

theorem Lane.EndsDialogue.refl (x : Lane) : x.EndsDialogue x := ⟨rfl, List.suffix_rfl⟩

theorem Lane.EndsDialogue.trans {x y z : Lane} (h : x.EndsDialogue y) (k : y.EndsDialogue z) : x.EndsDialogue z where
  parts := by rw [k.parts, h.parts]
  rewritten := h.rewritten.trans k.rewritten

/-- The parts of the state that the end of lane `l`'s dialogue writes: the lane, the waiting requests of the engine, the
sighting table, and the journal's queue and reservation. -/
structure State.EndsDialogue (s u : State) (l : LaneId) : Prop where
  state : u = { s with
    lanes := u.lanes
    engine := { s.engine with requests := u.engine.requests }
    screening := { s.screening with table := u.screening.table }
    journal := { s.journal with
      queue := u.journal.queue, writeDue := u.journal.writeDue, reserved := u.journal.reserved } }
  others : ∀ k, k ≠ l → u.lane k = s.lane k
  lane : (s.lane l).EndsDialogue (u.lane l)

theorem State.EndsDialogue.refl (s : State) (l : LaneId) : s.EndsDialogue s l := ⟨rfl, fun _ _ => rfl, .refl _⟩

theorem State.EndsDialogue.trans {s u v : State} {l : LaneId} (h : s.EndsDialogue u l) (k : u.EndsDialogue v l) :
    s.EndsDialogue v l where
  state := by rw [k.state, h.state]
  others j hj := (k.others j hj).trans (h.others j hj)
  lane := h.lane.trans k.lane

theorem Lane.released_endsDialogue (p : Parameters) (tb : Nat) (now : Int) (outcome : ResultCode) (byAbort : Bool)
    (x : Lane) : x.EndsDialogue (x.released p tb now outcome byAbort) := by
  have hshown : ∀ y : Lane, y.EndsDialogue (y.showOutcome p tb outcome byAbort) := fun y => by
    unfold Lane.showOutcome
    split
    · exact .refl y
    · split <;> exact ⟨rfl, List.suffix_rfl⟩
  have hwatch : ∀ y : Lane, y.EndsDialogue (y.startWatch now) := fun y => by
    unfold Lane.startWatch
    split
    · exact ⟨rfl, List.suffix_rfl⟩
    · exact .refl y
  have hclosed : x.EndsDialogue
    { x with lastResult := outcome, rewritten := 6 :: x.rewritten, inProgress := false, dialogue := none } :=
    ⟨rfl, List.suffix_cons 6 _⟩
  exact (hclosed.trans (hshown _)).trans (hwatch _)

theorem State.endsDialogue_setLane {s u : State} {l : LaneId} {y : Lane}
    (hstate : u = { s with
      lanes := s.lanes.set l y
      engine := { s.engine with requests := u.engine.requests }
      screening := { s.screening with table := u.screening.table }
      journal := { s.journal with
        queue := u.journal.queue, writeDue := u.journal.writeDue, reserved := u.journal.reserved } })
    (hlane : (s.lane l).EndsDialogue y) : s.EndsDialogue u l := by
  have hlanes : u.lanes = (s.setLane l y).lanes := by rw [hstate]; rfl
  refine ⟨?_, fun k hk => ?_, ?_⟩
  · rw [hlanes]
    exact hstate
  · rw [State.lane_congr hlanes]
    exact State.lane_setLane_ne _ _ hk
  · rw [State.lane_congr hlanes, State.lane_setLane_self]
    exact hlane

theorem State.beginRelease_endsDialogue {s : State} {l : LaneId} {d : Dialogue} {code : ResultCode}
    (h : (s.lane l).dialogue = some d) (hcode : d.outcome = some code) : s.EndsDialogue (s.beginRelease l) l := by
  by_cases hcertain : code = .uncertain
  · subst hcertain
    rw [State.beginRelease_uncertain h hcode]
    exact State.endsDialogue_setLane rfl ⟨rfl, List.suffix_rfl⟩
  · cases hknown : d.known with
    | true =>
      rw [State.beginRelease_known h hcode hcertain hknown]
      exact State.endsDialogue_setLane rfl ⟨rfl, List.suffix_rfl⟩
    | false =>
      rw [State.beginRelease_unknown h hcode hcertain hknown]
      exact State.endsDialogue_setLane rfl (Lane.released_endsDialogue _ _ _ _ _ _)

theorem State.decideOutcome_endsDialogue {s : State} {l : LaneId} (e : Dialogue) :
    s.EndsDialogue (s.decideOutcome l e) l := State.endsDialogue_setLane rfl ⟨rfl, List.suffix_rfl⟩

theorem State.endDialogue_endsDialogue {s : State} {l : LaneId} {d : Dialogue} (code : ResultCode) (byAbort : Bool)
    (h : (s.lane l).dialogue = some d) : s.EndsDialogue (s.endDialogue l code byAbort) l := by
  have hdecided : ((s.decideOutcome l (d.decided s.now code byAbort)).lane l).dialogue =
      some (d.decided s.now code byAbort) := congrArg Lane.dialogue (State.lane_updLane_self _ _ _)
  rw [State.endDialogue_eq code byAbort h]
  split
  · exact State.decideOutcome_endsDialogue _
  · exact (State.decideOutcome_endsDialogue _).trans (State.beginRelease_endsDialogue hdecided rfl)

/-! ## The records that RELEASE asks for -/

/-- What an outcome's record shows of its dialogue (R54, R60). -/
theorem recordAsked_of_record {u : State} {l : LaneId} {d y : Dialogue} {code : ResultCode}
    {before : List RecordRequest} {record : Record} (hknown : code = .uncertain ∨ d.known = true)
    (hdialogue : (u.lane l).dialogue = some y) (hphase : y.phase = .release) (houtcome : y.outcome = some code)
    (hqueue : u.journal.queue = before ++ [⟨record, .dialogue l, .release l⟩])
    (hrecord : record.lane = l ∧ record.direction = d.direction ∧ record.card = d.card ∧ record.result = code ∧
      (code ≠ .uncertain → record.kind = .refused) ∧
      (code = .uncertain → record.kind = .uncertain ∧
        ∀ image result, d.image = some image → d.expected = some (purseCounter image) → d.pricing = some result →
          record.counterBefore = purseCounter d.purse ∧ record.counterAfter = purseCounter image ∧
          record.charge = result.charge ∧ record.balanceAfter = result.newBalance)) :
    recordAsked u l d code before [] := by
  refine ⟨fun z hz => ?_, fun hcertain hunknown => ?_, fun _ => ⟨by simp [hdialogue], record, hqueue, hrecord⟩⟩
  · obtain rfl : y = z := Option.some.inj (hdialogue.symm.trans hz)
    exact ⟨hphase, houtcome⟩
  · rw [hunknown] at hknown
    exact absurd hknown (by simp [hcertain])

theorem Dialogue.fareRecord_fields (d : Dialogue) (l : LaneId) (now : StationTime) :
    (d.fareRecord l .uncertain .uncertain now).lane = l ∧
      (d.fareRecord l .uncertain .uncertain now).direction = d.direction ∧
      (d.fareRecord l .uncertain .uncertain now).card = d.card ∧
      (d.fareRecord l .uncertain .uncertain now).result = .uncertain ∧
      (d.fareRecord l .uncertain .uncertain now).kind = .uncertain ∧
      ∀ image result, d.image = some image → d.expected = some (purseCounter image) → d.pricing = some result →
        (d.fareRecord l .uncertain .uncertain now).counterBefore = purseCounter d.purse ∧
        (d.fareRecord l .uncertain .uncertain now).counterAfter = purseCounter image ∧
        (d.fareRecord l .uncertain .uncertain now).charge = result.charge ∧
        (d.fareRecord l .uncertain .uncertain now).balanceAfter = result.newBalance := by
  unfold Dialogue.fareRecord
  dsimp only
  cases hpricing : d.pricing with
  | none => exact ⟨rfl, rfl, rfl, rfl, rfl, fun _ _ _ _ h => absurd h nofun⟩
  | some p =>
    refine ⟨rfl, rfl, rfl, rfl, rfl, fun image result himage hexpected hresult => ?_⟩
    obtain rfl := Option.some.inj hresult
    refine ⟨rfl, ?_, rfl, rfl⟩
    rw [hexpected]
    rfl

theorem State.beginRelease_recordAsked {s : State} {l : LaneId} {d : Dialogue} {code : ResultCode}
    (h : (s.lane l).dialogue = some d) (hcode : d.outcome = some code) :
    recordAsked (s.beginRelease l) l d code s.journal.queue [] := by
  by_cases hcertain : code = .uncertain
  · subst hcertain
    rw [State.beginRelease_uncertain h hcode]
    obtain ⟨hlane, hdirection, hcard, hresult, hkind, hfields⟩ := d.fareRecord_fields l s.now
    exact recordAsked_of_record (.inl rfl) (congrArg Lane.dialogue (State.lane_setLane_self _ l _)) rfl hcode rfl
      ⟨hlane, hdirection, hcard, hresult, fun hne => absurd rfl hne, fun _ => ⟨hkind, hfields⟩⟩
  · cases hknown : d.known with
    | true =>
      rw [State.beginRelease_known h hcode hcertain hknown]
      exact recordAsked_of_record (.inr hknown) (congrArg Lane.dialogue (State.lane_setLane_self _ l _)) rfl hcode rfl
        ⟨rfl, rfl, rfl, rfl, fun _ => rfl, fun heq => absurd heq hcertain⟩
    | false =>
      rw [State.beginRelease_unknown h hcode hcertain hknown]
      have hnone : (State.lane (((s.setTable (d.dropClaim s.screening.table)).setReserved
          (s.journal.reserved - d.reserved + code.keptPlaces)).updLane l
          (Lane.released s.params s.timeBase s.instant code d.byAbort)) l).dialogue = none := by
        rw [State.lane_updLane_self]
        exact Lane.released_dialogue _ _ _ _ _ _
      refine ⟨fun y hy => absurd (hnone.symm.trans hy) nofun, fun _ _ => ⟨(List.append_nil _).symm, hnone⟩,
        fun hor => ?_⟩
      rw [hknown] at hor
      exact absurd hor (by simp [hcertain])

/-- A lane whose RELEASE is over shows its outcome as the last result (R61). -/
theorem State.beginRelease_endsWith {s : State} {l : LaneId} {d : Dialogue} {code : ResultCode}
    (h : (s.lane l).dialogue = some d) (hcode : d.outcome = some code) : endsWith (s.beginRelease l) l code := by
  obtain ⟨houtcome, -, hrecord⟩ := State.beginRelease_recordAsked h hcode
  refine ⟨fun y hy => ?_, fun hnone => ?_⟩
  · obtain ⟨-, hy'⟩ := houtcome y hy
    exact hy'
  · by_cases hcertain : code = .uncertain
    · obtain ⟨hsome, -⟩ := hrecord (.inl hcertain)
      exact absurd hnone hsome
    · cases hknown : d.known with
      | true =>
        obtain ⟨hsome, -⟩ := hrecord (.inr hknown)
        exact absurd hnone hsome
      | false =>
        rw [State.beginRelease_unknown h hcode hcertain hknown, State.lane_updLane_self]
        obtain ⟨hresult, -⟩ := Lane.released_fields s.params s.timeBase s.instant code d.byAbort (s.lane l)
        exact hresult

/-- An UNCERTAIN outcome attaches its part to the card's entry (R54, R112). -/
theorem State.beginRelease_partAttached {s : State} {l : LaneId} {d : Dialogue}
    (h : (s.lane l).dialogue = some d) (hcode : d.outcome = some .uncertain) (hdecided : d.decidedAt = some s.now) :
    partAttached s (s.beginRelease l) l d [] := by
  intro e image result he himage hexpected hpricing
  rw [State.beginRelease_uncertain h hcode]
  refine ⟨e.mark, ?_, fun _ => rfl⟩
  have hpart : d.part l s.now =
      { oldCounter := purseCounter d.purse
        oldCheck := purseCheck d.purse
        newCounter := purseCounter image
        newCheck := purseCheck image
        charge := result.charge
        lane := l
        direction := d.direction
        created := s.instant } := by
    rw [Dialogue.part, hexpected, himage, hpricing, hdecided]
    rfl
  refine (findSighting_changeSighting_self d.card _ s.screening.table).trans ?_
  rw [he, hpart]
  rfl

/-! ## The end of a dialogue in one step -/

theorem atScreening_any {d : Dialogue} :
    d.outstanding.any Outstanding.atScreening = true ↔ ∃ o, d.outstanding = some o ∧ o.atScreening = true := by
  cases d.outstanding <;> simp

/-- A dialogue that is ended by an outcome asks for its record at once, or waits for the Screening Unit (R38, R56). -/
theorem State.endDialogue_endsNow {s : State} {l : LaneId} {d : Dialogue} (code : ResultCode) (byAbort : Bool)
    (h : (s.lane l).dialogue = some d) : endsNow s (s.endDialogue l code byAbort) l d code [] := by
  have hdecided : ((s.decideOutcome l (d.decided s.now code byAbort)).lane l).dialogue =
      some (d.decided s.now code byAbort) := congrArg Lane.dialogue (State.lane_updLane_self _ _ _)
  rw [State.endDialogue_eq code byAbort h]
  by_cases hscreening : d.outstanding.any Outstanding.atScreening = true
  · rw [if_pos hscreening]
    obtain ⟨o, ho, hat⟩ := atScreening_any.mp hscreening
    refine ⟨⟨fun y hy => ?_, fun hnone => absurd (hdecided.symm.trans hnone) nofun⟩, fun hnot => ?_, fun o' ho' _ =>
      ⟨(List.append_nil _).symm, _, hdecided, rfl, rfl, ho'⟩⟩
    · obtain rfl := Option.some.inj (hdecided.symm.trans hy)
      rfl
    · exact absurd (hnot o ho) (by simp [hat])
  · rw [if_neg hscreening]
    have hasked := State.beginRelease_recordAsked hdecided rfl
    refine ⟨State.beginRelease_endsWith hdecided rfl, fun _ => ⟨hasked, fun hcertain => ?_⟩,
      fun o ho hat => absurd (atScreening_any.mpr ⟨o, ho, hat⟩) hscreening⟩
    subst hcertain
    have hpart := State.beginRelease_partAttached hdecided rfl rfl
    exact hpart

theorem endsWith_congr {t u : State} {l : LaneId} {code : ResultCode}
    (hdialogue : (u.lane l).dialogue = (t.lane l).dialogue) (hresult : (u.lane l).lastResult = (t.lane l).lastResult)
    (h : endsWith t l code) : endsWith u l code := by
  unfold endsWith
  rw [hdialogue, hresult]
  exact h

theorem recordAsked_congr {t u : State} {l : LaneId} {d : Dialogue} {code : ResultCode}
    {before after : List RecordRequest} (hdialogue : (u.lane l).dialogue = (t.lane l).dialogue)
    (hqueue : u.journal.queue = t.journal.queue ++ after) (h : recordAsked t l d code before []) :
    recordAsked u l d code before after := by
  obtain ⟨hphase, hnone, hrecord⟩ := h
  unfold recordAsked
  rw [hdialogue, hqueue]
  refine ⟨hphase, fun hcertain hunknown => ?_, fun hknown => ?_⟩
  · obtain ⟨hqueued, hover⟩ := hnone hcertain hunknown
    exact ⟨by rw [hqueued, List.append_nil], hover⟩
  · obtain ⟨hsome, record, hqueued, hfields⟩ := hrecord hknown
    exact ⟨hsome, record, by rw [hqueued, List.append_assoc, List.singleton_append], hfields⟩

/-- The end of a dialogue with what the same step then does to credits, causes and what is shown. -/
theorem endsNow_congr {s t u : State} {l : LaneId} {d : Dialogue} {code : ResultCode} {ended : List Credit}
    (hdialogue : (u.lane l).dialogue = (t.lane l).dialogue) (hresult : (u.lane l).lastResult = (t.lane l).lastResult)
    (hqueue : u.journal.queue = t.journal.queue ++ ended.map (droppedRequest s l))
    (hentry : ∀ e, findSighting t.screening.table d.card = some e → ∃ mark,
      findSighting u.screening.table d.card = some { e with mark := mark } ∧
        ((∀ c ∈ ended, c.card ≠ d.card) → mark = e.mark))
    (h : endsNow s t l d code []) : endsNow s u l d code ended := by
  obtain ⟨hends, hnow, hwaits⟩ := h
  refine ⟨endsWith_congr hdialogue hresult hends, fun hfree => ?_, fun o ho hat => ?_⟩
  · obtain ⟨hasked, hpart⟩ := hnow hfree
    refine ⟨recordAsked_congr hdialogue hqueue hasked, fun hcertain e image result he himage hexpected hpricing => ?_⟩
    obtain ⟨mark, hfound, hmark⟩ := hpart hcertain e image result he himage hexpected hpricing
    obtain ⟨mark', hfound', hmark'⟩ := hentry _ hfound
    exact ⟨mark', hfound', fun hnone => (hmark' hnone).trans (hmark nofun)⟩
  · obtain ⟨hqueued, y, hy, houtcome, hphase, hout⟩ := hwaits o ho hat
    rw [List.map_nil, List.append_nil] at hqueued
    exact ⟨by rw [hqueue, hqueued], y, hdialogue.trans hy, houtcome, hphase, hout⟩

/-- The end of a dialogue turns on the lane's dialogue and last result, the queue and the table alone. -/
theorem endsNow_same {s t u : State} {l : LaneId} {d : Dialogue} {code : ResultCode} {ended : List Credit}
    (hdialogue : (u.lane l).dialogue = (t.lane l).dialogue) (hresult : (u.lane l).lastResult = (t.lane l).lastResult)
    (hqueue : u.journal.queue = t.journal.queue) (htable : u.screening.table = t.screening.table)
    (h : endsNow s t l d code ended) : endsNow s u l d code ended := by
  unfold endsNow endsWith recordAsked partAttached at *
  rw [hdialogue, hresult, hqueue, htable]
  exact h

/-- What is shown at the step's end changes nothing of it. -/
theorem endsNow_conclude {s t : State} {l : LaneId} {d : Dialogue} {code : ResultCode} {ended : List Credit}
    (h : endsNow s t l d code ended) : endsNow s (State.conclude s t) l d code ended := by
  have hconcluded : (State.conclude s t).lane l = _ := State.conclude_concluded s t l
  have hdialogue := congrArg Lane.dialogue hconcluded
  have hresult := congrArg Lane.lastResult hconcluded
  exact endsNow_same hdialogue hresult (by rw [State.conclude_journal]) (by rw [State.conclude_screening]) h

/-- The end of a dialogue as it stands in a state before, with the same queue, sightings and station time. -/
theorem endsNow_of_before {s s' t : State} {l : LaneId} {d : Dialogue} {code : ResultCode} {ended : List Credit}
    (hqueue : s'.journal.queue = s.journal.queue) (htable : s'.screening.table = s.screening.table)
    (hnow : s'.now = s.now) (h : endsNow s' t l d code ended) : endsNow s t l d code ended := by
  have hinstant : s'.instant = s.instant := congrArg StationTime.instant hnow
  unfold endsNow partAttached droppedRequest at *
  rw [hqueue, htable, hnow, hinstant] at h
  exact h

end Sys2Proof.Machine
end

section
/-! SUPPORT. What a lane's leaving service does: its field OFF with the end of a dialogue, its passage over, its credits
dropped (02 R12 to R14; 03 R63; 07 R137, R141); and when a lane's stamp advances (10 R189). -/

namespace Sys2Proof.Machine

open Sys2Proof

/-! ## Stamps -/

/-- A lane at the end of a step is what publishing it makes of it. -/
theorem State.conclude_lane_published (b s : State) (l : LaneId) :
    ∃ t : State, t.lane l =
        { s.lane l with journalFull := if 4 ≤ s.journal.openRoom then false else (s.lane l).journalFull } ∧
      t.emergency = s.emergency ∧ (State.conclude b s).lane l = (State.publishLane b t l).lane l := by
  have hemergency : ∀ (t : State) k, (State.publishLane b t k).emergency = t.emergency := fun t k => by
    unfold State.publishLane
    dsimp only
    split <;> rfl
  have hsettled : s.settleJournalFull.emergency = s.emergency := by
    unfold State.settleJournalFull
    split <;> rfl
  unfold State.conclude
  dsimp only
  rw [State.publishReadiness_lane]
  cases l
  · rw [State.publishLane_other b _ (by decide), State.publishLane_other b _ (by decide),
      State.publishLane_other b _ (by decide)]
    exact ⟨_, State.settleJournalFull_lane s .lane0, hsettled, rfl⟩
  · rw [State.publishLane_other b _ (by decide), State.publishLane_other b _ (by decide)]
    refine ⟨_, ?_, ?_, rfl⟩
    · rw [State.publishLane_other b _ (by decide)]
      exact State.settleJournalFull_lane s .lane1
    · rw [hemergency, hsettled]
  · rw [State.publishLane_other b _ (by decide)]
    refine ⟨_, ?_, ?_, rfl⟩
    · rw [State.publishLane_other b _ (by decide), State.publishLane_other b _ (by decide)]
      exact State.settleJournalFull_lane s .lane2
    · rw [hemergency, hemergency, hsettled]
  · refine ⟨_, ?_, ?_, rfl⟩
    · rw [State.publishLane_other b _ (by decide), State.publishLane_other b _ (by decide),
        State.publishLane_other b _ (by decide)]
      exact State.settleJournalFull_lane s .lane3
    · rw [hemergency, hemergency, hemergency, hsettled]

/-- A lane's stamp advances by one exactly when it shows something else or a field was written (R189). -/
theorem State.conclude_stamp (b s : State) (l : LaneId) :
    ((State.conclude b s).lane l).stamp =
      if shownFields (b.lane l) b.emergency = shownFields
          { s.lane l with journalFull := if 4 ≤ s.journal.openRoom then false else (s.lane l).journalFull }
          s.emergency ∧
        (s.lane l).rewritten = [] then (s.lane l).stamp
      else (s.lane l).stamp + 1#16 := by
  obtain ⟨t, hlane, hemergency, hpublished⟩ := State.conclude_lane_published b s l
  rw [hpublished, State.publishLane_stamp, hlane, hemergency]

theorem State.conclude_stamp_of_rewritten {b s : State} {l : LaneId} (h : (s.lane l).rewritten ≠ []) :
    ((State.conclude b s).lane l).stamp = (s.lane l).stamp + 1#16 := by
  rw [State.conclude_stamp, if_neg fun ⟨_, hnone⟩ => h hnone]

/-! ## Credits that end together -/

/-- The record of a credit that ends (R141, R178). -/
def endedRequest (s : State) (l : LaneId) (kind : RecordKind) (c : Credit) : RecordRequest :=
  ⟨Record.blank kind l c.direction .none c.card s.now, .credit, .nobody⟩

/-- The mark of a card's entry after the report of a credit's end (R128). -/
def State.markReported (s : State) (c : Credit) (kind : RecordKind) (mark : CreditMark) : CreditMark :=
  match mark with
  | .pending _ sequence => if sequence = c.sequence then markAfterEnd s.params kind c.direction s.instant else mark
  | _ => mark

theorem State.endCredit_eq (s : State) (l : LaneId) (kind : RecordKind) (c : Credit) :
    s.endCredit l kind c = (s.enqueue (endedRequest s l kind c)).setTable
      (changeSighting s.screening.table c.card fun e => { e with mark := s.markReported c kind e.mark }) := by
  unfold State.endCredit State.reportCreditEnd
  refine congrArg (fun f => (s.enqueue (endedRequest s l kind c)).setTable
    (changeSighting s.screening.table c.card f)) (funext fun e => ?_)
  obtain ⟨card, claim, image, part, mark, suspect, touched⟩ := e
  cases mark with
  | pending m sequence =>
    dsimp only [State.markReported]
    split <;> rfl
  | none | used | unused => rfl

theorem findSighting_marked {t : List Sighting} {changed : CardNumber} (f : CreditMark → CreditMark)
    (card : CardNumber) :
    findSighting (changeSighting t changed fun e => { e with mark := f e.mark }) card =
      (findSighting t card).map fun e => { e with mark := if card = changed then f e.mark else e.mark } := by
  by_cases h : card = changed
  · subst h
    rw [findSighting_changeSighting_self]
    simp only [if_pos]
  · rw [findSighting_changeSighting_ne _ h]
    simp only [if_neg h, Option.map_id']

/-- The state after the ends of a lane's credits: their records asked for, in order, and their marks. -/
theorem State.endCredits_exists (l : LaneId) (kind : RecordKind) : ∀ (cs : List Credit) (s : State),
    ∃ table due, s.endCredits l kind cs = { s with
        screening := { s.screening with table := table }
        journal := { s.journal with queue := s.journal.queue ++ cs.map (endedRequest s l kind), writeDue := due } } ∧
      (cs = [] → due = s.journal.writeDue) ∧
      (∀ card, findSighting s.screening.table card = none → findSighting table card = none) ∧
      ∀ card e, findSighting s.screening.table card = some e → ∃ mark,
        findSighting table card = some { e with mark := mark } ∧ ((∀ c ∈ cs, c.card ≠ card) → mark = e.mark)
  | [], s => ⟨s.screening.table, s.journal.writeDue, by rw [List.map_nil, List.append_nil]; rfl, fun _ => rfl,
      fun _ h => h, fun _ e he => ⟨e.mark, he, fun _ => rfl⟩⟩
  | c :: rest, s => by
    obtain ⟨table, due, heq, -, hnone, hsome⟩ := State.endCredits_exists l kind rest (s.endCredit l kind c)
    rw [State.endCredit_eq] at heq hnone hsome
    have hfirst : ∀ card, findSighting (State.setTable (s.enqueue (endedRequest s l kind c))
        (changeSighting s.screening.table c.card fun e => { e with mark := s.markReported c kind e.mark })
        ).screening.table card = (findSighting s.screening.table card).map fun e =>
          { e with mark := if card = c.card then s.markReported c kind e.mark else e.mark } :=
      findSighting_marked (s.markReported c kind)
    refine ⟨table, due, ?_, nofun, fun card hcard => hnone card ?_, fun card e he => ?_⟩
    · rw [State.endCredits, State.endCredit_eq, heq, List.map_cons, List.append_cons]
      rfl
    · rw [hfirst, hcard]
      rfl
    · obtain ⟨mark, hfound, hmark⟩ := hsome card _ ((hfirst card).trans (congrArg _ he))
      refine ⟨mark, hfound, fun hall => (hmark fun k hk => hall k (List.mem_cons_of_mem _ hk)).trans ?_⟩
      exact if_neg (Ne.symm (hall c List.mem_cons_self))

/-! ## The field going OFF -/

/-- The parts of a lane that its field's going OFF writes (R12, R14, R38). -/
structure Lane.FieldEnds (x y : Lane) : Prop where
  parts : y = { x with
    field := .off
    carrier := y.carrier
    link := y.link
    dialogue := y.dialogue
    watch := y.watch
    lastResult := y.lastResult
    rewritten := y.rewritten
    journalFull := y.journalFull
    timedDisplay := y.timedDisplay
    waitRequest := y.waitRequest
    inProgress := y.inProgress
    tone := y.tone }
  kept : x.rewritten <:+ y.rewritten
  rewritten : x.field ≠ .off → y.rewritten ≠ []

theorem Lane.dark_fieldEnds (x : Lane) : x.FieldEnds x.dark :=
  ⟨rfl, List.suffix_cons 3 _, fun _ => List.cons_ne_nil 3 _⟩

theorem Lane.fieldEnds_of_off {x : Lane} (h : x.field = .off) : x.FieldEnds x :=
  ⟨by rw [← h], List.suffix_rfl, fun hne => absurd h hne⟩

theorem Lane.FieldEnds.endsDialogue {x y z : Lane} (h : x.FieldEnds y) (k : y.EndsDialogue z) : x.FieldEnds z where
  parts := by rw [k.parts, h.parts]
  kept := h.kept.trans k.rewritten
  rewritten hne hnil := h.rewritten hne (List.suffix_nil.mp (hnil ▸ k.rewritten))

/-- What a lane's field going OFF does to the state (R14, R15, R18). -/
structure State.FieldEnds (s u : State) (l : LaneId) : Prop where
  state : u = { s with
    lanes := u.lanes
    scanner := (if (s.lane l).field = .sniff then s.scanner.leave l else s.scanner)
    engine := { s.engine with requests := u.engine.requests }
    screening := { s.screening with table := u.screening.table }
    journal := { s.journal with
      queue := u.journal.queue, writeDue := u.journal.writeDue, reserved := u.journal.reserved } }
  others : ∀ k, k ≠ l → u.lane k = s.lane k
  lane : (s.lane l).FieldEnds (u.lane l)
  aborted : ∀ d, (s.lane l).dialogue = some d → (s.lane l).field = .on → d.outcome = none →
    endsNow s u l d (if d.writeSent then .uncertain else .aborted) []
  idle : (s.lane l).dialogue = none → u.journal = s.journal ∧ u.engine = s.engine

theorem State.fieldEnds_of_dark {s u : State} {l : LaneId} (hstate : u = { s.updLane l Lane.dark with
    scanner := (if (s.lane l).field = .sniff then s.scanner.leave l else s.scanner) })
    (hnone : ∀ d, (s.lane l).dialogue = some d → (s.lane l).field = .on → d.outcome ≠ none) : s.FieldEnds u l := by
  subst hstate
  refine ⟨rfl, fun k hk => State.lane_updLane_ne _ _ hk, ?_, fun d hd hon hopen => absurd hopen (hnone d hd hon),
    fun _ => ⟨rfl, rfl⟩⟩
  have hlane := s.lane_updLane_self l Lane.dark
  have hdark := (s.lane l).dark_fieldEnds
  rw [← hlane] at hdark
  exact hdark

theorem State.fieldOff_fieldEnds (s : State) (l : LaneId) : s.FieldEnds (s.fieldOff l) l := by
  unfold State.fieldOff
  split
  next h =>
    refine ⟨?_, fun _ _ => rfl, Lane.fieldEnds_of_off h, fun d _ hon => absurd (h.symm.trans hon) (by decide),
      fun _ => ⟨rfl, rfl⟩⟩
    rw [h]
    rfl
  next h =>
    refine State.fieldEnds_of_dark ?_ fun d _ hon => absurd (h.symm.trans hon) (by decide)
    rw [if_pos h]
  next h =>
    have hscanner : (if (s.lane l).field = .sniff then s.scanner.leave l else s.scanner) = s.scanner :=
      if_neg (by rw [h]; decide)
    have hsame : ({ s.updLane l Lane.dark with
        scanner := (if (s.lane l).field = .sniff then s.scanner.leave l else s.scanner) } : State) =
        s.updLane l Lane.dark := by
      rw [hscanner]
      rfl
    have hdark : ((s.updLane l Lane.dark).lane l) = (s.lane l).dark := s.lane_updLane_self l Lane.dark
    have hdialogue : ((s.updLane l Lane.dark).lane l).dialogue = (s.lane l).dialogue := by rw [hdark]; rfl
    dsimp only
    split
    next hnone =>
      refine State.fieldEnds_of_dark hsame.symm fun d hd => ?_
      rw [hdialogue] at hnone
      exact absurd (hnone.symm.trans hd) nofun
    next d hd =>
      split
      next hsome =>
        refine State.fieldEnds_of_dark hsame.symm fun e he _ hopen => ?_
        rw [hdialogue] at hd
        obtain rfl := Option.some.inj (hd.symm.trans he)
        rw [hopen] at hsome
        contradiction
      next hopen =>
        have hends := State.endDialogue_endsDialogue (if d.writeSent then .uncertain else .aborted) true hd
        have hnow := State.endDialogue_endsNow (if d.writeSent then .uncertain else .aborted) true hd
        refine ⟨?_, fun k hk => (hends.others k hk).trans (State.lane_updLane_ne _ _ hk), ?_, fun e he _ _ => ?_,
          fun hnone => absurd (hdialogue.symm.trans hd) (by rw [hnone]; nofun)⟩
        · rw [hscanner]
          exact hends.state
        · exact (hdark ▸ (s.lane l).dark_fieldEnds).endsDialogue hends.lane
        · rw [hdialogue] at hd
          obtain rfl := Option.some.inj (hd.symm.trans he)
          exact endsNow_of_before rfl rfl rfl hnow

/-! ## Leaving service -/

/-- The parts of a lane that its leaving service writes (R137, R161). -/
structure Lane.LeavesService (x y : Lane) : Prop where
  parts : y = { x with
    field := .off
    carrier := y.carrier
    link := y.link
    dialogue := y.dialogue
    watch := y.watch
    lastResult := y.lastResult
    rewritten := y.rewritten
    journalFull := y.journalFull
    credits := []
    passage := none
    timedDisplay := none
    waitRequest := y.waitRequest
    inProgress := y.inProgress
    tone := y.tone }
  kept : x.rewritten <:+ y.rewritten
  rewritten : x.field ≠ .off → y.rewritten ≠ []

/-- What a lane's leaving service does to the state (R137, R141). -/
structure State.LeavesService (s u : State) (l : LaneId) : Prop where
  state : u = { s with
    lanes := u.lanes
    scanner := (if (s.lane l).field = .sniff then s.scanner.leave l else s.scanner)
    engine := { s.engine with requests := u.engine.requests }
    screening := { s.screening with table := u.screening.table }
    journal := { s.journal with
      queue := u.journal.queue, writeDue := u.journal.writeDue, reserved := u.journal.reserved } }
  others : ∀ k, k ≠ l → u.lane k = s.lane k
  lane : (s.lane l).LeavesService (u.lane l)
  aborted : abortedBy s u l
  idle : (s.lane l).dialogue = none →
    u.journal = { s.journal with
      queue := s.journal.queue ++ (s.lane l).credits.map (droppedRequest s l)
      writeDue := u.journal.writeDue } ∧
    u.engine = s.engine

theorem State.leaveService_leavesService (s : State) (l : LaneId) : s.LeavesService (s.leaveService l) l := by
  have hoff := s.fieldOff_fieldEnds l
  unfold State.leaveService State.dropCredits
  generalize s.fieldOff l = v at hoff ⊢
  have hcredits : (v.lane l).credits = (s.lane l).credits := by rw [hoff.lane.parts]
  have hlane : (v.updLane l fun x => { x with passage := none, timedDisplay := none }).lane l =
      { v.lane l with passage := none, timedDisplay := none } := State.lane_updLane_self _ _ _
  obtain ⟨w, hw⟩ : ∃ w, w = (v.updLane l fun x => { x with passage := none, timedDisplay := none }).updLane l
    fun x => { x with credits := [] } := ⟨_, rfl⟩
  have hwlane : w.lane l = { v.lane l with passage := none, timedDisplay := none, credits := [] } := by
    rw [hw, State.lane_updLane_self, hlane]
  have hwothers : ∀ k, k ≠ l → w.lane k = v.lane k := fun k hk => by
    rw [hw, State.lane_updLane_ne _ _ hk, State.lane_updLane_ne _ _ hk]
  have hwstate : w = { v with lanes := w.lanes } := by
    rw [hw]
    rfl
  dsimp only
  rw [hlane, ← hw]
  obtain ⟨table, due, heq, -, -, hmarks⟩ := State.endCredits_exists l .dropped (v.lane l).credits w
  have hrequests : (s.lane l).credits.map (endedRequest w l .dropped) =
      (s.lane l).credits.map (droppedRequest s l) := by
    have hnow : w.now = s.now := by
      rw [hwstate, hoff.state]
      rfl
    unfold endedRequest droppedRequest
    rw [hnow]
  rw [hcredits] at heq hmarks ⊢
  have hulane : ∀ k, (w.endCredits l .dropped (s.lane l).credits).lane k = w.lane k := fun k => by
    rw [heq]
    rfl
  have hjournal : w.journal = v.journal := by rw [hwstate]
  have hqueue : (w.endCredits l .dropped (s.lane l).credits).journal = { v.journal with
      queue := v.journal.queue ++ (s.lane l).credits.map (droppedRequest s l), writeDue := due } := by
    rw [heq, hrequests, hjournal]
  refine ⟨?_, fun k hk => ?_, ?_, fun d hd hon hopen => ?_, fun hnone => ?_⟩
  · rw [heq, hwstate, hoff.state]
  · rw [hulane, hwothers k hk, hoff.others k hk]
  · rw [hulane, hwlane]
    refine ⟨?_, hoff.lane.kept, hoff.lane.rewritten⟩
    rw [hoff.lane.parts]
  · refine endsNow_congr ?_ ?_ ?_ (fun e he => ?_) (hoff.aborted d hd hon hopen)
    · rw [hulane, hwlane]
    · rw [hulane, hwlane]
    · rw [hqueue]
    · have htable : w.screening.table = v.screening.table := by rw [hwstate]
      obtain ⟨mark, hfound, hmark⟩ := hmarks d.card e (htable ▸ he)
      refine ⟨mark, ?_, hmark⟩
      rw [heq]
      exact hfound
  · obtain ⟨hsame, hengine⟩ := hoff.idle hnone
    refine ⟨?_, ?_⟩
    · rw [hqueue, hsame]
    · rw [heq, hwstate]
      exact hengine

end Sys2Proof.Machine
end

section
/-! The lane orders: SET LANE MODE, RESET LANE, CLEAR LANE COUNTS (07 R135 to R137, R149, R159). -/

namespace Sys2Proof.Machine

open Sys2Proof

/-! ## Arguments and checks (R135) -/

theorem LaneId.ofNat?_toNat (l : LaneId) : LaneId.ofNat? l.toNat = some l := by
  cases l <;> rfl

theorem LaneMode.ofCode?_code (m : LaneMode) : LaneMode.ofCode? m.code = some m := by
  cases m <;> rfl

theorem LaneId.ofNat?_eq_none {n : Nat} (h : 3 < n) : LaneId.ofNat? n = none := by
  match n, h with
  | n + 4, _ => rfl

theorem LaneMode.ofCode?_eq_none {n : Nat} (h : 3 < n) : LaneMode.ofCode? n = none := by
  match n, h with
  | n + 4, _ => rfl

theorem Readiness.all_eq_false_iff (r : Readiness) : r.all = false ↔ r.summary ≠ 31 := by
  obtain ⟨a, b, c, d, e⟩ := r
  revert a b c d e
  decide

theorem grantInHand_iff (s : State) (l : LaneId) : s.granting l = true ↔ grantInHand s l := by
  unfold State.granting grantInHand
  cases (s.lane l).dialogue with
  | none => simp
  | some d => simp [Dialogue.granting]

theorem Lane.changesDirection_iff (x : Lane) (mode : LaneMode) :
    x.changesDirection mode = true ↔ x.mode = .entry ∧ mode = .exit ∨ x.mode = .exit ∧ mode = .entry := by
  simp [Lane.changesDirection]

/-- What SET LANE MODE does once its lane and mode are known. -/
def State.modeOrdered (s : State) (o : OrderInService) (l : LaneId) (mode : LaneMode) : State :=
  match s.modeRefusal l mode with
  | some code => s.answer o false code noData
  | none =>
    if s.modeCutsGrant l mode then s.defer .setLaneMode
    else (s.applyMode l mode).answer o true .none (.laneNow l)

theorem State.setLaneMode_of_args {s : State} {o : OrderInService} {l : LaneId} {mode : LaneMode}
    (h : s.Handed o 9) (hl : o.arg 0 1 = l.toNat) (hmode : o.arg 1 1 = mode.code) :
    s.setLaneMode = s.modeOrdered o l mode := by
  rw [State.setLaneMode, State.withOrder_of_handed h, hl, hmode, LaneId.ofNat?_toNat, LaneMode.ofCode?_code]
  rfl

theorem State.setLaneMode_of_bad {s : State} {o : OrderInService} (h : s.Handed o 9)
    (hbad : 3 < o.arg 0 1 ∨ 3 < o.arg 1 1) : s.setLaneMode = s.answer o false .argument noData := by
  rw [State.setLaneMode, State.withOrder_of_handed h]
  rcases hbad with hl | hmode
  · rw [LaneId.ofNat?_eq_none hl]
  · rw [LaneMode.ofCode?_eq_none hmode]
    cases LaneId.ofNat? (o.arg 0 1) <;> rfl

theorem exec_setLaneMode {s : State} {o : OrderInService} {l : LaneId} {mode : LaneMode}
    (hpin : s.sys.resetPin = false) (h : s.Handed o 9) (hl : o.arg 0 1 = l.toNat) (hmode : o.arg 1 1 = mode.code) :
    exec .setLaneMode s = .next (State.conclude s (s.modeOrdered o l mode)) :=
  exec_concluded hpin rfl (State.setLaneMode_of_args h hl hmode)

section
variable {s : State} {l : LaneId} {mode : LaneMode}

theorem State.modeRefusal_same (h : (s.lane l).mode = mode) : s.modeRefusal l mode = none := if_pos h

theorem State.modeRefusal_blocked (hnew : (s.lane l).mode ≠ mode)
    (h : s.emergency.asserted = true ∧ mode ≠ .free) : s.modeRefusal l mode = some .busy :=
  (if_neg hnew).trans (if_pos h)

theorem State.modeRefusal_unready (hnew : (s.lane l).mode ≠ mode)
    (hfree : ¬ (s.emergency.asserted = true ∧ mode ≠ .free))
    (h : (mode = .entry ∨ mode = .exit) ∧ s.orders.ready.summary ≠ 31) : s.modeRefusal l mode = some .notReady :=
  (if_neg hnew).trans ((if_neg hfree).trans (if_pos (by rwa [Readiness.all_eq_false_iff])))

theorem State.modeRefusal_rest (hnew : (s.lane l).mode ≠ mode)
    (hfree : ¬ (s.emergency.asserted = true ∧ mode ≠ .free))
    (hready : ¬ ((mode = .entry ∨ mode = .exit) ∧ s.orders.ready.summary ≠ 31)) :
    s.modeRefusal l mode =
      if ((s.lane l).mode = .entry ∧ mode = .exit ∨ (s.lane l).mode = .exit ∧ mode = .entry) ∧
        ((s.lane l).credits ≠ [] ∨ (s.lane l).passage ≠ none ∨ (s.lane l).dialogue ≠ none) then some .busy
      else none := by
  refine (if_neg hnew).trans ((if_neg hfree).trans ((if_neg (by rwa [Readiness.all_eq_false_iff])).trans ?_))
  simp only [Lane.changesDirection_iff, Option.isSome_iff_ne_none]

end

/-! ## What the leaves do -/

/-- Only the passage state and the drive move. -/
def Lane.Moves (x y : Lane) : Prop := y = { x with pc := y.pc, drive := y.drive }

theorem Lane.Moves.refl (x : Lane) : x.Moves x := rfl

theorem Lane.Moves.trans {x y z : Lane} (h : x.Moves y) (k : y.Moves z) : x.Moves z := by
  unfold Lane.Moves at *
  rw [k, h]

theorem Lane.moves_pc (x : Lane) (pc : PcState) : x.Moves { x with pc := pc } := rfl

section
variable (p : Parameters) (tb : Nat) (x : Lane)

theorem Lane.closingTest_moves : x.Moves (x.closingTest p tb) := by
  unfold Lane.closingTest
  split <;> rfl

theorem Lane.settle_moves : x.Moves (x.settle p tb) := by
  unfold Lane.settle
  split
  · rfl
  · split <;> rfl

theorem Lane.enterFree_moves : x.Moves (x.enterFree p tb) := by
  unfold Lane.enterFree
  split
  · rfl
  · split <;> rfl

theorem Lane.intoOut_moves : x.Moves (x.intoOut p tb) := by
  unfold Lane.intoOut
  dsimp only
  split
  · exact (x.moves_pc _).trans (Lane.closingTest_moves p tb _)
  · exact (x.moves_pc _).trans (Lane.closingTest_moves p tb _)
  · exact Lane.closingTest_moves p tb x

/-- The mode FREE opens the leaves: an opening stroke, or the open limit reached (R136). -/
theorem Lane.enterFree_opens : (x.enterFree p tb).pc = .free ∧
    ((x.enterFree p tb).stroking = some .atOpen ∨ (x.enterFree p tb).drive = .hold .atOpen ∨
      ∃ due, (x.enterFree p tb).drive = .brake .atOpen due) := by
  unfold Lane.enterFree
  split
  next h =>
    refine ⟨rfl, .inr ?_⟩
    change x.drive.restOpen = .hold .atOpen ∨ ∃ due, x.drive.restOpen = .brake .atOpen due
    unfold Lane.leavesOpen at h
    unfold Drive.restOpen
    split at h <;> simp_all
  next =>
    split
    next h => exact ⟨rfl, .inl h⟩
    next => exact ⟨rfl, .inl rfl⟩

end

/-! ## Modes out of service (R136, R137) -/

/-- A mode that takes the lane out of service: the lane with the mode leaves service, then its leaves move. -/
def State.outOfService (s : State) (l : LaneId) (mode : LaneMode) (f : Parameters → Nat → Lane → Lane) : State :=
  ((s.updLane l fun x => { x with mode := mode }).leaveService l).onLane l f

theorem State.applyMode_out {s : State} {l : LaneId} (hnew : (s.lane l).mode ≠ .out) (hpc : (s.lane l).pc ≠ .fault) :
    s.applyMode l .out = s.outOfService l .out Lane.intoOut := (if_neg hnew).trans (if_neg hpc)

theorem State.applyMode_free {s : State} {l : LaneId} (hnew : (s.lane l).mode ≠ .free)
    (hpc : (s.lane l).pc ≠ .fault) : s.applyMode l .free = s.outOfService l .free Lane.enterFree :=
  (if_neg hnew).trans (if_neg hpc)

/-- What a mode out of service does to the state and the lane. -/
structure State.ModeLeaves (s u : State) (l : LaneId) (mode : LaneMode) (f : Parameters → Nat → Lane → Lane) :
    Prop where
  state : u = { s with
    lanes := u.lanes
    scanner := (if (s.lane l).field = .sniff then s.scanner.leave l else s.scanner)
    engine := { s.engine with requests := u.engine.requests }
    screening := { s.screening with table := u.screening.table }
    journal := { s.journal with
      queue := u.journal.queue, writeDue := u.journal.writeDue, reserved := u.journal.reserved } }
  others : ∀ k, k ≠ l → u.lane k = s.lane k
  lane : ∃ y : Lane, Lane.LeavesService { s.lane l with mode := mode } y ∧ u.lane l = f s.params s.timeBase y
  aborted : abortedBy s u l
  idle : (s.lane l).dialogue = none →
    u.journal = { s.journal with
      queue := s.journal.queue ++ (s.lane l).credits.map (droppedRequest s l)
      writeDue := u.journal.writeDue } ∧
    u.engine = s.engine

theorem State.outOfService_leaves (s : State) (l : LaneId) (mode : LaneMode) {f : Parameters → Nat → Lane → Lane}
    (hf : ∀ p tb x, Lane.Moves x (f p tb x)) : s.ModeLeaves (s.outOfService l mode f) l mode f := by
  have hset : (s.updLane l fun x => { x with mode := mode }).lane l = { s.lane l with mode := mode } :=
    s.lane_updLane_self l _
  have hothers : ∀ k, k ≠ l → (s.updLane l fun x => { x with mode := mode }).lane k = s.lane k := fun k hk =>
    s.lane_updLane_ne _ hk
  obtain ⟨v, hv⟩ : ∃ v, v = s.updLane l fun x => { x with mode := mode } := ⟨_, rfl⟩
  have hvstate : v = { s with lanes := v.lanes } := by
    rw [hv]
    rfl
  rw [← hv] at hset hothers
  unfold State.outOfService
  rw [← hv]
  have hleaves := v.leaveService_leavesService l
  generalize v.leaveService l = w at hleaves ⊢
  have hwlane : (w.onLane l f).lane l = f w.params w.timeBase (w.lane l) := State.lane_updLane_self _ _ _
  have hwstate : w.onLane l f = { w with lanes := (w.onLane l f).lanes } := rfl
  have hdialogue : ((w.onLane l f).lane l).dialogue = (w.lane l).dialogue := by
    rw [hwlane, hf]
  have hresult : ((w.onLane l f).lane l).lastResult = (w.lane l).lastResult := by
    rw [hwlane, hf]
  refine ⟨?_, fun k hk => ?_, ⟨w.lane l, hset ▸ hleaves.lane, ?_⟩, fun d hd hon hopen => ?_, fun hnone => ?_⟩
  · have hscanner : (if (v.lane l).field = .sniff then v.scanner.leave l else v.scanner) =
        if (s.lane l).field = .sniff then s.scanner.leave l else s.scanner := by
      rw [hset, hvstate]
    have hstate := hleaves.state
    rw [hscanner] at hstate
    rw [hwstate, hstate, hvstate]
  · rw [State.onLane, State.lane_updLane_ne _ _ hk, hleaves.others k hk, hothers k hk]
  · have hparams : w.params = s.params := by
      rw [hleaves.state, hvstate]
    have htime : w.timeBase = s.timeBase := by
      rw [hleaves.state, hvstate]
    rw [hwlane, hparams, htime]
  · have haborted := hleaves.aborted d (hset ▸ hd) (hset ▸ hon) hopen
    rw [hset] at haborted
    have hbefore : endsNow s w l d (if d.writeSent then .uncertain else .aborted) (s.lane l).credits :=
      endsNow_of_before (by rw [hvstate]) (by rw [hvstate]) (by rw [hvstate]; rfl) haborted
    exact endsNow_same hdialogue hresult rfl rfl hbefore
  · obtain ⟨hjournal, hengine⟩ := hleaves.idle (hset ▸ hnone)
    rw [hset] at hjournal
    have hrequests : droppedRequest v l = droppedRequest s l := by
      rw [hvstate]
      rfl
    rw [hrequests] at hjournal
    refine ⟨?_, ?_⟩
    · change w.journal = _
      rw [hjournal, hvstate]
      rfl
    · change w.engine = _
      rw [hengine, hvstate]

theorem State.modeCutsGrant_eq_false {s : State} {l : LaneId} {mode : LaneMode} (h : ¬ grantInHand s l) :
    s.modeCutsGrant l mode = false := by
  have hgranting : s.granting l = false := Bool.eq_false_iff.mpr fun hg => h ((grantInHand_iff s l).mp hg)
  rw [State.modeCutsGrant, hgranting, Bool.and_false]

/-- Settles O34. -/
theorem leavingServiceEndsWhatTheLaneDoes : Obligations.LeavingServiceEndsWhatTheLaneDoes := by
  intro s o l mode hpin hhanded hl hmode hout hnew hpc hemergency hgrant
  obtain ⟨ho, -⟩ := id hhanded
  have hnotService : ¬ (mode = .entry ∨ mode = .exit) := by
    rcases hout with rfl | rfl <;> decide
  have hrefusal : s.modeRefusal l mode = none := by
    rw [State.modeRefusal_rest hnew (fun ⟨h, h'⟩ => h' (hemergency h)) fun ⟨h, _⟩ => hnotService h]
    refine if_neg fun ⟨h, _⟩ => hnotService ?_
    rcases h with ⟨-, h⟩ | ⟨-, h⟩
    · exact .inr h
    · exact .inl h
  obtain ⟨f, hmoves, happly, hfree⟩ : ∃ f : Parameters → Nat → Lane → Lane, (∀ p tb x, Lane.Moves x (f p tb x)) ∧
      s.applyMode l mode = s.outOfService l mode f ∧ (mode = .free → ∀ p tb x, (f p tb x).pc = .free) := by
    rcases hout with rfl | rfl
    · exact ⟨Lane.intoOut, Lane.intoOut_moves, State.applyMode_out hnew hpc, nofun⟩
    · exact ⟨Lane.enterFree, Lane.enterFree_moves, State.applyMode_free hnew hpc,
        fun _ p tb x => (x.enterFree_opens p tb).1⟩
  have hordered : s.modeOrdered o l mode = (s.outOfService l mode f).answer o true .none (.laneNow l) := by
    rw [State.modeOrdered, hrefusal]
    dsimp only
    rw [if_neg (by rw [State.modeCutsGrant_eq_false hgrant]; exact Bool.false_ne_true), happly]
  have hleaves := s.outOfService_leaves l mode hmoves
  have hexec := exec_setLaneMode hpin hhanded hl hmode
  rw [hordered] at hexec
  generalize s.outOfService l mode f = v at hleaves hexec
  have hservice : v.orders = s.orders := by rw [hleaves.state]
  obtain ⟨y, hy, hlane⟩ := hleaves.lane
  obtain ⟨lanes, m, hconclude, hconcluded, hkept, -⟩ := State.conclude_exists s (v.answer o true .none (.laneNow l))
  have hmem : (v.answer o true .none (.laneNow l)).mem = s.mem := by
    change v.mem = s.mem
    rw [hleaves.state]
  have hshown : lanes.get l = _ := hconcluded l
  have hcl : (v.answer o true .none (.laneNow l)).lane l = f s.params s.timeBase y := hlane
  rw [hcl] at hshown
  obtain ⟨z, hz⟩ : ∃ z, z = f s.params s.timeBase y := ⟨_, rfl⟩
  have hparts : z = { y with pc := z.pc, drive := z.drive } := hz ▸ hmoves s.params s.timeBase y
  rw [← hz] at hshown
  have hends : abortedBy s (State.conclude s (v.answer o true .none (.laneNow l))) l := fun d hd hon hopen =>
    endsNow_conclude (endsNow_same rfl rfl rfl rfl (hleaves.aborted d hd hon hopen))
  rw [hconclude] at hexec hends
  refine ⟨_, hexec, ?_, State.endedWith_of ho (w := v) (by rw [hservice, ho]) rfl, fun k hk => ?_,
    fun a hnot _ => (hkept a hnot).trans (by rw [hmem]), (congrArg Lane.mode hshown).trans ?_,
    (congrArg Lane.field hshown).trans ?_, (congrArg Lane.credits hshown).trans ?_,
    (congrArg Lane.passage hshown).trans ?_, (congrArg Lane.timedDisplay hshown).trans ?_,
    (congrArg Lane.beams hshown).trans ?_, fun h => (congrArg Lane.pc hshown).trans ?_, hends, fun hnone => ?_⟩
  · rw [hleaves.state]
    rfl
  · have hother : (v.answer o true .none (.laneNow l)).lane k = s.lane k := hleaves.others k hk
    exact hother ▸ hconcluded k
  · rw [hparts, hy.parts]
  · rw [hparts, hy.parts]
  · rw [hparts, hy.parts]
  · rw [hparts, hy.parts]
  · rw [hparts, hy.parts]
  · rw [hparts, hy.parts]
  · rw [hz]
    exact hfree h _ _ _
  · exact hleaves.idle hnone

end Sys2Proof.Machine
end

section
/-! SET LANE MODE (07 R135, R136, R156). -/

namespace Sys2Proof.Machine

open Sys2Proof

/-! ## What a mode that is set leaves -/

/-- A mode that is set changes no order, and only its lane. -/
structure State.ModeSet (s u : State) (l : LaneId) (mode : LaneMode) : Prop where
  orders : u.orders = s.orders
  mode : (u.lane l).mode = mode

theorem State.ModeLeaves.modeSet {s u : State} {l : LaneId} {mode : LaneMode} {f : Parameters → Nat → Lane → Lane}
    (h : s.ModeLeaves u l mode f) (hf : ∀ p tb x, Lane.Moves x (f p tb x)) : s.ModeSet u l mode := by
  obtain ⟨y, hy, hlane⟩ := h.lane
  refine ⟨by rw [h.state], ?_⟩
  rw [hlane, hf, hy.parts]

/-- In service only the leaves move and the field may return to SNIFF. -/
theorem Lane.serviceField_mode (x : Lane) : x.serviceField.mode = x.mode := by
  unfold Lane.serviceField
  split <;> rfl

theorem Lane.intoService_mode (p : Parameters) (tb : Nat) (x : Lane) : (x.intoService p tb).mode = x.mode := by
  have hrest : ∀ y : Lane, (y.serviceField.closingTest p tb).mode = y.mode := fun y => by
    rw [Lane.closingTest_moves, Lane.serviceField_mode]
  unfold Lane.intoService
  dsimp only
  rw [hrest]
  split
  · rw [Lane.settle_moves]
  · rfl
  · rfl

theorem State.applyMode_inService {s : State} {l : LaneId} {mode : LaneMode} (hnew : (s.lane l).mode ≠ mode)
    (hpc : (s.lane l).pc ≠ .fault) (h : mode = .entry ∨ mode = .exit) :
    s.applyMode l mode = s.setLane l (Lane.intoService s.params s.timeBase { s.lane l with mode := mode }) := by
  have heq : s.applyMode l mode = (s.updLane l fun x => { x with mode := mode }).onLane l Lane.intoService := by
    rcases h with rfl | rfl <;> exact (if_neg hnew).trans (if_neg hpc)
  rw [heq, State.onLane, State.updLane, State.lane_updLane_self, State.updLane, State.setLane_setLane]
  rfl

theorem State.applyMode_fault {s : State} {l : LaneId} {mode : LaneMode} (hnew : (s.lane l).mode ≠ mode)
    (hpc : (s.lane l).pc = .fault) : s.applyMode l mode = s.setLane l { s.lane l with mode := mode } :=
  (if_neg hnew).trans (if_pos hpc)

theorem State.applyMode_modeSet {s : State} {l : LaneId} {mode : LaneMode} (hnew : (s.lane l).mode ≠ mode) :
    s.ModeSet (s.applyMode l mode) l mode := by
  by_cases hpc : (s.lane l).pc = .fault
  · rw [State.applyMode_fault hnew hpc]
    exact ⟨rfl, by rw [State.lane_setLane_self]⟩
  · have hservice : mode = .entry ∨ mode = .exit → s.ModeSet (s.applyMode l mode) l mode := fun h => by
      rw [State.applyMode_inService hnew hpc h]
      exact ⟨rfl, by rw [State.lane_setLane_self, Lane.intoService_mode]⟩
    cases mode with
    | out =>
      rw [State.applyMode_out hnew hpc]
      exact (s.outOfService_leaves l .out Lane.intoOut_moves).modeSet Lane.intoOut_moves
    | free =>
      rw [State.applyMode_free hnew hpc]
      exact (s.outOfService_leaves l .free Lane.enterFree_moves).modeSet Lane.enterFree_moves
    | entry => exact hservice (.inl rfl)
    | exit => exact hservice (.inr rfl)

/-! ## A lane in OUT that enters service (R13, R156) -/

theorem Lane.inServiceMode_iff (x : Lane) : x.inServiceMode = true ↔ x.mode = .entry ∨ x.mode = .exit := by
  simp [Lane.inServiceMode]

/-- The field of a settled lane in service goes to SNIFF, and no closing test is left to make. -/
theorem Lane.service_of_settled (p : Parameters) (tb : Nat) {y : Lane} (hmode : y.mode = .entry ∨ y.mode = .exit)
    (hfield : y.field = .off) (hpc : y.pc = .closed ∨ y.pc = .opening ∨ y.pc = .closing) :
    y.serviceField.closingTest p tb = y.enterSniff := by
  have hsniff : y.serviceField = y.enterSniff :=
    if_pos ⟨hfield, y.inServiceMode_iff.mpr hmode, hpc.imp_right fun h => h.imp_right .inr⟩
  rw [hsniff]
  refine if_neg fun ⟨hopened, _⟩ => ?_
  change y.pc = .opened at hopened
  rw [hopened] at hpc
  simp at hpc

theorem Lane.intoService_of_out (p : Parameters) (tb : Nat) {x : Lane} (hmode : x.mode = .entry ∨ x.mode = .exit)
    (hpc : x.pc = .out) (hfield : x.field = .off) :
    (x.closedLimit = true → x.stroking = none →
      x.intoService p tb = Lane.enterSniff { x with pc := .closed, drive := .hold .atClosed }) ∧
    (x.closedLimit = false ∨ x.stroking ≠ none → x.beams.middle = .clear →
      x.intoService p tb = (x.startClosing p tb).enterSniff) ∧
    (x.closedLimit = false ∨ x.stroking ≠ none → x.beams.middle = .blocked →
      x.intoService p tb = (x.startOpening p tb).enterSniff) := by
  have hsettle : x.intoService p tb = ((x.settle p tb).serviceField).closingTest p tb := by
    unfold Lane.intoService
    dsimp only
    rw [hpc]
  rw [hsettle, Lane.settle]
  refine ⟨fun hclosed hstill => ?_, fun hmoving hclear => ?_, fun hmoving hblocked => ?_⟩
  · rw [if_pos ⟨hclosed, hstill⟩, (x.inServiceMode_iff.mpr hmode), if_pos rfl]
    exact Lane.service_of_settled p tb hmode hfield (.inl rfl)
  · rw [if_neg (by rintro ⟨hclosed, hstill⟩; simp [hclosed, hstill] at hmoving), if_pos hclear]
    exact Lane.service_of_settled p tb hmode hfield (.inr (.inr rfl))
  · rw [if_neg (by rintro ⟨hclosed, hstill⟩; simp [hclosed, hstill] at hmoving),
      if_neg (by rw [hblocked]; decide)]
    exact Lane.service_of_settled p tb hmode hfield (.inr (.inl rfl))

/-! ## The order -/

section
variable {s : State} {o : OrderInService} {l : LaneId} {mode : LaneMode}

theorem State.modeOrdered_of_refusal {code : OrderCode} (h : s.modeRefusal l mode = some code) :
    s.modeOrdered o l mode = s.answer o false code noData := by
  rw [State.modeOrdered, h]

theorem State.modeOrdered_of_pass (h : s.modeRefusal l mode = none) :
    s.modeOrdered o l mode =
      if s.modeCutsGrant l mode then s.defer .setLaneMode
      else (s.applyMode l mode).answer o true .none (.laneNow l) := by
  rw [State.modeOrdered, h]

theorem State.modeOrdered_same (h : (s.lane l).mode = mode) :
    s.modeOrdered o l mode = s.answer o true .none (.laneNow l) := by
  have hcuts : s.modeCutsGrant l mode = false := by simp [State.modeCutsGrant, h]
  have happly : s.applyMode l mode = s := if_pos h
  rw [State.modeOrdered_of_pass (State.modeRefusal_same h), hcuts, if_neg Bool.false_ne_true, happly]

/-- The grants in hand that a mode out of service would cut. -/
theorem State.modeCutsGrant_iff (hnew : (s.lane l).mode ≠ mode) :
    s.modeCutsGrant l mode = true ↔ (s.lane l).pc ≠ .fault ∧ ¬ (mode = .entry ∨ mode = .exit) ∧ grantInHand s l := by
  have hout : (mode = .out ∨ mode = .free) ↔ ¬ (mode = .entry ∨ mode = .exit) := by
    cases mode <;> decide
  simp only [State.modeCutsGrant, Bool.and_eq_true, Bool.or_eq_true, decide_eq_true_iff, grantInHand_iff, and_assoc,
    hout, hnew, ne_eq, not_false_eq_true, true_and]

theorem State.conclude_answer_of_settled (hs : s.Settled) (done : Bool) (code : OrderCode) (data : ResultData) :
    State.conclude s (s.answer o done code data) = s.answer o done code data :=
  State.conclude_of_quiet hs (.of_lanes rfl rfl rfl) rfl

end

theorem laneBecomes_conclude {s u : State} {l : LaneId} {x : Lane} (hlane : u.lane l = x)
    (hothers : ∀ k, k ≠ l → u.lane k = s.lane k) (hmem : u.mem = s.mem) :
    laneBecomes s (State.conclude s u) l x := by
  refine ⟨?_, State.OtherLanesKept.conclude hothers, State.MemoryKept.conclude (.of_mem _ hmem)⟩
  have hconcluded := State.conclude_concluded s u l
  rwa [hlane] at hconcluded

/-- Settles O33. -/
theorem laneModeIsSetOrRefused : Obligations.LaneModeIsSetOrRefused := by
  intro s o hpin hs hhanded
  obtain ⟨ho, -⟩ := id hhanded
  refine ⟨fun hbad => ?_, ?_⟩
  · exact ⟨_, exec_of_lanes hpin hs rfl (State.setLaneMode_of_bad hhanded hbad) rfl rfl rfl rfl, rfl,
      State.answer_ended _ _ _ ho ho⟩
  intro l mode hl hmode x inService turns taken blocked unready waits
  have hexec := exec_setLaneMode hpin hhanded hl hmode
  have hanswered : ∀ {done code data}, s.modeOrdered o l mode = s.answer o done code data →
      State.conclude s (s.modeOrdered o l mode) = s.answer o done code data := fun h => by
    rw [h, State.conclude_answer_of_settled hs]
  have hsame : x.mode = mode → s.modeOrdered o l mode = s.answer o true .none (.laneNow l) := State.modeOrdered_same
  have hblocked : x.mode ≠ mode → blocked → s.modeOrdered o l mode = s.answer o false .busy noData := fun hnew h =>
    State.modeOrdered_of_refusal (State.modeRefusal_blocked hnew h)
  have hunready : x.mode ≠ mode → ¬ blocked → unready → s.modeOrdered o l mode = s.answer o false .notReady noData :=
    fun hnew hb h => State.modeOrdered_of_refusal (State.modeRefusal_unready hnew hb h)
  have htaken : x.mode ≠ mode → ¬ blocked → ¬ unready → turns ∧ taken →
      s.modeOrdered o l mode = s.answer o false .busy noData := fun hnew hb hr h =>
    State.modeOrdered_of_refusal ((State.modeRefusal_rest hnew hb hr).trans (if_pos h))
  have hpass : x.mode ≠ mode → ¬ blocked → ¬ unready → ¬ (turns ∧ taken) →
      s.modeRefusal l mode = none := fun hnew hb hr h => (State.modeRefusal_rest hnew hb hr).trans (if_neg h)
  refine ⟨_, hexec, fun h => ?_, fun h => ?_, fun hnew h => ?_, fun hnew hb h => ?_, fun hnew hb hr ht hk => ?_,
    fun hnew hb hw => ?_, fun hnew hb hr ht hw => ?_⟩
  · obtain ⟨done, code, data, heq⟩ : ∃ done code data, s.modeOrdered o l mode = s.answer o done code data := by
      by_cases h1 : x.mode = mode
      · exact ⟨_, _, _, hsame h1⟩
      · by_cases h2 : blocked
        · exact ⟨_, _, _, hblocked h1 h2⟩
        · by_cases h3 : unready
          · exact ⟨_, _, _, hunready h1 h2 h3⟩
          · exact ⟨_, _, _, htaken h1 h2 h3 (((h.resolve_left h1).resolve_left h2).resolve_left h3)⟩
    rw [hanswered heq]
    rfl
  · rw [hanswered (hsame h)]
    exact State.answer_ended _ _ _ ho ho
  · rw [hanswered (hblocked hnew h)]
    exact State.answer_ended _ _ _ ho ho
  · rw [hanswered (hunready hnew hb h)]
    exact State.answer_ended _ _ _ ho ho
  · rw [hanswered (htaken hnew hb hr ⟨ht, hk⟩)]
    exact State.answer_ended _ _ _ ho ho
  · have hnone : s.modeRefusal l mode = none := by
      refine hpass hnew hb (fun h => hw.2.1 h.1) fun h => hw.2.1 ?_
      rcases h.1 with ⟨-, h'⟩ | ⟨-, h'⟩
      · exact .inr h'
      · exact .inl h'
    rw [State.modeOrdered_of_pass hnone, if_pos ((State.modeCutsGrant_iff hnew).mpr hw)]
    exact State.conclude_of_quiet hs (.of_lanes rfl rfl rfl) rfl
  · have heq : s.modeOrdered o l mode = (s.applyMode l mode).answer o true .none (.laneNow l) := by
      rw [State.modeOrdered_of_pass (hpass hnew hb hr ht), if_neg fun h => hw ((State.modeCutsGrant_iff hnew).mp h)]
    have hset := State.applyMode_modeSet (l := l) hnew
    obtain ⟨lanes, m, hconclude, hconcluded, hkept, -⟩ :=
      State.conclude_exists s ((s.applyMode l mode).answer o true .none (.laneNow l))
    have hl : lanes.get l = _ := hconcluded l
    rw [heq, hconclude]
    have hbecomes : ∀ y, s.applyMode l mode = s.setLane l y → laneBecomes s
        { (s.applyMode l mode).answer o true .none (.laneNow l) with lanes := lanes, mem := m } l y := fun y hy => by
      rw [← hconclude, hy]
      exact laneBecomes_conclude (State.lane_setLane_self s l y) (fun k hk => State.lane_setLane_ne s y hk) rfl
    refine ⟨State.endedWith_of (w := s.applyMode l mode) ho (by rw [hset.orders, ho]) rfl,
      (congrArg Lane.mode hl).trans hset.mode, fun hpc => hbecomes _ (State.applyMode_fault hnew hpc),
      fun hservice hpc hfield => ?_⟩
    have happly : s.applyMode l mode = s.setLane l (Lane.intoService s.params s.timeBase { x with mode := mode }) :=
      State.applyMode_inService hnew (by rw [hpc]; decide) hservice
    obtain ⟨hclosed, hclear, hobstructed⟩ :=
      Lane.intoService_of_out s.params s.timeBase (x := { x with mode := mode }) hservice hpc hfield
    refine ⟨by rw [happly]; rfl, fun hlimit hstill => ?_, fun hmoving => ?_⟩
    · rw [hclosed hlimit hstill] at happly
      exact hbecomes _ happly
    · have hlane : lanes.get l = _ := (hbecomes _ happly).1
      cases hmiddle : x.beams.middle with
      | clear =>
        rw [hclear hmoving hmiddle] at hlane
        exact ⟨congrArg Lane.field hlane, fun _ => ⟨congrArg Lane.pc hlane, congrArg Lane.stroking hlane⟩, nofun⟩
      | blocked =>
        rw [hobstructed hmoving hmiddle] at hlane
        exact ⟨congrArg Lane.field hlane, nofun, fun _ => ⟨congrArg Lane.pc hlane, congrArg Lane.stroking hlane⟩⟩

end Sys2Proof.Machine
end

section
/-! RESET LANE and CLEAR LANE COUNTS (07 R149, R159). -/

namespace Sys2Proof.Machine

open Sys2Proof

/-! ## The leaves and the field after RESET LANE (R159, step 4) -/

section
variable (p : Parameters) (tb : Nat) {x : Lane}

/-- Only the leaves and the field change. -/
def Lane.Restored (x y : Lane) : Prop :=
  y = { x with pc := y.pc, drive := y.drive, field := y.field, learning := y.learning, carrier := y.carrier }

theorem Lane.serviceField_restored (y : Lane) : y.Restored y.serviceField := by
  unfold Lane.serviceField
  split <;> rfl

theorem Lane.Moves.restored {x y z : Lane} (h : x.Moves y) (k : y.Restored z) : x.Restored z := by
  unfold Lane.Moves Lane.Restored at *
  rw [k, h]

theorem Lane.restore_restored (x : Lane) : x.Restored (x.restore p tb) := by
  unfold Lane.restore
  split
  · split <;> rfl
  · exact (x.settle_moves p tb).restored (Lane.serviceField_restored _)

/-- The settled leaves: closed, or on their way (R156). -/
theorem Lane.settle_cases (x : Lane) :
    (x.closedLimit = true → x.stroking = none →
      x.settle p tb = { x with pc := if x.inServiceMode then .closed else .out, drive := .hold .atClosed }) ∧
    (x.closedLimit = false ∨ x.stroking ≠ none → x.beams.middle = .clear → x.settle p tb = x.startClosing p tb) ∧
    (x.closedLimit = false ∨ x.stroking ≠ none → x.beams.middle = .blocked → x.settle p tb = x.startOpening p tb) := by
  have hmoves : x.closedLimit = false ∨ x.stroking ≠ none → ¬ (x.closedLimit = true ∧ x.stroking = none) := by
    rintro h ⟨hclosed, hstill⟩
    simp [hclosed, hstill] at h
  unfold Lane.settle
  exact ⟨fun hclosed hstill => if_pos ⟨hclosed, hstill⟩,
    fun h hclear => (if_neg (hmoves h)).trans (if_pos hclear),
    fun h hblocked => (if_neg (hmoves h)).trans (if_neg (by rw [hblocked]; decide))⟩

theorem Lane.settle_pc (h : x.mode = .entry ∨ x.mode = .exit) :
    (x.settle p tb).pc = .closed ∨ (x.settle p tb).pc = .opening ∨ (x.settle p tb).pc = .closing := by
  unfold Lane.settle
  split
  · exact .inl (if_pos (x.inServiceMode_iff.mpr h))
  · split
    · exact .inr (.inr rfl)
    · exact .inr (.inl rfl)

/-- The field of a lane in service returns to SNIFF (R13). -/
theorem Lane.restore_field (hoff : x.field = .off) :
    (x.restore p tb).field = if x.mode = .entry ∨ x.mode = .exit then .sniff else .off := by
  unfold Lane.restore
  split
  next hfree =>
    have hservice : ¬ (x.mode = .entry ∨ x.mode = .exit) := by
      rw [hfree]
      decide
    rw [if_neg hservice]
    split <;> exact hoff
  next =>
    have hmoved := x.settle_moves p tb
    have hfield : (x.settle p tb).field = .off := by rw [hmoved, hoff]
    have hmode : (x.settle p tb).mode = x.mode := by rw [hmoved]
    unfold Lane.serviceField
    by_cases hservice : x.mode = .entry ∨ x.mode = .exit
    · have hpc := x.settle_pc p tb hservice
      rw [if_pos hservice, if_pos ⟨hfield, (Lane.inServiceMode_iff _).mpr (hmode ▸ hservice),
        hpc.imp_right fun h => h.imp_right .inr⟩]
      rfl
    · rw [if_neg hservice, if_neg fun ⟨_, h, _⟩ => hservice (hmode ▸ (Lane.inServiceMode_iff _).mp h)]
      exact hfield

theorem Lane.restore_free (hfree : x.mode = .free) :
    (x.restore p tb).pc = .free ∧
      (x.openLimit = true → (∀ limit due, x.drive = .brake limit due → (x.restore p tb).drive = x.drive) ∧
        ((∀ limit due, x.drive ≠ .brake limit due) → (x.restore p tb).drive = .hold .atOpen)) ∧
      (x.openLimit = false → (x.restore p tb).drive = .stroke .atOpen
        (if p.boost = 0 then none else some (tb + 10000 * p.boost)) (tb + 10000000) p.brake) := by
  unfold Lane.restore
  rw [if_pos hfree]
  cases hlimit : x.openLimit with
  | true =>
    rw [if_pos rfl]
    refine ⟨rfl, fun _ => ⟨fun limit due h => ?_, fun h => ?_⟩, nofun⟩
    · change x.drive.restOpen = _
      rw [h]
      rfl
    · change x.drive.restOpen = _
      cases hdrive : x.drive with
      | brake limit due => exact absurd hdrive (h limit due)
      | hold | stroke | released => rfl
  | false =>
    rw [if_neg Bool.false_ne_true]
    exact ⟨rfl, nofun, fun _ => rfl⟩

/-- The leaves of a lane that is not in FREE (R156). -/
theorem Lane.restore_settled (hmode : x.mode ≠ .free) :
    (x.closedLimit = true → x.stroking = none →
      (x.restore p tb).pc = (if x.mode = .out then .out else .closed) ∧
        (x.restore p tb).drive = .hold .atClosed) ∧
    (x.closedLimit = false ∨ x.stroking ≠ none →
      (x.beams.middle = .clear → (x.restore p tb).pc = .closing ∧ (x.restore p tb).stroking = some .atClosed) ∧
      (x.beams.middle = .blocked → (x.restore p tb).pc = .opening ∧ (x.restore p tb).stroking = some .atOpen)) := by
  have hrestore : x.restore p tb = (x.settle p tb).serviceField := if_neg hmode
  have hfields : ∀ y : Lane, y.serviceField.pc = y.pc ∧ y.serviceField.drive = y.drive ∧
      y.serviceField.stroking = y.stroking := fun y => by
    unfold Lane.serviceField
    split <;> exact ⟨rfl, rfl, rfl⟩
  obtain ⟨hpc, hdrive, hstroking⟩ := hfields (x.settle p tb)
  obtain ⟨hclosed, hclear, hblocked⟩ := x.settle_cases p tb
  rw [hrestore, hpc, hdrive, hstroking]
  refine ⟨fun hlimit hstill => ?_, fun hmoving => ⟨fun h => ?_, fun h => ?_⟩⟩
  · rw [hclosed hlimit hstill]
    refine ⟨?_, rfl⟩
    change (if x.inServiceMode = true then PcState.closed else PcState.out) = _
    unfold Lane.inServiceMode
    cases hm : x.mode with
    | free => exact absurd hm hmode
    | out | entry | exit => rfl
  · rw [hclear hmoving h]
    exact ⟨rfl, rfl⟩
  · rw [hblocked hmoving h]
    exact ⟨rfl, rfl⟩

end

/-! ## The orders -/

theorem resetRefused {s : State} {o : OrderInService} (hpin : s.sys.resetPin = false) (hs : s.Settled)
    (hlane : 3 < o.arg 0 1) :
    (s.Handed o 10 → ∃ t, exec .resetLane s = .next t ∧
      t = { s with orders := { s.orders with service := t.orders.service } } ∧
      s.EndedWith t o false .argument (.bytes []) (o.takenAt + 20)) ∧
    (s.Handed o 11 → ∃ t, exec .clearLaneCounts s = .next t ∧
      t = { s with orders := { s.orders with service := t.orders.service } } ∧
      s.EndedWith t o false .argument (.bytes []) (o.takenAt + 20)) := by
  refine ⟨fun hhanded => ?_, fun hhanded => ?_⟩ <;> obtain ⟨ho, -⟩ := id hhanded
  · refine ⟨_, exec_of_lanes hpin hs rfl (u := s.answer o false .argument noData) ?_ rfl rfl rfl rfl, rfl,
      State.answer_ended _ _ _ ho ho⟩
    rw [State.resetLaneOrder, State.withOrder_of_handed hhanded, LaneId.ofNat?_eq_none hlane]
  · refine ⟨_, exec_of_lanes hpin hs rfl (u := s.answer o false .argument noData) ?_ rfl rfl rfl rfl, rfl,
      State.answer_ended _ _ _ ho ho⟩
    rw [State.withOrder_of_handed hhanded, LaneId.ofNat?_eq_none hlane]

theorem countsCleared {s : State} {o : OrderInService} {l : LaneId} (hpin : s.sys.resetPin = false)
    (hl : o.arg 0 1 = l.toNat) (hhanded : s.Handed o 11) :
    ∃ t, exec .clearLaneCounts s = .next t ∧
      t = { s with
        lanes := t.lanes
        orders := { s.orders with service := t.orders.service }
        mem := t.mem } ∧
      laneBecomes s t l { s.lane l with tailgate := 0, intrusion := 0, stuck := 0, obstruction := 0 } ∧
      s.EndedWith t o true .none (.bytes []) (o.takenAt + 20) := by
  obtain ⟨ho, -⟩ := id hhanded
  obtain ⟨u, hu⟩ : ∃ u, u = (s.updLane l fun x =>
      { x with tailgate := 0, intrusion := 0, stuck := 0, obstruction := 0 }).answer o true .none noData := ⟨_, rfl⟩
  have hexec : exec .clearLaneCounts s = .next (State.conclude s u) := exec_concluded hpin rfl (by
    rw [State.withOrder_of_handed hhanded, hl, LaneId.ofNat?_toNat, hu])
  have hbecomes : laneBecomes s (State.conclude s u) l
      { s.lane l with tailgate := 0, intrusion := 0, stuck := 0, obstruction := 0 } := by
    refine laneBecomes_conclude ?_ (fun k hk => ?_) ?_
    · have hsame : u.lane l = (s.updLane l fun x =>
          { x with tailgate := 0, intrusion := 0, stuck := 0, obstruction := 0 }).lane l := by
        subst hu
        rfl
      exact hsame.trans (State.lane_updLane_self _ _ _)
    · have hsame : u.lane k = (s.updLane l fun x =>
          { x with tailgate := 0, intrusion := 0, stuck := 0, obstruction := 0 }).lane k := by
        subst hu
        rfl
      exact hsame.trans (State.lane_updLane_ne _ _ hk)
    · subst hu
      rfl
  obtain ⟨lanes, m, hconclude, -⟩ := State.conclude_exists s u
  rw [hconclude] at hexec hbecomes
  subst hu
  exact ⟨_, hexec, rfl, hbecomes, State.endedWith_of ho (w := s) ho rfl⟩

theorem State.resetLaneOrder_of_args {s : State} {o : OrderInService} {l : LaneId} (hhanded : s.Handed o 10)
    (hl : o.arg 0 1 = l.toNat) :
    s.resetLaneOrder = if s.granting l then s.defer .resetLane
      else (s.resetLane l).answer o true .none (.bytes ((s.resetLane l).lane l).modeAndState) := by
  rw [State.resetLaneOrder, State.withOrder_of_handed hhanded, hl, LaneId.ofNat?_toNat]

/-- What RESET LANE does to the state and the lane (R159). -/
theorem State.resetLane_exists (s : State) (l : LaneId) : ∃ v : State, s.LeavesService v l ∧
    s.resetLane l = { v with
      lanes := (s.resetLane l).lanes
      regs := (if (s.lane l).degraded then { s.regs with attention := s.regs.attention ||| 0x0004#16 } else s.regs) } ∧
    (∀ k, k ≠ l → (s.resetLane l).lane k = s.lane k) ∧
    (s.resetLane l).lane l = Lane.restore s.params s.timeBase (v.lane l).clearFault := by
  have hleaves := s.leaveService_leavesService l
  refine ⟨s.leaveService l, hleaves, ?_⟩
  unfold State.resetLane
  generalize s.leaveService l = v at hleaves ⊢
  have hparams : v.params = s.params := by rw [hleaves.state]
  have htime : v.timeBase = s.timeBase := by rw [hleaves.state]
  have hregs : v.regs = s.regs := by rw [hleaves.state]
  have hdegraded : (v.lane l).degraded = (s.lane l).degraded := by rw [hleaves.lane.parts]
  obtain ⟨w, hw⟩ : ∃ w, w = if (v.lane l).degraded then v.raise .lane else v := ⟨_, rfl⟩
  have hwstate : w = { v with regs :=
      (if (s.lane l).degraded then { s.regs with attention := s.regs.attention ||| 0x0004#16 } else s.regs) } := by
    rw [hw, hdegraded, ← hregs]
    split <;> rfl
  dsimp only
  rw [← hw]
  have hwlane : ∀ k, w.lane k = v.lane k := fun k => by
    rw [hwstate]
    rfl
  have hwparams : w.params = s.params := by rw [hwstate, ← hparams]
  have hwtime : w.timeBase = s.timeBase := by rw [hwstate, ← htime]
  refine ⟨?_, fun k hk => ?_, ?_⟩
  · rw [hwstate]
    rfl
  · rw [State.onLane, State.lane_updLane_ne _ _ hk, State.lane_updLane_ne _ _ hk, hwlane, hleaves.others k hk]
  · rw [State.onLane, State.lane_updLane_self, State.lane_updLane_self, hwlane, ← hwparams, ← hwtime]
    rfl

/-- The parts of a lane that RESET LANE writes (R159). -/
def Lane.WasReset (x y : Lane) : Prop :=
  y = { x with
    pc := y.pc
    drive := y.drive
    field := y.field
    learning := y.learning
    carrier := y.carrier
    link := y.link
    dialogue := y.dialogue
    watch := y.watch
    lastResult := y.lastResult
    rewritten := y.rewritten
    journalFull := y.journalFull
    stamp := y.stamp
    credits := []
    passage := none
    timedDisplay := none
    waitRequest := y.waitRequest
    inProgress := y.inProgress
    tone := y.tone
    faultCause := .none
    obstructionRun := 0
    gain := 16
    noisyRun := 0
    quietRun := 0
    degraded := false }

theorem Lane.LeavesService.wasReset {x y z w : Lane} (h : x.LeavesService y) (k : y.clearFault.Restored z)
    (c : z.Concluded w) : x.WasReset w := by
  unfold Lane.Restored Lane.Concluded Lane.WasReset Lane.clearFault at *
  rw [c, k, h.parts]

/-- RESET LANE where no grant is in hand. -/
theorem exec_resetLane {s : State} {o : OrderInService} {l : LaneId} (hpin : s.sys.resetPin = false)
    (hhanded : s.Handed o 10) (hl : o.arg 0 1 = l.toNat) (hgrant : ¬ grantInHand s l) :
    exec .resetLane s = .next (State.conclude s
      ((s.resetLane l).answer o true .none (.bytes ((s.resetLane l).lane l).modeAndState))) :=
  exec_concluded hpin rfl
    ((State.resetLaneOrder_of_args hhanded hl).trans (if_neg fun h => hgrant ((grantInHand_iff s l).mp h)))

/-- Settles O35. -/
theorem resetLaneAndClearLaneCounts : Obligations.ResetLaneAndClearLaneCounts := by
  intro s o hpin hs
  refine ⟨resetRefused hpin hs, fun l hl => ⟨countsCleared hpin hl, fun hhanded hgrant => ?_,
    fun hhanded hgrant => ?_⟩⟩
  · have horder : s.resetLaneOrder = s.defer .resetLane :=
      (State.resetLaneOrder_of_args hhanded hl).trans (if_pos ((grantInHand_iff s l).mpr hgrant))
    exact exec_of_lanes hpin hs rfl horder rfl rfl rfl rfl
  obtain ⟨ho, -⟩ := id hhanded
  obtain ⟨v, hleaves, hstate, hothers, hlane⟩ := s.resetLane_exists l
  have hexec := exec_resetLane hpin hhanded hl hgrant
  generalize s.resetLane l = u at hstate hothers hlane hexec
  have hrestored : (v.lane l).clearFault.Restored (u.lane l) := by
    rw [hlane]
    exact Lane.restore_restored _ _ _
  have hparts := hleaves.lane.parts
  obtain ⟨w, hw⟩ : ∃ w, w = u.answer o true .none (.bytes (u.lane l).modeAndState) := ⟨_, rfl⟩
  rw [← hw] at hexec
  have hwlane : ∀ k, w.lane k = u.lane k := fun k => by
    rw [hw]
    rfl
  obtain ⟨lanes, m, hconclude, hconcluded, hkept, -⟩ := State.conclude_exists s w
  have hshown : (u.lane l).Concluded (lanes.get l) := hwlane l ▸ hconcluded l
  have hl : lanes.get l = _ := hshown
  have hreset : lanes.get l = _ := hleaves.lane.wasReset hrestored hshown
  have hstamp : (u.lane l).rewritten ≠ [] → (lanes.get l).stamp = (u.lane l).stamp + 1#16 := fun h => by
    have hadvance := State.conclude_stamp_of_rewritten (b := s) (s := w) (l := l) (by rwa [hwlane])
    rwa [hconclude, hwlane] at hadvance
  have hends : abortedBy s (State.conclude s w) l := fun d hd hon hopen => by
    refine endsNow_conclude (endsNow_same ?_ ?_ ?_ ?_ (hleaves.aborted d hd hon hopen))
    · rw [hwlane, hrestored]
      rfl
    · rw [hwlane, hrestored]
      rfl
    · rw [hw, hstate]
      rfl
    · rw [hw, hstate]
      rfl
  have hpc : (lanes.get l).pc = (u.lane l).pc := (congrArg Lane.pc hl :)
  have hdrive : (lanes.get l).drive = (u.lane l).drive := (congrArg Lane.drive hl :)
  obtain ⟨z, hz⟩ : ∃ z, z = (v.lane l).clearFault := ⟨_, rfl⟩
  rw [← hz] at hlane hrestored
  have hmode : z.mode = (s.lane l).mode := by rw [hz, Lane.clearFault, hparts]
  have hopen : z.openLimit = (s.lane l).openLimit := by rw [hz, Lane.clearFault, hparts]
  have hclosed : z.closedLimit = (s.lane l).closedLimit := by rw [hz, Lane.clearFault, hparts]
  have hdriven : z.drive = (s.lane l).drive := by rw [hz, Lane.clearFault, hparts]
  have hstroking : z.stroking = (s.lane l).stroking := by rw [hz, Lane.clearFault, hparts]; rfl
  have hbeams : z.beams = (s.lane l).beams := by rw [hz, Lane.clearFault, hparts]
  have hoff : z.field = .off := by rw [hz, Lane.clearFault, hparts]
  rw [hconclude] at hexec hends
  refine ⟨_, hexec, ?_, ?_, fun k hk => ?_, fun a hnot _ => (hkept a hnot).trans ?_, fun hfield => ?_,
    (congrArg Lane.mode hreset :), (congrArg Lane.credits hreset :), (congrArg Lane.passage hreset :),
    (congrArg Lane.faultCause hreset :), (congrArg Lane.obstructionRun hreset :), (congrArg Lane.gain hreset :),
    (congrArg Lane.noisyRun hreset :), (congrArg Lane.quietRun hreset :), (congrArg Lane.degraded hreset :),
    (congrArg Lane.baseline hreset :), (congrArg Lane.tailgate hreset :), (congrArg Lane.intrusion hreset :),
    (congrArg Lane.stuck hreset :), (congrArg Lane.obstruction hreset :), (congrArg Lane.beams hreset :),
    (congrArg Lane.field hl).trans ?_, fun hfree => ?_, hends, fun hnone => ?_⟩
  · rw [hw, hstate, hleaves.state]
    rfl
  · have hdata : (u.lane l).modeAndState = (lanes.get l).modeAndState := by
      unfold Lane.modeAndState
      rw [hpc, congrArg Lane.mode hl]
    have hservice : u.orders = s.orders := by
      rw [hstate, hleaves.state]
    change s.EndedWith _ o true .none (.bytes (lanes.get l).modeAndState) _
    rw [← hdata]
    refine State.endedWith_of (w := u) ho (by rw [hservice, ho]) ?_
    rw [hw]
    rfl
  · rw [← hothers k hk, ← hwlane]
    exact hconcluded k
  · rw [hw]
    change Memory.read u.mem a = _
    rw [hstate, hleaves.state]
  · have hfields := hleaves.lane.rewritten hfield
    refine (hstamp ?_).trans ?_
    · rw [hrestored, hz]
      exact hfields
    · have hsame : (u.lane l).stamp = (s.lane l).stamp := by
        rw [hrestored, hz, Lane.clearFault, hparts]
      rw [hsame]
  · rw [hlane, Lane.restore_field _ _ hoff, hmode]
  · have hleft := Lane.restore_free s.params s.timeBase (hmode.trans hfree)
    rw [← hlane, ← hpc, ← hdrive, hopen, hdriven] at hleft
    exact hleft
  · obtain ⟨hjournal, hengine⟩ := hleaves.idle hnone
    have hsettled : (s.lane l).mode ≠ .free → _ := fun h =>
      Lane.restore_settled s.params s.timeBase (x := z) (by rwa [hmode])
    rw [← hlane, ← hpc, ← hdrive, hclosed, hstroking, hbeams, hmode] at hsettled
    have hmoving : (u.lane l).stroking = (lanes.get l).stroking := by
      unfold Lane.stroking
      rw [hdrive]
    rw [hmoving] at hsettled
    refine ⟨?_, ?_, ?_, fun h => (hsettled h).1, fun h => (hsettled h).2⟩
    · rw [hw, hstate]
      exact hjournal
    · rw [hw, hstate]
      exact hengine
    · rw [hw, hstate]
      rfl

end Sys2Proof.Machine
end

section
/-! The Presence Scanner and the antenna drive (02 R15 to R24, R30). -/

namespace Sys2Proof.Machine

open Sys2Proof

/-! ## The antenna drive (R23, R24) -/

/-- The top bit of the accumulator, as a number. -/
theorem Carrier.level_eq (c : Carrier) (now : Nat) :
    c.level now = decide (2 ^ 27 ≤ c.increment * ((now - c.start) * 54 / 10) % 2 ^ 28) := by
  unfold Carrier.level Carrier.accumulator Carrier.clocks
  generalize c.increment * ((now - c.start) * 54 / 10) = n
  rw [BitVec.getLsbD_ofNat, Nat.testBit_eq_decide_div_mod_eq]
  have htop : n / 2 ^ 27 % 2 = 1 ↔ 2 ^ 27 ≤ n % 2 ^ 28 := by omega
  simp only [htop, Nat.reduceLT, decide_true, Bool.true_and]

theorem Polarity.level_off (p : Polarity) : p.level false = decide (p = .inverted) := by
  cases p <;> rfl

theorem Polarity.level_on (p : Polarity) : p.level true = decide (p = .normal) := by
  cases p <;> rfl

theorem State.antennaHigh_off {s : State} {l : LaneId} (now : Nat) (h : (s.lane l).carrier = none) :
    s.antennaHigh l now = decide (s.params.polarity.get l = .inverted) := by
  rw [State.antennaHigh, h]
  exact Polarity.level_off _

theorem State.antennaHigh_on {s : State} {l : LaneId} {c : Carrier} (now : Nat) (h : (s.lane l).carrier = some c) :
    s.antennaHigh l now =
      if (s.lane l).inGap now then decide (c.polarity = .inverted) else decide (c.polarity = .normal) := by
  rw [State.antennaHigh, h]
  dsimp only
  cases (s.lane l).inGap now with
  | true => exact c.polarity.level_off
  | false => exact c.polarity.level_on

theorem Lane.inGap_eq_false {x : Lane} (now : Nat) (h : ∀ due c half wait, x.link ≠ .sending due c half wait) :
    x.inGap now = false := by
  unfold Lane.inGap
  split
  next due c half wait hlink => exact absurd hlink (h due c half wait)
  next => rfl

/-- The gap of a bit: the first quarter of its period, of a 0 bit. -/
theorem inGapAt_of_period {bits : List Bool} {i t : Nat} (h : 625 * i ≤ 8 * t) (h' : 8 * t < 625 * (i + 1)) :
    inGapAt bits false t = decide (bits[i]? = some false ∧ 4 * (8 * t - 625 * i) < 625) := by
  have hbit : 8 * t / 625 = i := by omega
  have hphase : 8 * t % 625 = 8 * t - 625 * i := by omega
  unfold inGapAt
  simp only [Bool.false_eq_true, if_false, Nat.mul_one, hbit, hphase, Bool.decide_and]

theorem antennaRules_hold : antennaRules :=
  ⟨Carrier.level_eq, fun _ _ now => ⟨State.antennaHigh_off now, fun _ => State.antennaHigh_on now⟩,
    fun _ => Lane.inGap_eq_false, fun _ _ _ => inGapAt_of_period⟩

/-! ## Rounds (R15 to R17) -/

/-- The lanes after the measurement of `measuring` begins: its lane's pulse starts. -/
def pulsed (s : State) (measuring : Option Measurement) (now : Nat) (l : LaneId) : Lane :=
  if measuring.any (fun m => m.lane = l) then { s.lane l with carrier := some (carrierAt s l now) } else s.lane l

/-- The next lane of the round begins its measurement, or the round ends. -/
theorem State.measureNext_exists (s : State) : ∃ lanes : PerLane Lane,
    s.measureNext = { s with
      lanes := lanes, scanner := nextMeasured s.scanner.round s.scanner.rest s.timeBase } ∧
    ∀ l, lanes.get l = pulsed s (nextMeasured s.scanner.round s.scanner.rest s.timeBase).measuring s.timeBase l := by
  unfold State.measureNext
  cases hrest : s.scanner.rest with
  | nil =>
    refine ⟨s.lanes, ?_, fun _ => rfl⟩
    dsimp only
    rw [hrest]
    rfl
  | cons k rest =>
    refine ⟨(s.updLane k fun x => { x with carrier := some (s.carrierNow k) }).lanes, rfl, fun l => ?_⟩
    unfold pulsed nextMeasured
    dsimp only [Option.any_some]
    by_cases hl : k = l
    · subst hl
      rw [if_pos (decide_eq_true rfl)]
      exact State.lane_updLane_self _ _ _
    · rw [if_neg (by simpa using hl)]
      exact State.lane_updLane_ne _ _ (Ne.symm hl)

theorem pulsed_shown (s : State) (measuring : Option Measurement) (now : Nat) (l : LaneId) :
    pulsed s measuring now l = { s.lane l with carrier := (pulsed s measuring now l).carrier } := by
  unfold pulsed
  split <;> rfl

/-- Carriers are not shown. -/
theorem State.QuietLanes.of_carriers {s u : State}
    (h : ∀ l, u.lane l = { s.lane l with carrier := (u.lane l).carrier }) (he : u.emergency = s.emergency)
    (hjournal : u.journal = s.journal) : s.QuietLanes u where
  fields l := by
    rw [h l, he]
    rfl
  rewritten l := by rw [h l]
  full l := by rw [h l]
  room := by rw [hjournal]

theorem roundStarted {s : State} {start : Nat} (hpin : s.sys.resetPin = false) (hs : s.Settled)
    (hidle : s.scanner.measuring = none)
    (hround : s.scanner.round = none ∧ start = s.timeBase ∨
      ∃ r, s.scanner.round = some r ∧ start = r.start + r.period) (hdue : start ≤ s.nextTick) :
    ∃ t, exec .scanRoundStart s = .next t ∧
      t = { s with timeBase := max s.timeBase start, scanner := t.scanner, lanes := t.lanes } ∧
      t.scanner = nextMeasured (some ⟨start, 10000 * s.params.scanPeriod⟩)
        ([LaneId.lane0, .lane1, .lane2, .lane3].filter fun l => (s.lane l).field = .sniff) t.timeBase ∧
      ∀ l, t.lane l =
        if t.scanner.measuring.any (fun m => m.lane = l) then
          { s.lane l with carrier := some (carrierAt s l t.timeBase) }
        else s.lane l := by
  obtain ⟨lanes, hmeasured, hlanes⟩ := State.measureNext_exists
    { s with
      timeBase := max s.timeBase start
      scanner := ⟨some ⟨start, msec s.params.scanPeriod⟩, LaneId.all.filter fun l => (s.lane l).field = .sniff, none⟩ }
  have hstart : (match s.scanner.round with
      | none => s.startRound s.timeBase
      | some r => s.onDue (r.start + r.period) fun s => s.startRound (r.start + r.period)) =
      State.startRound { s with timeBase := max s.timeBase start } start := by
    rcases hround with ⟨hnone, rfl⟩ | ⟨r, hsome, rfl⟩
    · rw [hnone, Nat.max_self]
    · rw [hsome]
      exact State.onDue_of_reached _ hdue
  have hbusy : ¬ s.scanner.measuring.isSome = true := by
    rw [hidle]
    exact Bool.false_ne_true
  refine ⟨_, exec_of_quiet hpin hs rfl ((if_neg hbusy).trans (hstart.trans hmeasured))
    (.of_carriers (fun l => ?_) rfl rfl) rfl, rfl, rfl, hlanes⟩
  change lanes.get l = { s.lane l with carrier := (lanes.get l).carrier }
  rw [hlanes]
  exact pulsed_shown _ _ _ _

/-- Settles O37. -/
theorem scannerMeasuresInRounds : Obligations.ScannerMeasuresInRounds := by
  refine ⟨fun s start hpin hs hidle hround hdue => roundStarted hpin hs hidle hround hdue,
    fun s m hpin hs hm hconverting hdue => ?_, antennaRules_hold⟩
  refine ⟨_, exec_of_lanes hpin hs rfl (u := { s with
    timeBase := max s.timeBase m.due
    scanner := { s.scanner with
      measuring := some { m with converting := true, due := max s.timeBase m.due + 400 } } }) ?_ rfl rfl rfl rfl, rfl⟩
  rw [hm]
  dsimp only
  rw [if_neg (by rw [hconverting]; exact Bool.false_ne_true), State.onDue_of_reached _ hdue]
  rfl

end Sys2Proof.Machine
end

section
/-! A conversion's end: the baseline, the start of a dialogue, the WAIT symbol (02 R17 to R22; 09 R179, R181). -/

namespace Sys2Proof.Machine

open Sys2Proof

/-! ## What a reading does to its lane -/

/-- The pulse of a measurement stops (R17). -/
def Lane.pulseStopped (x : Lane) : Lane := { x with carrier := none }

theorem State.updLane_updLane (s : State) (l : LaneId) (f g : Lane → Lane) :
    (s.updLane l f).updLane l g = s.setLane l (g (f (s.lane l))) := by
  rw [State.updLane, State.lane_updLane_self, State.updLane, State.setLane_setLane]

/-- How far a reading departs from a lane's baseline (R19, R20). -/
def Lane.departure (x : Lane) (reading : Nat) : Nat := ((reading : Int) - (x.baseline : Int)).natAbs

/-- A reading with the pulse stopped before it. -/
def State.stopAndRead (s : State) (l : LaneId) (reading : Nat) : State :=
  (s.updLane l Lane.pulseStopped).takeReading l reading

section
variable {s : State} {l : LaneId} {reading : Nat}

theorem State.stopAndRead_of_learning (h : (s.lane l).learning = true) :
    s.stopAndRead l reading = s.setLane l
      { s.lane l with carrier := none, baseline := reading, learning := false, waitRequest := false } := by
  have hlearning : ((s.updLane l Lane.pulseStopped).lane l).learning = true := by
    rw [State.lane_updLane_self]
    exact h
  rw [State.stopAndRead, State.takeReading]
  dsimp only
  rw [if_pos hlearning, State.updLane_updLane]
  rfl

theorem State.stopAndRead_of_near (h : (s.lane l).learning = false)
    (hnear : (s.lane l).departure reading < s.params.detectDelta) :
    s.stopAndRead l reading = s.setLane l
      { s.lane l with
        carrier := none
        baseline :=
          ((s.lane l).baseline + Int.tdiv ((reading : Int) - ((s.lane l).baseline : Int)) 16).toNat
        waitRequest := false } := by
  rw [State.stopAndRead, State.takeReading]
  dsimp only
  rw [State.lane_updLane_self, if_neg (by rw [Lane.pulseStopped, h]; exact Bool.false_ne_true)]
  exact (if_neg (Nat.not_le.mpr hnear)).trans (State.updLane_updLane _ _ _ _)

theorem State.stopAndRead_of_far (h : (s.lane l).learning = false)
    (hfar : s.params.detectDelta ≤ (s.lane l).departure reading) :
    s.stopAndRead l reading = (s.updLane l Lane.pulseStopped).detect l := by
  rw [State.stopAndRead, State.takeReading, State.lane_updLane_self]
  exact (if_neg (by rw [Lane.pulseStopped, h]; exact Bool.false_ne_true)).trans (if_pos hfar)

theorem State.mayStart_iff : s.mayStart l = true ↔
    ((s.lane l).pc = .closed ∨ (s.lane l).pc = .opened) ∧ (s.lane l).dialogue = none ∧
      (s.lane l).credits.length < 3 ∧ 4 ≤ s.journal.openRoom := by
  simp only [State.mayStart, Bool.and_eq_true, Bool.or_eq_true, decide_eq_true_iff, Option.isNone_iff_eq_none,
    and_assoc]
  rfl

theorem State.mayStart_pulseStopped : (s.updLane l Lane.pulseStopped).mayStart l = s.mayStart l := by
  unfold State.mayStart
  rw [State.lane_updLane_self]
  rfl

/-- A lane as its dialogue starts (R21, R35, R37). -/
def State.laneStarted (s : State) (l : LaneId) : Lane :=
  { s.lane l with
    field := .on
    carrier := some (carrierAt s l s.timeBase)
    link := .hold (s.timeBase + 20000) s.params.noiseThreshold
    dialogue := some (s.newDialogue l)
    nextTag := (s.lane l).nextTag + 1
    watch := none
    waitRequest := false
    inProgress := true }

theorem State.newDialogue_congr {u : State} {x : Lane} (hlane : u.lane l = { s.lane l with carrier := x.carrier })
    (hinstant : u.instant = s.instant) (hparams : u.params = s.params) : u.newDialogue l = s.newDialogue l := by
  unfold State.newDialogue
  rw [hlane, hinstant, hparams]

theorem State.detect_starts (h : s.mayStart l = true) : (s.updLane l Lane.pulseStopped).detect l =
    { s.setLane l (s.laneStarted l) with journal := { s.journal with reserved := s.journal.reserved + 4 } } := by
  have hlane := s.lane_updLane_self l Lane.pulseStopped
  have hnew : (s.updLane l Lane.pulseStopped).newDialogue l = s.newDialogue l :=
    State.newDialogue_congr (x := (s.lane l).pulseStopped) hlane rfl rfl
  rw [State.detect, if_pos (State.mayStart_pulseStopped.trans h), State.startDialogue]
  dsimp only
  rw [hnew, State.onLane]
  have hjournal : ∀ (n : Nat) (f : Lane → Lane), ((s.updLane l Lane.pulseStopped).setReserved n).updLane l f =
      { (s.updLane l Lane.pulseStopped).updLane l f with journal := { s.journal with reserved := n } } :=
    fun _ _ => rfl
  rw [hjournal, State.updLane_updLane]
  rfl

theorem State.detect_waits (h : ¬ s.mayStart l = true) : (s.updLane l Lane.pulseStopped).detect l =
    s.setLane l { s.lane l with
      carrier := none
      waitRequest := true
      journalFull := if s.journal.openRoom < 4 then true else (s.lane l).journalFull } := by
  rw [State.detect, if_neg (by rwa [State.mayStart_pulseStopped])]
  dsimp only
  rw [State.updLane_updLane]
  rfl

end

/-! ## The end of a conversion -/

/-- The state after a conversion's reading, before the next lane's measurement. -/
def State.afterReading (s : State) (m : Measurement) (load : Nat) : State :=
  if m.left then { s with timeBase := max s.timeBase m.due }
  else { s with timeBase := max s.timeBase m.due }.stopAndRead m.lane (readingOf load)

theorem exec_conversionEnd {s : State} {m : Measurement} {load : Nat} (hpin : s.sys.resetPin = false)
    (hm : s.scanner.measuring = some m) (hconverting : m.converting = true) (hdue : m.due ≤ s.nextTick) :
    exec (.conversionEnd load) s = .next (State.conclude s (s.afterReading m load).measureNext) := by
  refine exec_concluded hpin rfl ?_
  rw [hm]
  dsimp only
  rw [if_pos hconverting, State.onDue_of_reached _ hdue]
  rfl

theorem nextMeasured_other {round : Option ScanRound} {rest : List LaneId} {now : Nat} {l : LaneId} (h : l ∉ rest) :
    ¬ (nextMeasured round rest now).measuring.any (fun m => m.lane = l) = true := by
  cases rest with
  | nil => exact Bool.false_ne_true
  | cons k rest =>
    have hk : k ≠ l := fun hk => h (hk ▸ List.mem_cons_self)
    simpa [nextMeasured] using hk

/-- The lanes after the next measurement begins, where the reading changed one lane that is not measured again. -/
theorem State.measureNext_afterReading {s v : State} {m : Measurement} (hrest : m.lane ∉ s.scanner.rest)
    (hscanner : v.scanner = s.scanner) (hparams : v.params = s.params)
    (hothers : ∀ l, l ≠ m.lane → v.lane l = s.lane l) :
    ∃ lanes : PerLane Lane,
      v.measureNext = { v with lanes := lanes, scanner := nextMeasured s.scanner.round s.scanner.rest v.timeBase } ∧
      lanes.get m.lane = v.lane m.lane ∧
      ∀ l, l ≠ m.lane → lanes.get l =
        pulsed s (nextMeasured s.scanner.round s.scanner.rest v.timeBase).measuring v.timeBase l := by
  obtain ⟨lanes, hmeasured, hlanes⟩ := v.measureNext_exists
  rw [hscanner] at hmeasured hlanes
  refine ⟨lanes, hmeasured, (hlanes m.lane).trans (if_neg (nextMeasured_other hrest)), fun l hl => ?_⟩
  rw [hlanes l, pulsed, pulsed, hothers l hl, carrierAt, carrierAt, hparams]

/-- What a reading that neither starts a dialogue nor waits changes is not shown. -/
structure State.ReadQuietly (s v : State) (l : LaneId) (now : Nat) : Prop where
  state : v = { s with timeBase := now, lanes := v.lanes }
  others : ∀ k, k ≠ l → v.lane k = s.lane k
  lane : v.lane l = { s.lane l with
    carrier := (v.lane l).carrier
    baseline := (v.lane l).baseline
    learning := (v.lane l).learning
    waitRequest := (v.lane l).waitRequest }

theorem State.readQuietly_setLane {s : State} {l : LaneId} {now : Nat} {x : Lane} (h : x = { s.lane l with
    carrier := x.carrier, baseline := x.baseline, learning := x.learning, waitRequest := x.waitRequest }) :
    s.ReadQuietly (State.setLane { s with timeBase := now } l x) l now := by
  refine ⟨rfl, fun k hk => State.lane_setLane_ne _ _ hk, ?_⟩
  rw [State.lane_setLane_self]
  exact h

/-- A quiet reading and the next measurement show nothing. -/
theorem State.ReadQuietly.measureNext {s v : State} {m : Measurement}
    (h : s.ReadQuietly v m.lane (max s.timeBase m.due))
    (hs : s.Settled) (hrest : m.lane ∉ s.scanner.rest) :
    ∃ t, State.conclude s v.measureNext = t ∧
      t = { s with timeBase := max s.timeBase m.due, scanner := t.scanner, lanes := t.lanes } ∧
      t.scanner = nextMeasured s.scanner.round s.scanner.rest t.timeBase ∧
      t.lane m.lane = v.lane m.lane ∧
      ∀ l, l ≠ m.lane → t.lane l = pulsed s t.scanner.measuring t.timeBase l := by
  have hscanner : v.scanner = s.scanner := by rw [h.state]
  have hparams : v.params = s.params := by rw [h.state]
  have htime : v.timeBase = max s.timeBase m.due := by rw [h.state]
  obtain ⟨lanes, hmeasured, hlane, hlanes⟩ := State.measureNext_afterReading hrest hscanner hparams h.others
  rw [htime] at hmeasured hlanes
  have hshown : ∀ l, lanes.get l = { s.lane l with
      carrier := (lanes.get l).carrier, baseline := (lanes.get l).baseline, learning := (lanes.get l).learning,
      waitRequest := (lanes.get l).waitRequest } := fun l => by
    by_cases hl : l = m.lane
    · rw [hl, hlane]
      exact h.lane
    · rw [hlanes l hl, pulsed_shown]
  have hjournal : v.measureNext.journal = s.journal := by rw [hmeasured, h.state]
  have hemergency : v.measureNext.emergency = s.emergency := by rw [hmeasured, h.state]
  have horders : v.measureNext.orders = s.orders := by rw [hmeasured, h.state]
  have hquiet : s.QuietLanes v.measureNext := by
    have hlane' : ∀ l, v.measureNext.lane l = lanes.get l := fun l => by
      rw [hmeasured]
      rfl
    refine ⟨fun l => ?_, fun l => ?_, fun l => ?_, by rw [hjournal]⟩
    · rw [hlane', hshown, hemergency]
      rfl
    · rw [hlane', hshown]
    · rw [hlane', hshown]
  refine ⟨v.measureNext, State.conclude_of_quiet hs hquiet (by rw [horders]), ?_, ?_, ?_, fun l hl => ?_⟩
  · rw [hmeasured, h.state]
  · rw [hmeasured, h.state]
  · rw [hmeasured]
    exact hlane
  · rw [hmeasured]
    exact hlanes l hl

/-- Settles O38. -/
theorem readingsMoveTheBaseline : Obligations.ReadingsMoveTheBaseline := by
  intro s m load hpin hs hm hconverting hdue hrest x reading distance hcase
  have hexec := exec_conversionEnd (load := load) hpin hm hconverting hdue
  obtain ⟨y, hy, hread, hleft, hlearning, hnear⟩ : ∃ y : Lane,
      y = { x with
        carrier := y.carrier, baseline := y.baseline, learning := y.learning, waitRequest := y.waitRequest } ∧
      s.afterReading m load = State.setLane { s with timeBase := max s.timeBase m.due } m.lane y ∧
      (m.left = true → y = x) ∧
      (m.left = false → x.learning = true →
        y = { x with carrier := none, baseline := reading, learning := false, waitRequest := false }) ∧
      (m.left = false → x.learning = false → distance < s.params.detectDelta →
        y = { x with
          carrier := none
          baseline := (x.baseline + Int.tdiv ((reading : Int) - (x.baseline : Int)) 16).toNat
          waitRequest := false }) := by
    unfold State.afterReading
    cases hleft : m.left with
    | true => exact ⟨x, rfl, (State.setLane_lane _ m.lane).symm, fun _ => rfl, nofun, nofun⟩
    | false =>
      rw [if_neg Bool.false_ne_true]
      obtain hlearn | hlearn := Bool.eq_false_or_eq_true x.learning
      · exact ⟨_, rfl, State.stopAndRead_of_learning hlearn, nofun, fun _ _ => rfl,
          fun _ h => absurd (h.symm.trans hlearn) nofun⟩
      · have hdistance : distance < s.params.detectDelta := by
          simpa [hleft, hlearn] using hcase
        refine ⟨{ x with
          carrier := none
          baseline := (x.baseline + Int.tdiv ((reading : Int) - (x.baseline : Int)) 16).toNat
          waitRequest := false }, rfl, ?_, nofun, fun _ h => absurd (h.symm.trans hlearn) nofun,
          fun _ _ _ => rfl⟩
        exact State.stopAndRead_of_near hlearn hdistance
  rw [hread] at hexec
  obtain ⟨t, ht, hstate, hscanner, hlane, hlanes⟩ := (State.readQuietly_setLane hy).measureNext hs hrest
  rw [State.lane_setLane_self] at hlane
  rw [ht] at hexec
  exact ⟨t, hexec, hstate, hscanner, fun h => hlane.trans (hleft h), fun h h' => hlane.trans (hlearning h h'),
    fun h h' h'' => hlane.trans (hnear h h' h''), hlanes⟩

end Sys2Proof.Machine
end

section
/-! A presence detected (02 R21, R22; 03 R37; 09 R179, R181). -/

namespace Sys2Proof.Machine

open Sys2Proof

/-- What a reading that departs by the detect delta leaves: its lane changed, and the journal's reserved places. -/
structure State.ReadFar (s v : State) (l : LaneId) (now : Nat) : Prop where
  state : v = { s with
    timeBase := now, lanes := v.lanes, journal := { s.journal with reserved := v.journal.reserved } }
  others : ∀ k, k ≠ l → v.lane k = s.lane k

/-- The step of a reading that departs by the detect delta. -/
theorem State.ReadFar.conclude {s v : State} {m : Measurement} (h : s.ReadFar v m.lane (max s.timeBase m.due))
    (hrest : m.lane ∉ s.scanner.rest) :
    ∃ t, State.conclude s v.measureNext = t ∧
      t = { s with
        timeBase := max s.timeBase m.due
        scanner := t.scanner
        lanes := t.lanes
        journal := { s.journal with reserved := t.journal.reserved }
        mem := t.mem } ∧
      s.MemoryKept t noByte ∧ t.scanner = nextMeasured s.scanner.round s.scanner.rest t.timeBase ∧
      t.journal = v.journal ∧
      (∃ stamp, t.lane m.lane = { v.lane m.lane with
        stamp := stamp
        rewritten := []
        journalFull := if 4 ≤ v.journal.openRoom then false else (v.lane m.lane).journalFull }) ∧
      ∀ l, l ≠ m.lane → Lane.Concluded (pulsed s t.scanner.measuring t.timeBase l) (t.lane l) := by
  have hscanner : v.scanner = s.scanner := by rw [h.state]
  have hparams : v.params = s.params := by rw [h.state]
  have htime : v.timeBase = max s.timeBase m.due := by rw [h.state]
  obtain ⟨lanes, hmeasured, hlane, hlanes⟩ := State.measureNext_afterReading hrest hscanner hparams h.others
  rw [htime] at hmeasured hlanes
  have hmlane : ∀ l, v.measureNext.lane l = lanes.get l := fun l => by
    rw [hmeasured]
    rfl
  have hjournal : v.measureNext.journal = v.journal := by rw [hmeasured]
  have hkept : s.MemoryKept v.measureNext noByte := .of_mem _ (by rw [hmeasured, h.state])
  obtain ⟨stamp, hconcluded⟩ := State.conclude_lane s v.measureNext m.lane
  rw [hmlane, hjournal, hlane] at hconcluded
  refine ⟨_, rfl, ?_, hkept.conclude, ?_, ?_, ⟨stamp, hconcluded⟩, fun l hl => ?_⟩
  · rw [State.conclude_same_but]
    generalize (State.conclude s v.measureNext).lanes = ls
    generalize (State.conclude s v.measureNext).mem = cells
    rw [hmeasured, h.state]
  · rw [State.conclude_same_but, hmeasured]
  · rw [State.conclude_journal, hjournal]
  · have hshown := State.conclude_concluded s v.measureNext l
    rw [hmlane, hlanes l hl] at hshown
    rw [State.conclude_same_but s v.measureNext, hmeasured]
    rw [hmeasured] at hshown
    exact hshown

/-- Settles O39. -/
theorem detectionStartsADialogue : Obligations.DetectionStartsADialogue := by
  intro s m load hpin hs hm hconverting hleft hdue hrest x hlearning hfar mayStart
  have hexec := exec_conversionEnd (load := load) hpin hm hconverting hdue
  obtain ⟨w, hw⟩ : ∃ w, w = { s with timeBase := max s.timeBase m.due } := ⟨_, rfl⟩
  have hread : s.afterReading m load = (w.updLane m.lane Lane.pulseStopped).detect m.lane := by
    unfold State.afterReading
    rw [hleft, if_neg Bool.false_ne_true, ← hw]
    subst hw
    exact State.stopAndRead_of_far hlearning hfar
  have hmay : w.mayStart m.lane = true ↔ mayStart := by
    subst hw
    exact State.mayStart_iff
  rw [hread] at hexec
  by_cases hstart : mayStart
  · rw [State.detect_starts (hmay.mpr hstart)] at hexec
    have hreads : s.ReadFar { w.setLane m.lane (w.laneStarted m.lane) with
        journal := { w.journal with reserved := w.journal.reserved + 4 } } m.lane (max s.timeBase m.due) := by
      subst hw
      exact ⟨rfl, fun k hk => State.lane_setLane_ne _ _ hk⟩
    obtain ⟨t, ht, hstate, hkept, hscanner, hjournal, ⟨stamp, hlane⟩, hothers⟩ := hreads.conclude hrest
    rw [ht] at hexec
    have hl : t.lane m.lane = { w.laneStarted m.lane with
        stamp := stamp, rewritten := [], journalFull := (t.lane m.lane).journalFull } := by
      have hself : ({ w.setLane m.lane (w.laneStarted m.lane) with
          journal := { w.journal with reserved := w.journal.reserved + 4 } } : State).lane m.lane =
          w.laneStarted m.lane := State.lane_setLane_self _ _ _
      rw [hself] at hlane
      rw [hlane]
    have htime : t.timeBase = w.timeBase := by rw [hstate, hw]
    refine ⟨t, hexec, hstate, hkept, hscanner, fun _ => ⟨?_, ?_⟩, fun h => absurd hstart h, hothers⟩
    · rw [hjournal, hw]
    · rw [hl, htime, hw]
      exact ⟨rfl, rfl, rfl, rfl, rfl, _, rfl, rfl, rfl, rfl, rfl, rfl, rfl, rfl, rfl, rfl, rfl⟩
  · have hjournal' : w.journal = s.journal := by rw [hw]
    have hlane' : w.lane m.lane = x := by
      rw [hw]
      rfl
    rw [State.detect_waits fun h => hstart (hmay.mp h), hlane', hjournal'] at hexec
    have hreads : s.ReadFar (w.setLane m.lane { x with
        carrier := none
        waitRequest := true
        journalFull := if s.journal.openRoom < 4 then true else x.journalFull }) m.lane (max s.timeBase m.due) := by
      subst hw
      exact ⟨rfl, fun k hk => State.lane_setLane_ne _ _ hk⟩
    obtain ⟨t, ht, hstate, hkept, hscanner, hjournal, ⟨stamp, hlane⟩, hothers⟩ := hreads.conclude hrest
    rw [ht] at hexec
    rw [State.lane_setLane_self] at hlane
    refine ⟨t, hexec, hstate, hkept, hscanner, fun h => absurd h hstart, fun _ => ⟨hjournal.trans hjournal', ?_, ?_⟩,
      hothers⟩
    · rw [hlane]
      rfl
    · have hroom : (w.setLane m.lane { x with
          carrier := none
          waitRequest := true
          journalFull := if s.journal.openRoom < 4 then true else x.journalFull }).journal.openRoom =
          s.journal.openRoom := congrArg Journal.openRoom hjournal'
      rw [hroom] at hlane
      rw [hlane]
      dsimp only
      by_cases hshort : s.journal.openRoom < 4
      · rw [if_neg (Nat.not_le.mpr hshort), if_pos hshort]
        exact ⟨fun _ => hshort, fun _ => rfl⟩
      · rw [if_pos (Nat.not_lt.mp hshort)]
        exact ⟨nofun, fun h => absurd h hshort⟩

end Sys2Proof.Machine
end

section
/-! The card link's own rows: noise measurements, frames, the start of an answer (02 R21, R25, R29, R30, R32; 04
R76). -/

namespace Sys2Proof.Machine

open Sys2Proof

/-! ## Noise (R29, R30) -/

theorem noiseRule_noise (threshold : Nat) (level : Byte) (x : Lane) :
    noiseRule threshold level.toNat x (x.noise threshold level) := by
  have hquiet : x.quietRun + 1 < 16 ↔ x.quietRun < 15 := by omega
  have hnoisy : x.noisyRun + 1 < 4 ↔ x.noisyRun < 3 := by omega
  unfold noiseRule Lane.noise
  simp only [hquiet, hnoisy]

/-- Only the runs and the DEGRADED flag change. -/
theorem Lane.noise_parts (threshold : Nat) (level : Byte) (x : Lane) : x.noise threshold level =
    { x with
      noisyRun := (x.noise threshold level).noisyRun
      quietRun := (x.noise threshold level).quietRun
      degraded := (x.noise threshold level).degraded } := by
  unfold Lane.noise
  dsimp only
  split
  · split
    · rfl
    · split <;> rfl
  · split
    · split <;> rfl
    · rfl

/-- The interrupt registers after a measurement: LANE where the lane's DEGRADED flag changed. -/
def attentionAfter (s : State) (x y : Lane) : Registers :=
  if x.degraded = y.degraded then s.regs else { s.regs with attention := s.regs.attention ||| 0x0004#16 }

/-- A lane after a measurement, with the note of its dialogue. -/
def Lane.measured (threshold : Nat) (level : Byte) (x : Lane) : Lane :=
  { x.noise threshold level with dialogue := x.dialogue.map fun d => noted d (x.noise threshold level).degraded }

theorem State.takeNoise_eq (s : State) (l : LaneId) (threshold : Nat) (level : Byte) :
    s.takeNoise l threshold level = { s.setLane l ((s.lane l).measured threshold level) with
      regs := attentionAfter s (s.lane l) ((s.lane l).noise threshold level) } := by
  obtain ⟨y, hy⟩ : ∃ y, y = (s.lane l).noise threshold level := ⟨_, rfl⟩
  have hdialogue : y.dialogue = (s.lane l).dialogue := by rw [hy, Lane.noise_parts]
  have hmeasured : (s.lane l).measured threshold level =
      { y with dialogue := y.dialogue.map fun d => noted d y.degraded } := by
    rw [Lane.measured, ← hy, hdialogue]
  have hraised : (if (s.lane l).degraded = y.degraded then s.setLane l y else (s.setLane l y).raise .lane) =
      { s.setLane l y with regs := attentionAfter s (s.lane l) y } := by
    unfold attentionAfter
    split <;> rfl
  unfold State.takeNoise
  dsimp only
  rw [hmeasured, ← hy, hraised]
  split
  next h =>
    have hupd : ∀ r : Registers, ({ s.setLane l y with regs := r } : State).updDialogue l
        (fun d => { d with degradedNote := true }) =
        { (s.setLane l y).updLane l (fun x => { x with
            dialogue := x.dialogue.map fun d => { d with degradedNote := true } }) with regs := r } := fun _ => rfl
    have hnote : (fun d => noted d y.degraded) = fun d : Dialogue => { d with degradedNote := true } := by
      funext d
      rw [noted, h, Bool.or_true]
    rw [hupd, State.updLane, State.lane_setLane_self, State.setLane_setLane, hnote]
  next h =>
    have hnote : (fun d => noted d y.degraded) = id := by
      funext d
      rw [noted, Bool.eq_false_iff.mpr h, Bool.or_false]
      rfl
    rw [hnote, Option.map_id]
    rfl

/-! ## Frames (R25, R30, R32, R40) -/

/-- A later challenge differs from the last one (R76). -/
theorem challengeFrom_ne_last (draw : BitVec 64) (last : Option (BitVec 64)) :
    last ≠ some (challengeFrom draw last) := by
  cases last with
  | none => nofun
  | some v =>
    intro h
    have hsame : v = v + 1#64 + BitVec.ofNat 64 (draw.toNat % (2 ^ 64 - 1)) := Option.some.inj h
    have hsmall : draw.toNat % (2 ^ 64 - 1) < 2 ^ 64 - 1 := Nat.mod_lt _ (by decide)
    have hnat := congrArg BitVec.toNat hsame
    simp only [BitVec.toNat_add, BitVec.toNat_ofNat] at hnat
    have hv := v.isLt
    omega

/-- What a command's first bit does to the dialogue, with the challenge taken for it. -/
def Dialogue.firstBit (v : BitVec 64) (c : CardCommand) (d : Dialogue) : Dialogue :=
  { d with
    challenge := if c = .auth then some v else d.challenge
    writeSent := (match c with | .writePurse _ => true | _ => d.writeSent) }

/-- What a command's first bit does to the lane. -/
def Lane.firstBit (v : BitVec 64) (probeAt : Int) (c : CardCommand) (x : Lane) : Lane :=
  { x with
    dialogue := x.dialogue.map (Dialogue.firstBit v c)
    watch := if c = .probe then x.watch.map fun w => { w with probeAt := some probeAt } else x.watch }

theorem Dialogue.firstBit_plain {v : BitVec 64} {c : CardCommand} (hauth : c ≠ .auth)
    (hwrite : ∀ i, c ≠ .writePurse i) : Dialogue.firstBit v c = id := by
  funext d
  unfold Dialogue.firstBit
  rw [if_neg hauth]
  split
  next i => exact absurd rfl (hwrite i)
  next => rfl

theorem Lane.firstBit_plain {v : BitVec 64} {probeAt : Int} {c : CardCommand} (x : Lane) (hauth : c ≠ .auth)
    (hwrite : ∀ i, c ≠ .writePurse i) (hprobe : c ≠ .probe) : x.firstBit v probeAt c = x := by
  rw [Lane.firstBit, if_neg hprobe, Dialogue.firstBit_plain hauth hwrite, Option.map_id]
  rfl

theorem State.firstBit_exists (s : State) (l : LaneId) (c : CardCommand) : ∃ v,
    s.engine.lastChallenge ≠ some v ∧
    s.firstBit l c = { s.setLane l ((s.lane l).firstBit v (s.instant + 20) c) with
      engine := (if c = .auth then
        { s.engine with draws := s.engine.draws + 1, lastChallenge := some v } else s.engine) } := by
  refine ⟨_, challengeFrom_ne_last (Config.randomDraw s.engine.draws) s.engine.lastChallenge, ?_⟩
  generalize hv : challengeFrom (Config.randomDraw s.engine.draws) s.engine.lastChallenge = v
  cases c with
  | select =>
    rw [Lane.firstBit_plain (c := .select) _ nofun nofun nofun, State.setLane_lane]
    rfl
  | identify card =>
    rw [Lane.firstBit_plain (c := (.identify card)) _ nofun nofun nofun, State.setLane_lane]
    rfl
  | read index =>
    rw [Lane.firstBit_plain (c := (.read index)) _ nofun nofun nofun, State.setLane_lane]
    rfl
  | auth =>
    rw [if_pos rfl, ← hv]
    rfl
  | writePurse image => rfl
  | probe =>
    rw [Lane.firstBit, Dialogue.firstBit_plain (c := .probe) nofun nofun, Option.map_id]
    rfl

theorem State.beginFrame_eq (s : State) (l : LaneId) (c : CardCommand) :
    s.beginFrame l c = s.setLane l { s.lane l with
      link := sendingAt s (s.lane l).degraded s.timeBase c c.byteLength } := rfl

/-! ## The rows -/

/-- A state with one lane, the interrupt registers and the engine as given. -/
def State.withLane (s : State) (l : LaneId) (x : Lane) (r : Registers) (e : Engine) : State :=
  { s.setLane l x with regs := r, engine := e }

section
variable {s : State} {l : LaneId} {x : Lane} {r : Registers} {e : Engine}

theorem State.lane_withLane_self : (s.withLane l x r e).lane l = x := State.lane_setLane_self s l x

theorem State.withLane_updLane (f : Lane → Lane) : (s.withLane l x r e).updLane l f = s.withLane l (f x) r e := by
  have hupd : (s.withLane l x r e).updLane l f = { (s.setLane l x).updLane l f with regs := r, engine := e } := rfl
  rw [hupd, State.updLane, State.lane_setLane_self, State.setLane_setLane]
  rfl

theorem State.takeNoise_withLane (threshold : Nat) (level : Byte) : s.takeNoise l threshold level =
    s.withLane l ((s.lane l).measured threshold level)
      (attentionAfter s (s.lane l) ((s.lane l).noise threshold level)) s.engine := s.takeNoise_eq l threshold level

/-- The end of a step that changed one lane, the interrupt registers and the engine. -/
theorem State.withLane_conclude (b : State) (tb : Nat) :
    ∃ t, State.conclude b (State.withLane { b with timeBase := tb } l x r e) = t ∧
      t = { b with timeBase := tb, lanes := t.lanes, regs := r, engine := e, mem := t.mem } ∧
      laneBecomes b t l x := by
  refine ⟨_, rfl, State.conclude_same_but b _, laneBecomes_conclude State.lane_withLane_self (fun k hk => ?_) rfl⟩
  exact State.lane_setLane_ne _ _ hk

/-- A frame that begins once the noise measurement before it has ended. -/
theorem State.firstBit_beginFrame (c : CardCommand) : ∃ v, s.engine.lastChallenge ≠ some v ∧
    ((s.withLane l x r s.engine).firstBit l c).beginFrame l c =
      s.withLane l { x.firstBit v (s.instant + 20) c with link := sendingAt s x.degraded s.timeBase c c.byteLength } r
        (if c = .auth then
          { s.engine with draws := s.engine.draws + 1, lastChallenge := some v } else s.engine) := by
  obtain ⟨v, hlast, hbit⟩ := (s.withLane l x r s.engine).firstBit_exists l c
  refine ⟨v, hlast, ?_⟩
  have hlane : State.setLane (s.withLane l x r s.engine) l
      (((s.withLane l x r s.engine).lane l).firstBit v (s.instant + 20) c) =
      s.withLane l (x.firstBit v (s.instant + 20) c) r s.engine := by
    rw [State.lane_withLane_self]
    exact State.withLane_updLane fun _ => x.firstBit v (s.instant + 20) c
  have hframe : (s.withLane l x r s.engine).firstBit l c = s.withLane l (x.firstBit v (s.instant + 20) c) r
      (if c = .auth then
        { s.engine with draws := s.engine.draws + 1, lastChallenge := some v } else s.engine) := by
    rw [hbit]
    exact congrArg (fun w : State => { w with engine := (if c = CardCommand.auth then
      { s.engine with draws := s.engine.draws + 1, lastChallenge := some v } else s.engine) }) hlane
  rw [hframe, State.beginFrame_eq, State.lane_withLane_self]
  exact State.withLane_updLane fun _ => _

end

section
variable {s : State} {l : LaneId} {level : Byte} {due threshold : Nat}

theorem powerUpHoldEnded {d : Dialogue} (hpin : s.sys.resetPin = false) (hdue : due ≤ s.nextTick)
    (hlink : (s.lane l).link = .hold due threshold) (hd : (s.lane l).dialogue = some d) :
    ∃ t y, exec (.powerUpHoldEnd l level) s = .next t ∧ noiseRule threshold level.toNat (s.lane l) y ∧
      t = { s with
        timeBase := max s.timeBase due, lanes := t.lanes, regs := attentionAfter s (s.lane l) y, mem := t.mem } ∧
      laneBecomes s t l
        { y with
          link := sendingAt s y.degraded t.timeBase .select 3
          dialogue := some { noted d y.degraded with command := some .select, sendings := 1 } } := by
  obtain ⟨w, hw⟩ : ∃ w, w = { s with timeBase := max s.timeBase due } := ⟨_, rfl⟩
  obtain ⟨t, ht, hstate, hbecomes⟩ := State.withLane_conclude (l := l)
    (x := { (s.lane l).noise threshold level with
      link := sendingAt s ((s.lane l).noise threshold level).degraded (max s.timeBase due) .select 3
      dialogue := some { noted d ((s.lane l).noise threshold level).degraded with
        command := some .select, sendings := 1 } })
    (r := attentionAfter s (s.lane l) ((s.lane l).noise threshold level)) (e := s.engine) s (max s.timeBase due)
  refine ⟨t, _, ?_, noiseRule_noise threshold level _, hstate, ?_⟩
  · rw [← ht]
    refine exec_concluded hpin rfl ?_
    rw [hlink]
    dsimp only
    rw [State.onDue_of_reached _ hdue, State.takeNoise_withLane]
    unfold State.updDialogue
    rw [State.withLane_updLane, State.beginFrame_eq, State.lane_withLane_self, Lane.measured]
    change State.setLane _ _ { (s.lane l).noise threshold level with
      link := _, dialogue := (((s.lane l).dialogue.map _).map _) } = _
    rw [hd]
    exact State.withLane_updLane fun _ => _
  · have htime : t.timeBase = max s.timeBase due := by rw [hstate]
    rw [htime]
    exact hbecomes

theorem noiseMeasurementEnded {c : CardCommand} (hpin : s.sys.resetPin = false) (hdue : due ≤ s.nextTick)
    (hlink : (s.lane l).link = .noise due c threshold) :
    ∃ t v, exec (.noiseMeasurementEnd l level) s = .next t ∧ s.engine.lastChallenge ≠ some v ∧
      t = { s with
        timeBase := max s.timeBase due
        lanes := t.lanes
        regs := attentionAfter s (s.lane l) ((s.lane l).noise threshold level)
        engine := (if c = .auth then
          { s.engine with draws := s.engine.draws + 1, lastChallenge := some v } else s.engine)
        mem := t.mem } ∧
      laneBecomes s t l { ((s.lane l).measured threshold level).firstBit v (s.instant + 20) c with
        link := sendingAt s ((s.lane l).noise threshold level).degraded t.timeBase c c.byteLength } := by
  obtain ⟨v, hlast, hframe⟩ := State.firstBit_beginFrame (s := { s with timeBase := max s.timeBase due }) (l := l)
    (x := (s.lane l).measured threshold level)
    (r := attentionAfter s (s.lane l) ((s.lane l).noise threshold level)) c
  obtain ⟨t, ht, hstate, hbecomes⟩ := State.withLane_conclude (l := l)
    (x := { ((s.lane l).measured threshold level).firstBit v (s.instant + 20) c with
      link := sendingAt s ((s.lane l).noise threshold level).degraded (max s.timeBase due) c c.byteLength })
    (r := attentionAfter s (s.lane l) ((s.lane l).noise threshold level))
    (e := if c = .auth then
      { s.engine with draws := s.engine.draws + 1, lastChallenge := some v } else s.engine) s (max s.timeBase due)
  refine ⟨t, v, ?_, hlast, hstate, ?_⟩
  · rw [← ht]
    refine exec_concluded hpin rfl ?_
    rw [hlink]
    dsimp only
    rw [State.onDue_of_reached _ hdue, State.takeNoise_withLane]
    exact hframe
  · have htime : t.timeBase = max s.timeBase due := by rw [hstate]
    rw [htime]
    exact hbecomes

end

/-- A row of the link that shows nothing: only the lane's link and watch change. -/
theorem linkMoves {s : State} {c : Instr} {l : LaneId} {f : State → State} {tb : Nat} {x : Lane}
    (hpin : s.sys.resetPin = false) (hs : s.Settled) (hrow : exec c s = .next (s.event f))
    (hf : f s = State.setLane { s with timeBase := tb } l x)
    (hx : x = { s.lane l with link := x.link, watch := x.watch }) :
    ∃ t, exec c s = .next t ∧ t = { s with timeBase := tb, lanes := t.lanes } ∧ t.lane l = x ∧
      ∀ k, k ≠ l → t.lane k = s.lane k := by
  have hself : State.lane (State.setLane { s with timeBase := tb } l x) l = x := State.lane_setLane_self _ _ _
  have hothers : ∀ k, k ≠ l → State.lane (State.setLane { s with timeBase := tb } l x) k = s.lane k := fun k hk =>
    State.lane_setLane_ne _ _ hk
  have hshown : ∀ k, State.lane (State.setLane { s with timeBase := tb } l x) k =
      { s.lane k with
        link := (State.lane (State.setLane { s with timeBase := tb } l x) k).link
        watch := (State.lane (State.setLane { s with timeBase := tb } l x) k).watch } := fun k => by
    by_cases hk : k = l
    · rw [hk, hself]
      exact hx
    · rw [hothers k hk]
  refine ⟨_, exec_of_quiet hpin hs hrow hf ⟨fun k => ?_, fun k => ?_, fun k => ?_, rfl⟩ rfl, rfl, hself, hothers⟩
  · rw [hshown k]
    rfl
  · rw [hshown k]
  · rw [hshown k]

/-- Settles O40. -/
theorem framesBeginAfterTheNoiseMeasurement : Obligations.FramesBeginAfterTheNoiseMeasurement := by
  refine ⟨fun s l level d due threshold hpin hdue => ⟨fun hlink hd => powerUpHoldEnded hpin hdue hlink hd,
    fun c hlink hd hprobe => ?_, fun w hlink hnone hw => ?_⟩, fun s l due half hpin hs => ⟨fun c wait hlink hdue => ?_,
    fun hlink hin => ?_⟩⟩
  · obtain ⟨t, v, hexec, hlast, hstate, hbecomes⟩ := noiseMeasurementEnded (level := level) hpin hdue hlink
    refine ⟨t, _, v, hexec, noiseRule_noise threshold level _, hstate, hlast, ?_⟩
    unfold Lane.firstBit Lane.measured at hbecomes
    rw [if_neg hprobe, hd] at hbecomes
    exact hbecomes
  · obtain ⟨t, v, hexec, -, hstate, hbecomes⟩ := noiseMeasurementEnded (level := level) hpin hdue hlink
    have hsame : ((s.lane l).noise threshold level).dialogue = none ∧
        ((s.lane l).noise threshold level).watch = some w := by
      rw [Lane.noise_parts]
      exact ⟨hnone, hw⟩
    obtain ⟨hnone', hw'⟩ := hsame
    refine ⟨t, _, hexec, noiseRule_noise threshold level _, hstate, ?_⟩
    unfold Lane.firstBit Lane.measured at hbecomes
    rw [if_pos rfl, hnone] at hbecomes
    dsimp only [Option.map_none] at hbecomes
    generalize (s.lane l).noise threshold level = y at hbecomes hnone' hw'
    rw [← hnone', hw'] at hbecomes
    exact hbecomes
  · obtain ⟨t, hexec, hstate, hlane, hothers⟩ := linkMoves (c := .frameSent l) (tb := max s.timeBase due)
      (x := { s.lane l with link := .waiting (max s.timeBase due + wait) half }) hpin hs rfl (by
        rw [hlink]
        exact State.onDue_of_reached _ hdue) rfl
    have htime : t.timeBase = max s.timeBase due := by rw [hstate]
    exact ⟨t, hexec, hstate, by rw [hlane, htime], hothers⟩
  · refine linkMoves (c := .answerStart l) (tb := s.timeBase) (x := { s.lane l with
      link := .receiving s.timeBase half
      watch := (s.lane l).watch.map fun w => { w with misses := 0 } }) hpin hs rfl ?_ rfl
    rw [hlink]
    exact if_pos hin

end Sys2Proof.Machine
end

section
/-! The steps of a dialogue that an answer, or its absence, moves (02 R26 to R28, R31 to R33; 03 R54, R56). -/

namespace Sys2Proof.Machine

open Sys2Proof

/-! ## What a dialogue's step may change -/

/-- The parts of the state that a dialogue's step at lane `l` may change before it is shown. -/
structure State.DialogueStep (s u : State) (l : LaneId) : Prop where
  state : u = { s with
    timeBase := u.timeBase
    lanes := u.lanes
    engine := { s.engine with requests := u.engine.requests, service := u.engine.service }
    screening := { s.screening with table := u.screening.table }
    journal := { s.journal with
      queue := u.journal.queue, writeDue := u.journal.writeDue, reserved := u.journal.reserved } }
  others : ∀ k, k ≠ l → u.lane k = s.lane k

section
variable {s u v : State} {l : LaneId}

theorem State.DialogueStep.trans (h : s.DialogueStep u l) (k : u.DialogueStep v l) : s.DialogueStep v l where
  state := by
    rw [k.state, h.state]
  others j hj := (k.others j hj).trans (h.others j hj)

theorem State.dialogueStep_setLane (tb : Nat) (x : Lane) :
    s.DialogueStep (State.setLane { s with timeBase := tb } l x) l :=
  ⟨rfl, fun _ hk => State.lane_setLane_ne _ _ hk⟩

theorem State.EndsDialogue.dialogueStep (h : s.EndsDialogue u l) : s.DialogueStep u l := by
  refine ⟨?_, h.others⟩
  rw [h.state]

theorem State.DialogueStep.frame (h : s.DialogueStep u l) : dialogueFrame s (State.conclude s u) l := by
  refine ⟨?_, State.OtherLanesKept.conclude h.others, State.MemoryKept.conclude (.of_mem _ (by rw [h.state]))⟩
  obtain ⟨lanes, m, hconclude, -⟩ := State.conclude_exists s u
  rw [hconclude, h.state]

theorem State.DialogueStep.conclude_timeBase (s u : State) : (State.conclude s u).timeBase = u.timeBase := by
  rw [State.conclude_same_but]

end

/-! ## A command without an answer (R26, R27) -/

/-- The lane whose command is sent again. -/
def Lane.resent (p : Parameters) (tb : Nat) (d : Dialogue) (c : CardCommand) (x : Lane) : Lane :=
  { x with
    link := .noise (tb + 2000) c p.noiseThreshold, dialogue := some { d with sendings := d.sendings + 1 } }

section
variable {s v : State} {l : LaneId} {d : Dialogue} {c : CardCommand}

theorem State.noAnswer_again (hd : (v.lane l).dialogue = some d) (h : d.sendings < 3) :
    v.noAnswer l d c = v.setLane l ((v.lane l).resent v.params v.timeBase d c) := by
  rw [State.noAnswer, if_pos h]
  dsimp only
  rw [State.updDialogue_eq _ hd, State.onLane, State.updLane, State.lane_setLane_self, State.setLane_setLane]
  rfl

theorem State.noAnswer_ends (h : 3 ≤ d.sendings) :
    v.noAnswer l d c = v.endDialogue l (if d.writeSent then .uncertain else .lost) false := if_neg (Nat.not_lt.mpr h)

/-- A dialogue that an outcome ends, shown at the step's end. -/
theorem State.endDialogue_concluded (code : ResultCode) (hv : s.DialogueStep v l)
    (hd : (v.lane l).dialogue = some d) (hqueue : v.journal = s.journal) (htable : v.screening = s.screening) :
    ∃ t, State.conclude s (v.endDialogue l code false) = t ∧ dialogueFrame s t l ∧ t.timeBase = v.timeBase ∧
      (t.lane l).gain = (v.lane l).gain ∧ endsNow s t l d code [] := by
  have hconcluded : (State.conclude s (v.endDialogue l code false)).lane l = _ :=
    State.conclude_concluded s (v.endDialogue l code false) l
  have hends := State.endDialogue_endsDialogue code false hd
  refine ⟨_, rfl, (hv.trans hends.dialogueStep).frame, (State.DialogueStep.conclude_timeBase _ _).trans ?_,
    (congrArg Lane.gain hconcluded).trans ?_, endsNow_conclude ?_⟩
  · rw [hends.state]
  · rw [hends.lane.parts]
  · refine endsNow_of_before (by rw [hqueue]) (by rw [htable]) ?_ (State.endDialogue_endsNow code false hd)
    rw [hv.state]
    rfl

/-- What an unanswered command does, shown at the step's end. -/
theorem State.noAnswer_concluded (hv : s.DialogueStep v l) (hd : (v.lane l).dialogue = some d)
    (hqueue : v.journal = s.journal) (htable : v.screening = s.screening) :
    ∃ t, State.conclude s (v.noAnswer l d c) = t ∧ dialogueFrame s t l ∧ t.timeBase = v.timeBase ∧
      (t.lane l).gain = (v.lane l).gain ∧
      (d.sendings < 3 → laneBecomes s t l ((v.lane l).resent s.params v.timeBase d c)) ∧
      (3 ≤ d.sendings → endsNow s t l d (if d.writeSent then .uncertain else .lost) []) := by
  have hconcluded : ∀ u : State, (State.conclude s u).lane l = _ := fun u => State.conclude_concluded s u l
  have hparams : v.params = s.params := by rw [hv.state]
  have hmem : v.mem = s.mem := by rw [hv.state]
  refine ⟨_, rfl, ?_⟩
  by_cases h : d.sendings < 3
  · rw [State.noAnswer_again hd h, hparams]
    refine ⟨(hv.trans (State.dialogueStep_setLane v.timeBase _)).frame, State.DialogueStep.conclude_timeBase _ _,
      (congrArg Lane.gain (hconcluded _)).trans ?_, fun _ => laneBecomes_conclude (State.lane_setLane_self _ _ _)
        (fun k hk => (State.lane_setLane_ne _ _ hk).trans (hv.others k hk)) hmem, fun hend => absurd h (by omega)⟩
    rw [State.lane_setLane_self]
    rfl
  · obtain ⟨t, ht, hframe, htime, hgain, hends⟩ :=
      State.endDialogue_concluded (if d.writeSent then .uncertain else .lost) hv hd hqueue htable
    rw [State.noAnswer_ends (Nat.not_lt.mp h), ht]
    exact ⟨hframe, htime, hgain, fun h' => absurd h' h, fun _ => hends⟩

end

/-- A dialogue that ends for a card that is not known asks for no record (R56, R59). -/
theorem queue_of_unknown {s t : State} {l : LaneId} {d : Dialogue} {code : ResultCode}
    (hcertain : code ≠ .uncertain) (hunknown : d.known = false)
    (h : endsNow s t l d code []) : t.journal.queue = s.journal.queue := by
  obtain ⟨-, hnow, hwaits⟩ := h
  by_cases hat : ∃ o, d.outstanding = some o ∧ o.atScreening = true
  · obtain ⟨o, ho, hscreening⟩ := hat
    obtain ⟨hqueue, -⟩ := hwaits o ho hscreening
    rw [hqueue]
    exact List.append_nil _
  · obtain ⟨⟨-, hquiet, -⟩, -⟩ := hnow fun o ho => Bool.eq_false_iff.mpr fun h => hat ⟨o, ho, h⟩
    obtain ⟨hqueue, -⟩ := hquiet hcertain hunknown
    rw [hqueue]
    exact List.append_nil _

/-! ## An answer received (R28, R31) -/

theorem Lane.adjustGain_eq (s : State) (peak : Byte) (x : Lane) :
    x.adjustGain s.params.gainTarget peak = { x with gain := gainAfter s x.gain peak } := by
  unfold Lane.adjustGain gainAfter
  split
  · rfl
  · split <;> rfl

/-- A lane as its answer has been received: the gain step moved, the link idle. -/
def State.received (s : State) (l : LaneId) (peak : Byte) (ends : Nat) : State :=
  State.setLane { s with timeBase := max s.timeBase ends } l
    { s.lane l with gain := gainAfter s (s.lane l).gain peak, link := .idle }

section
variable {s : State} {l : LaneId} {peak : Byte} {answer : Reception} {ends : Nat}

theorem State.lane_received_self : (s.received l peak ends).lane l =
    { s.lane l with gain := gainAfter s (s.lane l).gain peak, link := .idle } := State.lane_setLane_self _ _ _

theorem State.received_step : s.DialogueStep (s.received l peak ends) l := State.dialogueStep_setLane _ _

theorem State.onLane_received : (State.onLane { s with timeBase := max s.timeBase ends } l fun p _ x =>
    { x.adjustGain p.gainTarget peak with link := .idle }) = s.received l peak ends :=
  congrArg (fun x : Lane => State.setLane { s with timeBase := max s.timeBase ends } l { x with link := .idle })
    (Lane.adjustGain_eq s peak (s.lane l))

theorem State.takeReception_some {d : Dialogue} (hd : (s.lane l).dialogue = some d) :
    State.takeReception { s with timeBase := max s.timeBase ends } l peak answer =
      (s.received l peak ends).judgeAnswer l d answer := by
  have hd' : ((s.received l peak ends).lane l).dialogue = some d := by
    rw [State.lane_received_self]
    exact hd
  unfold State.takeReception
  dsimp only
  rw [State.onLane_received, hd']

theorem State.takeReception_none (hnone : (s.lane l).dialogue = none) :
    State.takeReception { s with timeBase := max s.timeBase ends } l peak answer =
      (s.received l peak ends).onLane l fun p tb x => x.probeDone p tb := by
  have hnone' : ((s.received l peak ends).lane l).dialogue = none := by
    rw [State.lane_received_self]
    exact hnone
  unfold State.takeReception
  dsimp only
  rw [State.onLane_received, hnone']

theorem exec_answerReceived (hpin : s.sys.resetPin = false) (h : answerEnds s l (receptionLength answer) ends) :
    exec (.answerReceived l peak answer) s = .next (State.conclude s
      (State.takeReception { s with timeBase := max s.timeBase ends } l peak answer)) := by
  obtain ⟨hdue, start, half, hlink, rfl⟩ := h
  refine exec_concluded hpin rfl ?_
  rw [hlink]
  exact State.onDue_of_reached _ hdue

theorem exec_answerReceived_dialogue {d : Dialogue} (hpin : s.sys.resetPin = false)
    (h : answerEnds s l (receptionLength answer) ends) (hd : (s.lane l).dialogue = some d) :
    exec (.answerReceived l peak answer) s =
      .next (State.conclude s ((s.received l peak ends).judgeAnswer l d answer)) := by
  rw [exec_answerReceived hpin h, State.takeReception_some hd]

/-- The end of a PROBE's answer: a PROBE that is owed goes out, or the link rests (R32). -/
theorem Lane.probeDone_eq {p : Parameters} {tb : Nat} {x : Lane} {w : RemovalWatch} (h : x.watch = some w) :
    x.probeDone p tb = { x with
      link := if w.owed then .noise (tb + 2000) .probe p.noiseThreshold else .idle
      watch := some (if w.owed then ⟨w.misses, none, false⟩ else w) } := by
  obtain ⟨misses, probeAt, owed⟩ := w
  unfold Lane.probeDone Lane.probe
  dsimp only
  rw [h]
  cases owed <;> rfl

end

/-- Settles O41. -/
theorem unansweredCommandsAreSentAgain : Obligations.UnansweredCommandsAreSentAgain := by
  refine ⟨fun s l d c hpin hd hc => ⟨fun due half hlink hdue => ?_, fun peak answer ends hends hbad => ?_,
    fun peak n ends hends hselect => ?_⟩, fun s l peak answer ends w hpin hnone hw hends => ?_⟩
  · have hlane : (State.setLane { s with timeBase := max s.timeBase due } l { s.lane l with link := .idle }).lane l =
        { s.lane l with link := .idle } := State.lane_setLane_self _ _ _
    obtain ⟨t, ht, hframe, htime, hgain, hagain, hover⟩ := State.noAnswer_concluded (s := s) (c := c) (l := l) (d := d)
      (v := State.setLane { s with timeBase := max s.timeBase due } l { s.lane l with link := .idle })
      (State.dialogueStep_setLane _ _) (by rw [hlane]; exact hd) rfl rfl
    have hexec : exec (.responseWaitExpiry l) s = .next t := by
      rw [← ht]
      refine exec_concluded hpin rfl ?_
      rw [hlink, hd]
      dsimp only
      rw [hc]
      exact State.onDue_of_reached _ hdue
    rw [hlane] at hgain hagain
    refine ⟨t, hexec, hframe, htime, hgain, fun h => ?_, hover⟩
    rw [htime]
    exact hagain h
  · have hd' : ((s.received l peak ends).lane l).dialogue = some d := by
      rw [State.lane_received_self]
      exact hd
    obtain ⟨t, ht, hframe, htime, hgain, hagain, hover⟩ :=
      State.noAnswer_concluded (s := s) (c := c) State.received_step hd' rfl rfl
    have hjudged : (s.received l peak ends).judgeAnswer l d answer = (s.received l peak ends).noAnswer l d c := by
      unfold State.judgeAnswer
      rw [hc]
      rcases hbad with ⟨f, rfl, hbad⟩ | ⟨n, rfl, hphase⟩
      · exact if_neg (by rw [hbad]; exact Bool.false_ne_true)
      · exact if_neg hphase
    have hexec := exec_answerReceived_dialogue (peak := peak) hpin hends hd
    rw [hjudged, ht] at hexec
    rw [State.lane_received_self] at hgain hagain
    refine ⟨t, hexec, hframe, htime, hgain, fun h => ?_, hover⟩
    rw [htime]
    exact hagain h
  · have hd' : ((s.received l peak ends).lane l).dialogue = some d := by
      rw [State.lane_received_self]
      exact hd
    obtain ⟨t, ht, hframe, htime, hgain, hmultiple⟩ :=
      State.endDialogue_concluded (s := s) .multiple State.received_step hd' rfl rfl
    have hjudged : (s.received l peak ends).judgeAnswer l d (.overlapped n) =
        (s.received l peak ends).endDialogue l .multiple false := by
      unfold State.judgeAnswer
      rw [hc]
      exact if_pos hselect
    have hexec := exec_answerReceived_dialogue (peak := peak) (answer := .overlapped n) hpin hends hd
    rw [hjudged, ht] at hexec
    rw [State.lane_received_self] at hgain
    exact ⟨t, hexec, hframe, htime, hgain, hmultiple.1, fun hunknown =>
      queue_of_unknown (by decide) hunknown hmultiple⟩
  · have hx : ((s.received l peak ends).lane l).watch = some w := by
      rw [State.lane_received_self]
      exact hw
    have hdone : State.takeReception { s with timeBase := max s.timeBase ends } l peak answer =
        (s.received l peak ends).setLane l { s.lane l with
          gain := gainAfter s (s.lane l).gain peak
          link := if w.owed then .noise (max s.timeBase ends + 2000) .probe s.params.noiseThreshold else .idle
          watch := some (if w.owed then ⟨w.misses, none, false⟩ else w) } := by
      rw [State.takeReception_none hnone, State.onLane, State.updLane, Lane.probeDone_eq hx, State.lane_received_self]
      rfl
    have hexec := exec_answerReceived (peak := peak) hpin hends
    rw [hdone] at hexec
    refine ⟨_, hexec, State.conclude_same_but s _, laneBecomes_conclude ?_ (fun k hk => ?_) rfl⟩
    · have htime : (State.conclude s ((s.received l peak ends).setLane l { s.lane l with
          gain := gainAfter s (s.lane l).gain peak
          link := if w.owed then .noise (max s.timeBase ends + 2000) .probe s.params.noiseThreshold else .idle
          watch := some (if w.owed then ⟨w.misses, none, false⟩ else w) })).timeBase = max s.timeBase ends :=
        State.DialogueStep.conclude_timeBase _ _
      rw [htime, State.lane_setLane_self]
    · exact (State.lane_setLane_ne _ _ hk).trans (State.received_step.others k hk)

end Sys2Proof.Machine
end

section
/-! SUPPORT. What a dialogue's own steps do: a command sent, a request to the Authentication Engine, the end by an
outcome (02 R26; 03 R56; 04 R68, R75, R77). -/

namespace Sys2Proof.Machine

open Sys2Proof

/-! ## Steps within one moment -/

/-- A dialogue's step that leaves the time base and the lane's gain step. -/
structure State.AnswerStep (s u : State) (l : LaneId) : Prop extends State.DialogueStep s u l where
  time : u.timeBase = s.timeBase
  gain : (u.lane l).gain = (s.lane l).gain

section
variable {s u v : State} {l : LaneId}

theorem State.DialogueStep.refl (s : State) (l : LaneId) : s.DialogueStep s l := ⟨rfl, fun _ _ => rfl⟩

theorem State.AnswerStep.refl (s : State) (l : LaneId) : s.AnswerStep s l := ⟨.refl s l, rfl, rfl⟩

theorem State.AnswerStep.trans (h : s.AnswerStep u l) (k : u.AnswerStep v l) : s.AnswerStep v l :=
  ⟨h.toDialogueStep.trans k.toDialogueStep, k.time.trans h.time, k.gain.trans h.gain⟩

theorem State.answerStep_setLane {x : Lane} (h : x.gain = (s.lane l).gain) : s.AnswerStep (s.setLane l x) l :=
  ⟨⟨rfl, fun _ hk => State.lane_setLane_ne _ _ hk⟩, rfl, (congrArg Lane.gain (State.lane_setLane_self s l x)).trans h⟩

theorem State.answerStep_updDialogue (f : Dialogue → Dialogue) : s.AnswerStep (s.updDialogue l f) l :=
  State.answerStep_setLane rfl

theorem State.answerStep_of_lanes (h : s.DialogueStep u l) (htime : u.timeBase = s.timeBase)
    (hlanes : u.lanes = s.lanes) : s.AnswerStep u l :=
  ⟨h, htime, by rw [State.lane_congr hlanes]⟩

theorem State.EndsDialogue.answerStep (h : s.EndsDialogue u l) : s.AnswerStep u l :=
  ⟨h.dialogueStep, by rw [h.state], by rw [h.lane.parts]⟩

theorem State.enqueue_answerStep (r : RecordRequest) : s.AnswerStep (s.enqueue r) l :=
  ⟨⟨rfl, fun _ _ => rfl⟩, rfl, rfl⟩

theorem State.setTable_answerStep (t : List Sighting) : s.AnswerStep (s.setTable t) l :=
  ⟨⟨rfl, fun _ _ => rfl⟩, rfl, rfl⟩

theorem State.endDialogue_answerStep {d : Dialogue} (code : ResultCode) (byAbort : Bool)
    (h : (s.lane l).dialogue = some d) : s.AnswerStep (s.endDialogue l code byAbort) l :=
  (State.endDialogue_endsDialogue code byAbort h).answerStep

/-- A step's end after it. -/
theorem State.DialogueStep.answered (h : s.DialogueStep v l) (k : v.AnswerStep u l) :
    dialogueFrame s (State.conclude s u) l ∧ (State.conclude s u).timeBase = v.timeBase ∧
      ((State.conclude s u).lane l).gain = (v.lane l).gain := by
  have hconcluded : (State.conclude s u).lane l = _ := State.conclude_concluded s u l
  exact ⟨(h.trans k.toDialogueStep).frame, (State.DialogueStep.conclude_timeBase _ _).trans k.time,
    (congrArg Lane.gain hconcluded).trans k.gain⟩

end

/-! ## A command sent for the first time (R26) -/

/-- The lane as a command is to be sent: its noise measurement runs. -/
def Lane.sendingFirst (p : Parameters) (tb : Nat) (d : Dialogue) (c : CardCommand) (x : Lane) : Lane :=
  { x with
    link := .noise (tb + 2000) c p.noiseThreshold
    dialogue := some { d with command := some c, sendings := 1 } }

section
variable {s : State} {l : LaneId} {d : Dialogue}

theorem State.sendCommand_eq (c : CardCommand) (hd : (s.lane l).dialogue = some d) :
    s.sendCommand l c = s.setLane l ((s.lane l).sendingFirst s.params s.timeBase d c) := by
  rw [State.sendCommand, State.updDialogue_eq _ hd, State.onLane, State.updLane, State.lane_setLane_self,
    State.setLane_setLane]
  rfl

theorem State.sendCommand_answerStep (c : CardCommand) (hd : (s.lane l).dialogue = some d) :
    s.AnswerStep (s.sendCommand l c) l := by
  rw [State.sendCommand_eq c hd]
  exact State.answerStep_setLane rfl

theorem State.sendCommand_first (c : CardCommand) (hd : (s.lane l).dialogue = some d) :
    firstSending (s.sendCommand l c) l c := by
  have hlane := State.lane_setLane_self s l ((s.lane l).sendingFirst s.params s.timeBase d c)
  rw [State.sendCommand_eq c hd]
  exact ⟨congrArg Lane.link hlane, _, congrArg Lane.dialogue hlane, rfl, rfl⟩

theorem State.sendCommand_dialogue (c : CardCommand) (hd : (s.lane l).dialogue = some d) :
    ((s.sendCommand l c).lane l).dialogue = some { d with command := some c, sendings := 1 } := by
  rw [State.sendCommand_eq c hd, State.lane_setLane_self]
  rfl

theorem firstSending_conclude {b u : State} {c : CardCommand} (h : firstSending u l c) :
    firstSending (State.conclude b u) l c := by
  have hconcluded : (State.conclude b u).lane l = _ := State.conclude_concluded b u l
  obtain ⟨hlink, d, hd, hcommand⟩ := h
  have hparams : (State.conclude b u).params = u.params := State.conclude_params b u
  have htime := State.DialogueStep.conclude_timeBase b u
  refine ⟨(congrArg Lane.link hconcluded).trans ?_, d, (congrArg Lane.dialogue hconcluded).trans hd, hcommand⟩
  rw [hparams, htime]
  exact hlink

end

/-! ## A request to the engine (R68, R75, R77) -/

theorem selectSlot_storeFor (slots : Vector KeySlot 8) (card : CardNumber) (version : Nat) (cardKey : Option Key) :
    storeFor slots (.derive card version) cardKey (selectSlot slots version) := by
  have hmem : ∀ k ∈ slots.toList, ∃ j : Fin 8, slots[j] = k := fun k hk => by
    obtain ⟨i, hi, hget⟩ := List.mem_iff_getElem.mp hk
    exact ⟨⟨i, by simpa using hi⟩, by simpa using hget⟩
  have hin : ∀ j : Fin 8, slots[j] ∈ slots.toList := fun j => by simp
  have hholds : ∀ (state : KeyState) (k : KeySlot), KeySlot.holds state version k = true ↔
      k.state = state ∧ k.version = version := fun state k => by simp [KeySlot.holds]
  unfold selectSlot
  refine ⟨fun j hj honly => ?_, fun hnone hretired => ?_, fun hnone hretired => ?_⟩
  · cases hfind : slots.toList.find? (KeySlot.holds .loaded version) with
    | none => exact absurd ((hholds _ _).mpr hj) (List.find?_eq_none.mp hfind _ (hin j))
    | some k =>
      obtain ⟨i, rfl⟩ := hmem k (List.mem_of_find?_eq_some hfind)
      rw [honly i ((hholds _ _).mp (List.find?_some hfind))]
  · have hfind : slots.toList.find? (KeySlot.holds .loaded version) = none :=
      List.find?_eq_none.mpr fun k hk => by
        obtain ⟨i, rfl⟩ := hmem k hk
        exact fun h => hnone i ((hholds _ _).mp h)
    obtain ⟨j, hj⟩ := hretired
    rw [hfind]
    exact if_pos (List.any_eq_true.mpr ⟨_, hin j, (hholds _ _).mpr hj⟩)
  · have hfind : slots.toList.find? (KeySlot.holds .loaded version) = none :=
      List.find?_eq_none.mpr fun k hk => by
        obtain ⟨i, rfl⟩ := hmem k hk
        exact fun h => hnone i ((hholds _ _).mp h)
    rw [hfind]
    refine if_neg fun h => ?_
    obtain ⟨k, hk, hk'⟩ := List.any_eq_true.mp h
    obtain ⟨i, rfl⟩ := hmem k hk
    exact hretired i ((hholds _ _).mp hk')

/-- The working store of a request that enters service. -/
theorem State.loadStore_storeFor {s : State} {r : AeRequest} {d : Dialogue}
    (hd : (s.lane r.lane).dialogue = some d) : storeFor s.engine.slots r.operation d.cardKey (s.loadStore r) := by
  unfold State.loadStore
  rw [hd]
  cases r.operation with
  | derive card version => exact selectSlot_storeFor _ _ _ _
  | _ =>
    intro k hk
    dsimp only
    rw [hk]

theorem State.grantNext_dialogueStep (s : State) (l : LaneId) : s.DialogueStep s.grantNext l := by
  unfold State.grantNext
  split
  · exact ⟨rfl, fun _ _ => rfl⟩
  · exact .refl s l

theorem State.grantNext_lanes (s : State) : s.grantNext.lanes = s.lanes := by
  unfold State.grantNext
  split <;> rfl

theorem State.grantNext_timeBase (s : State) : s.grantNext.timeBase = s.timeBase := by
  unfold State.grantNext
  split <;> rfl

section
variable {s : State} {l : LaneId} {d : Dialogue}

/-- The state as the request has joined the list. -/
def State.asked (s : State) (l : LaneId) (d : Dialogue) (op : AeOperation) : State :=
  { s.setLane l { s.lane l with dialogue := some { d with outstanding := some .engine } } with
    engine := { s.engine with requests := s.engine.requests ++ [⟨l, d.tag, op, d.deadline⟩] } }

theorem State.askEngine_eq (op : AeOperation) (hd : (s.lane l).dialogue = some d) :
    s.askEngine l op = (s.asked l d op).grantNext := by
  unfold State.askEngine
  rw [hd]
  dsimp only
  rw [State.updDialogue_eq _ hd]
  rfl

theorem State.askEngine_answerStep (op : AeOperation) (hd : (s.lane l).dialogue = some d) :
    s.AnswerStep (s.askEngine l op) l := by
  have hasked : s.AnswerStep (s.asked l d op) l :=
    (State.answerStep_setLane (x := { s.lane l with dialogue := some { d with outstanding := some .engine } })
      rfl).trans (State.answerStep_of_lanes ⟨rfl, fun _ _ => rfl⟩ rfl rfl)
  rw [State.askEngine_eq op hd]
  exact hasked.trans (State.answerStep_of_lanes (State.grantNext_dialogueStep _ _) (State.grantNext_timeBase _)
    (State.grantNext_lanes _))

theorem State.askEngine_dialogue (op : AeOperation) (hd : (s.lane l).dialogue = some d) :
    ((s.askEngine l op).lane l).dialogue = some { d with outstanding := some .engine } := by
  rw [State.askEngine_eq op hd, State.lane_congr (State.grantNext_lanes _)]
  exact congrArg Lane.dialogue (State.lane_setLane_self s l _)

theorem State.askEngine_journal (op : AeOperation) (hd : (s.lane l).dialogue = some d) :
    (s.askEngine l op).journal = s.journal ∧ (s.askEngine l op).screening = s.screening := by
  rw [State.askEngine_eq op hd]
  unfold State.grantNext
  split <;> exact ⟨rfl, rfl⟩

theorem State.askEngine_engined (op : AeOperation) (hd : (s.lane l).dialogue = some d) :
    enginedFor s (s.askEngine l op) l d op := by
  have htime : (s.askEngine l op).timeBase = s.timeBase := (State.askEngine_answerStep op hd).time
  refine ⟨⟨_, State.askEngine_dialogue op hd, rfl⟩, fun hbusy => ?_, fun hfree hempty => ?_⟩
  · have hasked : s.askEngine l op = s.asked l d op := by
      rw [State.askEngine_eq op hd, State.grantNext]
      cases hservice : (s.asked l d op).engine.service with
      | none => exact absurd hservice hbusy
      | some w => rfl
    rw [hasked]
    exact ⟨rfl, rfl⟩
  · have hservice : (s.asked l d op).engine.service = none := hfree
    have hrequests : (s.asked l d op).engine.requests = [⟨l, d.tag, op, d.deadline⟩] := by
      change s.engine.requests ++ _ = _
      rw [hempty]
      rfl
    have hgranted : s.askEngine l op = (s.asked l d op).enterService ⟨l, d.tag, op, d.deadline⟩ := by
      rw [State.askEngine_eq op hd, State.grantNext, hservice, hrequests]
      rfl
    have hlane : ((s.asked l d op).lane l).dialogue = some { d with outstanding := some .engine } :=
      congrArg Lane.dialogue (State.lane_setLane_self s l _)
    rw [htime, hgranted]
    refine ⟨?_, _, rfl, rfl, rfl, rfl, rfl, State.loadStore_storeFor (r := ⟨l, d.tag, op, d.deadline⟩) hlane⟩
    change (s.asked l d op).engine.requests.filter _ = _
    rw [hrequests]
    simp

theorem enginedFor_conclude {b s u : State} {op : AeOperation} (hengine : b.engine = s.engine)
    (h : enginedFor s u l d op) : enginedFor b (State.conclude b u) l d op := by
  have hconcluded : (State.conclude b u).lane l = _ := State.conclude_concluded b u l
  have hdialogue := congrArg Lane.dialogue hconcluded
  have htime := State.DialogueStep.conclude_timeBase b u
  have hu : (State.conclude b u).engine = u.engine := State.conclude_engine b u
  unfold enginedFor at *
  rw [hdialogue, htime, hu, hengine]
  exact h

end

end Sys2Proof.Machine
end

section
/-! What a good answer does (01 R3 to R6, R8, R11; 03 R42, R45, R46, R52 to R54, R56; 06 R108, R111, R112). -/

namespace Sys2Proof.Machine

open Sys2Proof

/-! ## The fields of a good answer (R1) -/

/-- A field of an answer with `n` bytes of fields lies in its bytes after the kind byte. -/
theorem fieldAt_frameFields {f : AnswerFrame} {n off k : Nat} (h : f.bytes.length = 3 + n) (hin : off + k ≤ n) :
    fieldAt (frameFields f) off k = leNat (((f.bytes.drop 1).drop off).take k) := by
  have hlength : f.bytes.length - 3 = n := by omega
  rw [fieldAt, frameFields, hlength, List.drop_take, List.take_take, Nat.min_eq_left (by omega)]

/-- The block of a READ ANSWER. -/
theorem drop_frameFields {f : AnswerFrame} {n : Nat} (h : f.bytes.length = 3 + (1 + n)) :
    (frameFields f).drop 1 = ((f.bytes.drop 1).drop 1).take n := by
  have hlength : f.bytes.length - 3 = 1 + n := by omega
  rw [frameFields, hlength, List.drop_take, Nat.add_sub_cancel_left]

theorem length_of_goodAnswer {c : CardCommand} {size : Nat} {f : AnswerFrame} (h : goodAnswer c size f = true) :
    f.bytes.length = 3 + c.answerFields size := by
  simp only [goodAnswer, goodForm, Bool.and_eq_true, decide_eq_true_iff] at h
  obtain ⟨⟨⟨hlength, -⟩, -⟩, -⟩ := h
  exact hlength

theorem validCard_iff (card : CardNumber) : validCard card = true ↔ card ≠ 0#64 ∧ card ≠ BitVec.allOnes 64 := by
  simp [validCard]

/-! ## The end of a dialogue whose context the answer changed -/

/-- The certain end of a dialogue whose other fields changed before it. -/
theorem endsNow_of_fields {s t : State} {l : LaneId} {d e : Dialogue} {code : ResultCode} {ended : List Credit}
    (hcertain : code ≠ .uncertain) (hwait : e.outstanding = d.outstanding) (hknown : e.known = d.known)
    (hdirection : e.direction = d.direction) (hidentity : e.identity = d.identity) (hphase : e.phase = d.phase)
    (h : endsNow s t l e code ended) : endsNow s t l d code ended := by
  have hcard : e.card = d.card := by
    unfold Dialogue.card
    rw [hidentity]
  obtain ⟨hends, hnow, hwaits⟩ := h
  rw [hwait] at hnow
  rw [hwait, hphase] at hwaits
  refine ⟨hends, fun hfree => ⟨?_, fun hc => absurd hc hcertain⟩, hwaits⟩
  obtain ⟨⟨hrelease, hquiet, hrecord⟩, -⟩ := hnow hfree
  rw [hknown] at hquiet
  rw [hknown, hdirection, hcard] at hrecord
  refine ⟨hrelease, hquiet, fun hc => ?_⟩
  obtain ⟨hsome, record, hqueue, hlane, hdir, hcrd, hresult, hkind, -⟩ := hrecord hc
  exact ⟨hsome, record, hqueue, hlane, hdir, hcrd, hresult, hkind, fun hc' => absurd hc' hcertain⟩

/-! ## The answers -/

section
variable {s v : State} {l : LaneId} {d : Dialogue} {f : AnswerFrame}

/-- The dialogue as its identity has been examined. -/
def Dialogue.examined (d : Dialogue) (i : Identity) : Dialogue :=
  { d with
    phase := .identify, identity := some i
    known := validCard i.card && !(i.blockSize = 16 || i.blockSize = 32) }

theorem State.lane_setDialogue (f : Dialogue → Dialogue) (hd : (v.lane l).dialogue = some d) :
    ((v.updDialogue l f).lane l).dialogue = some (f d) := by
  rw [State.updDialogue_eq f hd, State.lane_setLane_self]

theorem State.examineIdentity_good {i : Identity} (hvalid : validCard i.card = true)
    (hsized : i.blockSize = 16 ∨ i.blockSize = 32) :
    v.examineIdentity l i = (v.updDialogue l fun d => d.examined i).sendCommand l (.identify i.card) :=
  if_pos (by simp [hvalid, hsized])

theorem State.examineIdentity_bad {i : Identity}
    (h : ¬ (validCard i.card = true ∧ (i.blockSize = 16 ∨ i.blockSize = 32))) :
    v.examineIdentity l i = (v.updDialogue l fun d => d.examined i).endDialogue l .format false :=
  if_neg (by simpa using h)

theorem State.examineIdentity_answerStep (i : Identity) (hd : (v.lane l).dialogue = some d) :
    v.AnswerStep (v.examineIdentity l i) l := by
  have hexamined := State.lane_setDialogue (fun d => d.examined i) hd
  refine (State.answerStep_updDialogue fun d => d.examined i).trans ?_
  unfold State.examineIdentity
  dsimp only
  split
  · exact State.sendCommand_answerStep _ hexamined
  · exact State.endDialogue_answerStep _ _ hexamined

/-- The state as a block has joined the record area. -/
def State.blockTaken (v : State) (l : LaneId) (d : Dialogue) (area : List Byte) : State :=
  v.setLane l { v.lane l with dialogue := some { d with recordArea := area, command := none } }

theorem State.lane_blockTaken (area : List Byte) : ((v.blockTaken l d area).lane l).dialogue =
    some { d with recordArea := area, command := none } := congrArg Lane.dialogue (State.lane_setLane_self v l _)

theorem State.blockTaken_answerStep (area : List Byte) : v.AnswerStep (v.blockTaken l d area) l :=
  State.answerStep_setLane rfl

/-- The block size of a dialogue in READ. -/
def Dialogue.readSize (d : Dialogue) : Nat :=
  match d.identity with
  | none => 16
  | some i => i.blockSize

theorem Dialogue.readSize_of {i : Identity} (h : d.identity = some i) : d.readSize = i.blockSize := by
  rw [Dialogue.readSize, h]

theorem State.takeBlock_eq {index : Nat} (hd : (v.lane l).dialogue = some d) :
    let area := patch d.recordArea (index * d.readSize) ((frameFields f).drop 1)
    v.takeBlock l d index f =
      if (index + 1) * d.readSize < 64 then (v.blockTaken l d area).sendCommand l (.read (index + 1))
      else if productPasses (productImage area) && pursePasses (purseImage area) then
        ((v.blockTaken l d area).updDialogue l fun d => { d with phase := .verify }).askEngine l
          (.verify (productImage area) (purseImage area))
      else (v.blockTaken l d area).endDialogue l .format false := by
  intro area
  unfold State.takeBlock
  dsimp only
  rw [State.updDialogue_eq _ hd]
  rfl

theorem State.takeBlock_answerStep {index : Nat} (hd : (v.lane l).dialogue = some d) :
    v.AnswerStep (v.takeBlock l d index f) l := by
  rw [State.takeBlock_eq hd]
  generalize patch d.recordArea (index * d.readSize) ((frameFields f).drop 1) = area
  refine (State.blockTaken_answerStep (d := d) area).trans ?_
  have htaken := fun area => State.lane_blockTaken (v := v) (l := l) (d := d) area
  split
  · exact State.sendCommand_answerStep _ (htaken _)
  · split
    · exact (State.answerStep_updDialogue _).trans
        (State.askEngine_answerStep _ (State.lane_setDialogue _ (htaken _)))
    · exact State.endDialogue_answerStep _ _ (htaken _)

/-- The state as the expected counter has confirmed the write. -/
def State.confirmed (v : State) (l : LaneId) (d : Dialogue) : State :=
  State.enqueue
    (State.setLane
      (v.confirmImage d.card ⟨purseCounter (d.image.getD []), purseCheck (d.image.getD [])⟩) l
      { v.lane l with dialogue := some { d with phase := .confirm, command := none, outstanding := some .journal } })
    ⟨d.fareRecord l d.direction.fareKind .accept v.now, .dialogue l, .grant l⟩

theorem State.takeAck_expected (hd : (v.lane l).dialogue = some d)
    (h : d.expected = some (fieldAt (frameFields f) 0 2)) : v.takeAck l d f = v.confirmed l d := by
  have hlane : State.updDialogue (v.confirmImage d.card ⟨purseCounter (d.image.getD []), purseCheck (d.image.getD [])⟩)
      l (fun d => { d with phase := .confirm, command := none, outstanding := some .journal }) =
      State.setLane (v.confirmImage d.card ⟨purseCounter (d.image.getD []), purseCheck (d.image.getD [])⟩) l
        { v.lane l with
          dialogue := some { d with phase := .confirm, command := none, outstanding := some .journal } } :=
    State.updDialogue_eq _ hd
  rw [State.takeAck, if_pos h]
  dsimp only
  rw [hlane]
  rfl

theorem State.takeAck_unexpected (h : d.expected ≠ some (fieldAt (frameFields f) 0 2)) :
    v.takeAck l d f = v.endDialogue l .uncertain false := if_neg h

theorem State.confirmed_answerStep : v.AnswerStep (v.confirmed l d) l := by
  have htable : v.AnswerStep
      (v.confirmImage d.card ⟨purseCounter (d.image.getD []), purseCheck (d.image.getD [])⟩) l :=
    State.setTable_answerStep _
  refine (htable.trans (State.answerStep_setLane (x := { v.lane l with
    dialogue := some { d with phase := .confirm, command := none, outstanding := some .journal } }) rfl)).trans ?_
  exact State.enqueue_answerStep _

theorem findSighting_confirmed {e : Sighting} (he : findSighting v.screening.table d.card = some e) :
    findSighting (v.confirmed l d).screening.table d.card =
      some { e with
        lastImage := some ⟨purseCounter (d.image.getD []), purseCheck (d.image.getD [])⟩, touched := v.now } := by
  change findSighting (touchSighting (changeSighting v.screening.table d.card _) d.card v.now) d.card = _
  rw [findSighting_touchSighting_self, findSighting_changeSighting_self, he]
  rfl

theorem State.takeAnswer_answerStep (c : CardCommand) (hd : (v.lane l).dialogue = some d) :
    v.AnswerStep (v.takeAnswer l d c f) l := by
  cases c with
  | select => exact State.examineIdentity_answerStep _ hd
  | identify card => exact State.answerStep_updDialogue _
  | auth => exact (State.answerStep_updDialogue _).trans (State.askEngine_answerStep _ (State.lane_setDialogue _ hd))
  | read index => exact State.takeBlock_answerStep hd
  | writePurse sent =>
    by_cases h : d.expected = some (fieldAt (frameFields f) 0 2)
    · have hconfirmed : v.takeAnswer l d (.writePurse sent) f = v.confirmed l d := State.takeAck_expected hd h
      rw [hconfirmed]
      exact State.confirmed_answerStep
    · have hends : v.takeAnswer l d (.writePurse sent) f = v.endDialogue l .uncertain false :=
        State.takeAck_unexpected h
      rw [hends]
      exact State.endDialogue_answerStep _ _ hd
  | probe => exact .refl v l

end

/-! ## The clauses, shown at the step's end -/

section
variable {s v : State} {l : LaneId} {d : Dialogue} {f : AnswerFrame}

theorem State.conclude_dialogue (b u : State) (l : LaneId) :
    ((State.conclude b u).lane l).dialogue = (u.lane l).dialogue := by
  have hconcluded : (State.conclude b u).lane l = _ := State.conclude_concluded b u l
  exact (congrArg Lane.dialogue hconcluded :)

/-- The record of a known card whose dialogue is refused at once. -/
theorem record_of_known {t : State} {code : ResultCode} (hcertain : code ≠ .uncertain) (hknown : d.known = true)
    (hfree : ∀ o, d.outstanding = some o → o.atScreening = false) (h : endsNow s t l d code []) :
    ∃ record, t.journal.queue = s.journal.queue ++ [⟨record, .dialogue l, .release l⟩] ∧
      record.kind = .refused ∧ record.result = code ∧ record.card = d.card := by
  obtain ⟨-, hnow, -⟩ := h
  obtain ⟨⟨-, -, hrecord⟩, -⟩ := hnow hfree
  obtain ⟨-, record, hqueue, -, -, hcard, hresult, hkind, -⟩ := hrecord (.inr hknown)
  exact ⟨record, hqueue, hkind hcertain, hresult, hcard⟩

theorem selectAnswered (hd : (v.lane l).dialogue = some d) (hjournal : v.journal = s.journal)
    (htable : v.screening = s.screening) (hnow : v.now = s.now) (hlength : f.bytes.length = 3 + 10) :
    let t := State.conclude s (v.examineIdentity l (identityOf f))
    let fields := f.bytes.drop 1
    let card := BitVec.ofNat 64 (leNat (fields.take 8))
    let size := leNat ((fields.drop 8).take 1)
    let version := leNat ((fields.drop 9).take 1)
    let valid := card ≠ 0#64 ∧ card ≠ BitVec.allOnes 64
    let sized := size = 16 ∨ size = 32
    (valid → sized → firstSending t l (.identify card) ∧ ∃ y, (t.lane l).dialogue = some y ∧
      y.phase = .identify ∧ y.identity = some ⟨card, size, version⟩ ∧ y.known = false) ∧
    (¬ valid ∨ ¬ sized → endsWith t l .format) ∧
    (¬ valid → t.journal.queue = s.journal.queue) ∧
    (valid → ¬ sized → (∀ o, d.outstanding = some o → o.atScreening = false) →
      ∃ record, t.journal.queue = s.journal.queue ++ [⟨record, .dialogue l, .release l⟩] ∧
        record.kind = .refused ∧ record.result = .format ∧ record.card = card) := by
  intro t fields card size version valid sized
  have hidentity : identityOf f = ⟨card, size, version⟩ := by
    rw [identityOf, fieldAt_frameFields hlength (by decide), fieldAt_frameFields hlength (by decide),
      fieldAt_frameFields hlength (by decide)]
    rfl
  have ht : t = State.conclude s (v.examineIdentity l ⟨card, size, version⟩) := by
    rw [← hidentity]
  clear_value t card size version
  have hexamined := State.lane_setDialogue (fun d => d.examined ⟨card, size, version⟩) hd
  have hbad : ¬ valid ∨ ¬ sized → endsNow s t l (d.examined ⟨card, size, version⟩) .format [] := fun h => by
    rw [ht, State.examineIdentity_bad (fun ⟨hvalid, hsized⟩ => by
      rcases h with h | h
      · exact h ((validCard_iff _).mp hvalid)
      · exact h hsized)]
    exact endsNow_conclude (endsNow_of_before (by rw [← hjournal]) (by rw [← htable]) hnow
      (State.endDialogue_endsNow .format false hexamined))
  have hknown : (d.examined ⟨card, size, version⟩).known = true ↔ valid ∧ ¬ sized := by
    change (validCard card && !(size = 16 || size = 32)) = true ↔ _
    rw [Bool.and_eq_true, validCard_iff]
    simp [valid, sized]
  refine ⟨fun hvalid hsized => ?_, fun h => (hbad h).1, fun h => ?_, fun hvalid hsized hfree => ?_⟩
  · rw [ht, State.examineIdentity_good ((validCard_iff _).mpr hvalid) hsized]
    refine ⟨firstSending_conclude (State.sendCommand_first _ hexamined), _,
      (State.conclude_dialogue _ _ _).trans (State.sendCommand_dialogue _ hexamined), rfl, rfl, ?_⟩
    exact Bool.eq_false_iff.mpr fun h => (hknown.mp h).2 hsized
  · exact queue_of_unknown (by decide) (Bool.eq_false_iff.mpr fun hk => h (hknown.mp hk).1) (hbad (.inl h))
  · exact record_of_known (by decide) (hknown.mpr ⟨hvalid, hsized⟩) hfree (hbad (.inr hsized))

theorem readAnswered {index : Nat} {i : Identity} (hd : (v.lane l).dialogue = some d) (hi : d.identity = some i)
    (hjournal : v.journal = s.journal) (htable : v.screening = s.screening) (hnow : v.now = s.now)
    (hengine : v.engine = s.engine) (hlength : f.bytes.length = 3 + (1 + i.blockSize)) :
    let t := State.conclude s (v.takeBlock l d index f)
    let off := index * i.blockSize
    let block := ((f.bytes.drop 1).drop 1).take i.blockSize
    let area := d.recordArea.take off ++ block ++ d.recordArea.drop (off + block.length)
    ((index + 1) * i.blockSize < 64 → firstSending t l (.read (index + 1)) ∧
      ∃ y, (t.lane l).dialogue = some y ∧ y.recordArea = area ∧ y.phase = d.phase) ∧
    (64 ≤ (index + 1) * i.blockSize →
      (productPasses (area.take 32) = true → pursePasses (area.drop 32) = true →
        enginedFor s t l d (.verify (area.take 32) (area.drop 32)) ∧
        ∃ y, (t.lane l).dialogue = some y ∧ y.recordArea = area ∧ y.phase = .verify) ∧
      (productPasses (area.take 32) = false ∨ pursePasses (area.drop 32) = false →
        endsNow s t l d .format [])) := by
  intro t off block area
  have harea : patch d.recordArea (index * d.readSize) ((frameFields f).drop 1) = area := by
    rw [drop_frameFields hlength, Dialogue.readSize_of hi]
    rfl
  have hread := State.takeBlock_eq (f := f) (index := index) hd
  dsimp only at hread
  rw [harea, Dialogue.readSize_of hi] at hread
  have ht : t = State.conclude s (v.takeBlock l d index f) := rfl
  rw [hread] at ht
  clear_value t area
  have htaken := State.lane_blockTaken (v := v) (l := l) (d := d) area
  refine ⟨fun hmore => ?_, fun hlast => ⟨fun hproduct hpurse => ?_, fun hbad => ?_⟩⟩
  · rw [if_pos hmore] at ht
    rw [ht]
    exact ⟨firstSending_conclude (State.sendCommand_first _ htaken), _,
      (State.conclude_dialogue _ _ _).trans (State.sendCommand_dialogue _ htaken), rfl, rfl⟩
  · rw [if_neg (Nat.not_lt.mpr hlast), if_pos (by rw [Bool.and_eq_true]; exact ⟨hproduct, hpurse⟩)] at ht
    have hverify := State.lane_setDialogue (fun d => { d with phase := .verify }) htaken
    have hengined := State.askEngine_engined (.verify (productImage area) (purseImage area)) hverify
    have hdialogue := State.askEngine_dialogue (.verify (productImage area) (purseImage area)) hverify
    rw [ht]
    exact ⟨enginedFor_conclude hengine.symm hengined, _, (State.conclude_dialogue _ _ _).trans hdialogue, rfl, rfl⟩
  · have hfails : ¬ (productPasses (productImage area) && pursePasses (purseImage area)) = true := by
      rw [Bool.and_eq_true]
      rintro ⟨hproduct, hpurse⟩
      rcases hbad with h | h
      · exact absurd (hproduct.symm.trans h) nofun
      · exact absurd (hpurse.symm.trans h) nofun
    rw [if_neg (Nat.not_lt.mpr hlast), if_neg hfails] at ht
    have hends := State.endDialogue_endsNow .format false htaken
    rw [ht]
    refine endsNow_conclude (endsNow_of_fields (e := { d with recordArea := area, command := none }) (by decide)
      rfl rfl rfl rfl rfl (endsNow_of_before (s' := v.blockTaken l d area) ?_ ?_ hnow hends))
    · rw [← hjournal]
      rfl
    · rw [← htable]
      rfl

theorem ackTaken {sent image : List Byte} (hd : (v.lane l).dialogue = some d) (himage : d.image = some image)
    (hjournal : v.journal = s.journal) (htable : v.screening = s.screening) (hnow : v.now = s.now)
    (hlength : f.bytes.length = 3 + 2) :
    let t := State.conclude s (v.takeAnswer l d (.writePurse sent) f)
    let counter := leNat ((f.bytes.drop 1).take 2)
    (d.expected = some counter →
      (∃ y, (t.lane l).dialogue = some y ∧ y.phase = .confirm ∧ y.outcome = d.outcome) ∧
      t.journal.reserved = s.journal.reserved ∧
      t.journal.queue = s.journal.queue ++
        [⟨d.fareRecord l (if d.direction = .entry then .fareEntry else .fareExit) .accept s.now, .dialogue l,
          .grant l⟩] ∧
      ∀ e, findSighting s.screening.table d.card = some e →
        findSighting t.screening.table d.card =
          some { e with lastImage := some ⟨purseCounter image, purseCheck image⟩, touched := s.now }) ∧
    (d.expected ≠ some counter → endsNow s t l d .uncertain []) := by
  intro t counter
  have hcounter : fieldAt (frameFields f) 0 2 = counter := fieldAt_frameFields hlength (by decide)
  have ht : t = State.conclude s (v.takeAck l d f) := rfl
  clear_value t
  refine ⟨fun h => ?_, fun h => ?_⟩
  · rw [State.takeAck_expected hd (hcounter ▸ h)] at ht
    have hkind : d.direction.fareKind = if d.direction = .entry then .fareEntry else .fareExit := by
      cases d.direction <;> rfl
    rw [ht, State.conclude_dialogue, State.conclude_journal, State.conclude_screening]
    refine ⟨⟨_, congrArg Lane.dialogue (State.lane_setLane_self _ l _), rfl, rfl⟩, ?_, ?_, fun e he => ?_⟩
    · rw [← hjournal]
      rfl
    · change v.journal.queue ++ _ = _
      rw [hjournal, hkind, hnow]
    · rw [findSighting_confirmed (htable ▸ he), himage, hnow]
      rfl
  · rw [State.takeAck_unexpected (hcounter ▸ h)] at ht
    rw [ht]
    exact endsNow_conclude (endsNow_of_before (by rw [hjournal]) (by rw [htable]) hnow
      (State.endDialogue_endsNow .uncertain false hd))

end

/-- Settles O42. -/
theorem purseAckConfirmsOrLeavesUncertain : Obligations.PurseAckConfirmsOrLeavesUncertain := by
  intro s l d c peak f ends hpin hd hc hends hgood fields
  have hd' : ((s.received l peak ends).lane l).dialogue = some d := by
    rw [State.lane_received_self]
    exact hd
  have hexec := exec_answerReceived_dialogue (peak := peak) (answer := .single f) hpin hends hd
  have hjudged : (s.received l peak ends).judgeAnswer l d (.single f) =
      (s.received l peak ends).takeAnswer l d c f := by
    unfold State.judgeAnswer
    rw [hc]
    exact if_pos hgood
  rw [hjudged] at hexec
  obtain ⟨hframe, htime, hgain⟩ := State.received_step.answered
    (State.takeAnswer_answerStep (v := s.received l peak ends) (f := f) c hd')
  rw [State.lane_received_self] at hgain
  have hlength := length_of_goodAnswer hgood
  refine ⟨_, hexec, hframe, htime, hgain, fun h => ?_, fun card h => ?_, fun v h hv => ?_, fun index i h hi => ?_,
    fun sent image h himage => ?_⟩
  · subst h
    exact selectAnswered hd' rfl rfl rfl hlength
  · subst h
    refine ⟨_, (State.conclude_dialogue _ _ _).trans (State.lane_setDialogue _ hd'), rfl, rfl, rfl, rfl, ?_⟩
    rw [htime]
    rfl
  · subst h
    have hasked := State.askEngine_engined (.authCheck (BitVec.ofNat 64 (fieldAt (frameFields f) 0 8))
      (d.challenge.getD 0#64) d.card) (State.lane_setDialogue (fun d => { d with command := none }) hd')
    have hoperation : AeOperation.authCheck (BitVec.ofNat 64 (fieldAt (frameFields f) 0 8))
        (d.challenge.getD 0#64) d.card = .authCheck (BitVec.ofNat 64 (leNat (fields.take 8))) v d.card := by
      rw [hv, fieldAt_frameFields hlength (Nat.le_refl 8)]
      rfl
    rw [← hoperation]
    exact enginedFor_conclude (b := s) rfl hasked
  · subst h
    have hblock : d.blockSize = i.blockSize := by rw [Dialogue.blockSize, hi]
    exact readAnswered hd' hi rfl rfl rfl rfl (hblock ▸ hlength)
  · subst h
    exact ackTaken hd' himage rfl rfl rfl hlength

end Sys2Proof.Machine
end

section
/-! The grant of a credit, and the row that waited for it (03 R53, R55, R57, R58; 06 R111; 07 R139, R143). -/

namespace Sys2Proof.Machine

open Sys2Proof

/-! ## The lane of a grant -/

section
variable (p : Parameters) (tb : Nat) (now : Int) (sequence : Word) (d : Dialogue) (x : Lane)

/-- Beside its credits an arrival moves the leaves and the passage. -/
theorem Lane.arrive_parts : x.arrive p tb now sequence d.card d.direction =
    { x with
      credits := x.credits ++ [x.newCredit p now sequence d]
      pc := (x.arrive p tb now sequence d.card d.direction).pc
      drive := (x.arrive p tb now sequence d.card d.direction).drive
      passage := (x.arrive p tb now sequence d.card d.direction).passage } := by
  unfold Lane.arrive Lane.newCredit
  dsimp only
  split <;> split <;> rfl

/-- A credit that arrives at closed leaves opens them (R139). -/
theorem Lane.arrive_opens (h : x.pc = .closed ∨ x.pc = .closing) :
    (x.arrive p tb now sequence d.card d.direction).pc = .opening ∧
      (x.arrive p tb now sequence d.card d.direction).stroking = some .atOpen := by
  unfold Lane.arrive
  dsimp only
  rw [if_pos h]
  split <;> exact ⟨rfl, rfl⟩

theorem Lane.arrive_pc_ne_fault (h : x.pc ≠ .fault) :
    (x.arrive p tb now sequence d.card d.direction).pc ≠ .fault := by
  by_cases hclosed : x.pc = .closed ∨ x.pc = .closing
  · rw [(x.arrive_opens p tb now sequence d hclosed).1]
    decide
  · unfold Lane.arrive
    dsimp only
    rw [if_neg hclosed]
    split <;> exact h

/-- A credit without a passenger in the approach beam, or with a passage open, waits (R139). -/
theorem Lane.arrive_waits (h : x.approachBlocked = false ∨ x.passage ≠ none) :
    (x.newCredit p now sequence d).state = .waiting (now + 1000 * p.creditLife) ∧
      (x.arrive p tb now sequence d.card d.direction).passage = x.passage := by
  have hnot : ¬ (x.approachBlocked && x.passage.isNone) = true := by
    rcases h with h | h <;> simp [h]
  unfold Lane.newCredit Lane.arrive
  dsimp only
  rw [if_neg hnot, if_neg hnot]
  refine ⟨rfl, ?_⟩
  split <;> rfl

/-- A credit meets the passenger in the approach beam (R143). -/
theorem Lane.arrive_atOnce (hblocked : x.approachBlocked = true) (hnone : x.passage = none) :
    (x.newCredit p now sequence d).state = .inUse (1000 * p.creditLife) false ∧
      (x.arrive p tb now sequence d.card d.direction).passage = some ⟨some (now + 1000 * p.maxPassage)⟩ := by
  have honce : (x.approachBlocked && x.passage.isNone) = true := by simp [hblocked, hnone]
  unfold Lane.newCredit Lane.arrive Lane.startPassage Lane.startOpening Lane.command
  dsimp only
  rw [if_pos honce, if_pos honce]
  refine ⟨?_, ?_⟩
  · exact congrArg (fun n => CreditState.inUse n false) (by omega)
  · split <;> rw [hnone]

theorem Lane.newCredit_fields : (x.newCredit p now sequence d).sequence = sequence ∧
    (x.newCredit p now sequence d).card = d.card ∧ (x.newCredit p now sequence d).direction = d.direction := by
  unfold Lane.newCredit Credit.use
  dsimp only
  split <;> exact ⟨rfl, rfl, rfl⟩

/-- The end of RELEASE writes the last result (R56). -/
theorem Lane.released_rewritten (outcome : ResultCode) (byAbort : Bool) :
    (x.released p tb now outcome byAbort).rewritten = 6 :: x.rewritten := by
  have hshown : ∀ y : Lane, (y.showOutcome p tb outcome byAbort).rewritten = y.rewritten := fun y => by
    unfold Lane.showOutcome
    split
    · rfl
    · split <;> rfl
  have hwatch : ∀ y : Lane, (y.startWatch now).rewritten = y.rewritten := fun y => by
    unfold Lane.startWatch
    split <;> rfl
  rw [Lane.released, hwatch, hshown]

/-- A grant's lane, apart from what RELEASE shows of it. -/
theorem Lane.granted_parts : x.granted p tb now sequence d =
    { x.arrive p tb now sequence d.card d.direction with
      link := (x.granted p tb now sequence d).link
      dialogue := none
      watch := (x.granted p tb now sequence d).watch
      lastResult := d.grantOutcome
      rewritten := 6 :: x.rewritten
      inProgress := false
      timedDisplay := (x.granted p tb now sequence d).timedDisplay
      tone := (x.granted p tb now sequence d).tone } := by
  have hparts := (Lane.released_endsDialogue p tb now d.grantOutcome d.byAbort
    (x.arrive p tb now sequence d.card d.direction)).parts
  obtain ⟨hresult, hprogress, -, -⟩ := Lane.released_fields p tb now d.grantOutcome d.byAbort
    (x.arrive p tb now sequence d.card d.direction)
  have hrewritten := Lane.released_rewritten p tb now (x.arrive p tb now sequence d.card d.direction) d.grantOutcome
    d.byAbort
  have hkept : (x.arrive p tb now sequence d.card d.direction).rewritten = x.rewritten := by
    rw [Lane.arrive_parts]
  have hover := Lane.released_dialogue p tb now d.grantOutcome d.byAbort
    (x.arrive p tb now sequence d.card d.direction)
  rw [hresult, hprogress, hrewritten, hkept, hover] at hparts
  exact hparts

theorem Lane.granted_watch (hon : x.field = .on) :
    (x.granted p tb now sequence d).watch = some ⟨0, some (now + 20), false⟩ := by
  obtain ⟨-, -, -, hwatch⟩ := Lane.released_fields p tb now d.grantOutcome d.byAbort
    (x.arrive p tb now sequence d.card d.direction)
  have hfield : (x.arrive p tb now sequence d.card d.direction).field = x.field := by
    rw [Lane.arrive_parts]
  exact (hwatch (hfield.trans hon)).1

end

/-! ## The effect of the record that a grant waits for -/

/-- What the record of a grant, and the grant, make of the state. -/
structure State.Grants (s u : State) (l : LaneId) (d : Dialogue) (rest : List RecordRequest) (r : Ring) : Prop where
  state : u = { s with
    timeBase := max s.timeBase s.journal.writeDue
    lanes := u.lanes
    screening := { s.screening with table := u.screening.table }
    journal := u.journal
    regs := u.regs
    mem := u.mem }
  others : ∀ k, k ≠ l → u.lane k = s.lane k
  lane : u.lane l = (usedPlace (s.lane l)).granted s.params (max s.timeBase s.journal.writeDue) s.instant
    s.journal.written d
  written : u.journal.written = s.journal.written + 1#16
  queue : u.journal.queue = rest
  reserved : d.reserved ≤ s.journal.reserved → 0 < d.reserved → u.journal.reserved + d.reserved = s.journal.reserved + 1
  entry : ∀ e, findSighting s.screening.table d.card = some e → findSighting u.screening.table d.card =
    some { e with mark := .pending l s.journal.written, claim := if d.claimHeld then none else e.claim }
  mem : ∀ a, ¬ (bytesFrom (r.base + 32 * s.journal.position) 32 a ∨ bytesFrom 0x10 2 a) →
    Memory.read u.mem a = Memory.read s.mem a

theorem State.writeRecord_outside (s : State) (r : Ring) (record : Record) {a : Nat}
    (ha : ¬ (bytesFrom (r.base + 32 * s.journal.position) 32 a ∨ bytesFrom 0x10 2 a)) :
    Memory.read (s.writeRecord r record).mem a = Memory.read s.mem a := by
  have hlength := record.length_bytes s.journal.written
  rw [not_or] at ha
  obtain ⟨hplace, htally⟩ := ha
  rw [State.writeRecord, State.writeMem_mem, State.writeMem_mem,
    Memory.read_writeBytes_of_not (by rwa [length_leBytes]), Memory.read_writeBytes_of_not (by rwa [hlength])]

theorem Lane.granted_usedPlace (p : Parameters) (tb : Nat) (now : Int) (sequence : Word) (d : Dialogue) (n : Nat)
    (x : Lane) : x.granted p tb now sequence { d with reserved := n } = x.granted p tb now sequence d := rfl

section
variable {s : State} {l : LaneId} {d : Dialogue} {q : RecordRequest} {rest : List RecordRequest} {r : Ring}

theorem State.writeDueFront_grants (hqueue : s.journal.queue = q :: rest) (hring : s.journal.ring = some r)
    (hwaiter : q.waiter = .grant l) (hholder : q.holder = .dialogue l) (hd : (s.lane l).dialogue = some d)
    (hdue : s.journal.writeDue ≤ s.nextTick) : s.Grants s.writeDueFront l d rest r := by
  obtain ⟨lanes, due, regs, m, hplaced, hm, hlanes, -⟩ := s.recorded_exists q rest r
  obtain ⟨w, hw⟩ : ∃ w, w = s.recorded rest r lanes due regs m := ⟨_, rfl⟩
  have hlane : w.lane l = usedPlace (s.lane l) := by
    subst hw
    exact (hlanes l).trans (if_pos hholder)
  have hother : ∀ k, k ≠ l → w.lane k = s.lane k := fun k hk => by
    subst hw
    exact (hlanes k).trans (if_neg fun h => hk (Holder.dialogue.inj (h.symm.trans hholder)))
  have hplace : (w.lane l).dialogue = some { d with reserved := d.reserved - 1 } := by
    rw [hlane, usedPlace, hd]
    rfl
  have heffect : s.writeDueFront = w.grant l s.journal.written := by
    rw [State.writeDueFront, hqueue, List.isEmpty_cons, if_neg Bool.false_ne_true, State.onDue_of_reached _ hdue]
    refine (State.writeFront_eq (s := { s with timeBase := max s.timeBase s.journal.writeDue }) hqueue hring).trans ?_
    rw [hplaced, ← hw, hwaiter]
    rfl
  rw [heffect, State.grant_eq _ hplace]
  obtain ⟨table, htable⟩ : ∃ t, t = Dialogue.dropClaim { d with reserved := d.reserved - 1 }
    (w.markPending d.card l s.journal.written).screening.table := ⟨_, rfl⟩
  change s.Grants (((w.setTable (Dialogue.dropClaim { d with reserved := d.reserved - 1 }
    (w.markPending d.card l s.journal.written).screening.table)).setReserved _).updLane l _) l d rest r
  rw [← htable]
  refine ⟨?_, fun k hk => (State.lane_updLane_ne _ _ hk).trans (hother k hk), ?_, ?_, ?_, fun hle hpos => ?_,
    fun e he => ?_, fun a ha => ?_⟩
  · rw [hw]
    rfl
  · rw [State.lane_updLane_self]
    change Lane.granted w.params w.timeBase w.instant s.journal.written _ (w.lane l) = _
    rw [hlane, hw]
    rfl
  · rw [hw]
    rfl
  · rw [hw]
    rfl
  · change w.journal.reserved - (d.reserved - 1) + 1 + d.reserved = _
    rw [hw]
    change s.journal.reserved - 1 - (d.reserved - 1) + 1 + d.reserved = _
    omega
  · change findSighting table d.card = _
    have hmarked : findSighting (w.markPending d.card l s.journal.written).screening.table d.card =
        some { e with mark := .pending l s.journal.written } := by
      change findSighting (changeSighting w.screening.table d.card _) d.card = _
      have hsame : w.screening.table = s.screening.table := by rw [hw]; rfl
      rw [findSighting_changeSighting_self, hsame, he]
      rfl
    obtain ⟨-, hclaim⟩ := Dialogue.findSighting_dropClaim { d with reserved := d.reserved - 1 }
      (w.markPending d.card l s.journal.written).screening.table
    rw [htable]
    exact hclaim _ hmarked
  · change Memory.read w.mem a = _
    rw [hw]
    change Memory.read m a = _
    rw [hm]
    exact s.writeRecord_outside r q.record ha

/-- The step of a grant's record: its event, then the rows that waited. -/
theorem exec_journalRecordWrite_grant (hpin : s.sys.resetPin = false) (hqueue : s.journal.queue = q :: rest)
    (hwaiter : q.waiter = .grant l) (hgrants : s.Grants s.writeDueFront l d rest r) :
    exec .journalRecordWrite s = .next (State.conclude s s.writeDueFront).settleDeferred := by
  have hfront : s.journal.frontGrants = true := by
    unfold Journal.frontGrants
    rw [hqueue]
    dsimp only
    rw [hwaiter]
  have hwritten : ((State.conclude s s.writeDueFront).journal.written != s.journal.written) = true := by
    rw [State.conclude_journal, hgrants.written]
    refine bne_iff_ne.mpr fun h => ?_
    have hone : (1#16 : BitVec 16) = 0#16 := by
      bv_omega
    exact absurd hone (by decide)
  change execJournalRecordWrite s = _
  rw [execJournalRecordWrite_eq, State.event_eq hpin, hfront, hwritten]
  rfl

end

/-! ## The step without a waiting row -/

section
variable {s u : State} {l : LaneId} {d : Dialogue} {rest : List RecordRequest} {r : Ring}

/-- What the grant's own event leaves, shown at its end. -/
theorem State.Grants.concluded (h : s.Grants u l d rest r) (hdeferred : s.deferred = [])
    (hle : d.reserved ≤ s.journal.reserved) (hpos : 0 < d.reserved) : ∃ t c, State.conclude s u = t ∧
      (t.lane l).credits = (s.lane l).credits ++ [c] ∧ c.sequence = s.journal.written ∧ c.card = d.card ∧
      c.direction = d.direction ∧ t.journal.written = s.journal.written + 1#16 ∧ t.journal.queue = rest ∧
      t.journal.reserved + d.reserved = s.journal.reserved + 1 ∧
      (t.lane l).dialogue = none ∧ (t.lane l).inProgress = false ∧
      (t.lane l).lastResult = (if d.screen = some .regrant then .regrant else .accept) ∧
      ((s.lane l).pc = .closed ∨ (s.lane l).pc = .closing →
        (t.lane l).pc = .opening ∧ (t.lane l).stroking = some .atOpen) ∧
      ((s.lane l).approachBlocked = false ∨ (s.lane l).passage ≠ none →
        c.state = .waiting (s.instant + 1000 * s.params.creditLife) ∧ (t.lane l).passage = (s.lane l).passage) ∧
      ((s.lane l).approachBlocked = true → (s.lane l).passage = none →
        c.state = .inUse (1000 * s.params.creditLife) false ∧
        (t.lane l).passage = some ⟨some (s.instant + 1000 * s.params.maxPassage)⟩) ∧
      ((s.lane l).field = .on → (t.lane l).watch = some ⟨0, some (s.instant + 20), false⟩) ∧
      (∀ e, findSighting s.screening.table d.card = some e →
        findSighting t.screening.table d.card =
          some { e with
            mark := .pending l s.journal.written
            claim := if d.claimHeld then none else e.claim }) ∧
      s.OtherLanesKept t l ∧ t.engine = s.engine ∧ t.fare = s.fare ∧ t.orders = s.orders ∧ t.params = s.params ∧
      t.sys = s.sys ∧ t.clock = s.clock ∧ t.deferred = [] ∧
      s.MemoryKept t (fun a => bytesFrom (r.base + 32 * s.journal.position) 32 a ∨ bytesFrom 0x10 2 a) := by
  obtain ⟨tb, htb⟩ : ∃ tb, tb = max s.timeBase s.journal.writeDue := ⟨_, rfl⟩
  obtain ⟨x, hx⟩ : ∃ x, x = usedPlace (s.lane l) := ⟨_, rfl⟩
  obtain ⟨lanes, m, hconclude, hconcluded, hkept, -⟩ := State.conclude_exists s u
  have hlane : u.lane l = x.granted s.params tb s.instant s.journal.written d := by rw [h.lane, hx, htb]
  have hgranted := x.granted_parts s.params tb s.instant s.journal.written d
  have harrive := x.arrive_parts s.params tb s.instant s.journal.written d
  have hl : lanes.get l = _ := hconcluded l
  rw [hlane] at hl
  obtain ⟨hsequence, hcard, hdirection⟩ := x.newCredit_fields s.params s.instant s.journal.written d
  have hpc : (lanes.get l).pc = (x.arrive s.params tb s.instant s.journal.written d.card d.direction).pc := by
    rw [hl, hgranted]
  have hdrive : (lanes.get l).drive = (x.arrive s.params tb s.instant s.journal.written d.card d.direction).drive := by
    rw [hl, hgranted]
  have hpassage : (lanes.get l).passage =
      (x.arrive s.params tb s.instant s.journal.written d.card d.direction).passage := by
    rw [hl, hgranted]
  have hstroking : (lanes.get l).stroking =
      (x.arrive s.params tb s.instant s.journal.written d.card d.direction).stroking := by
    unfold Lane.stroking
    rw [hdrive]
  have hcredits : (lanes.get l).credits =
      (s.lane l).credits ++ [x.newCredit s.params s.instant s.journal.written d] := by
    rw [hl, hgranted, harrive, hx]
    rfl
  rw [hconclude]
  refine ⟨_, _, rfl, hcredits, hsequence, hcard, hdirection, h.written, h.queue, h.reserved hle hpos, ?_, ?_, ?_,
    fun hclosed => ?_, fun hwaits => ?_, fun hblocked hnone => ?_, fun hon => ?_, h.entry, fun k hk => ?_, ?_⟩
  · change (lanes.get l).dialogue = none
    rw [hl, hgranted]
  · change (lanes.get l).inProgress = false
    rw [hl, hgranted]
  · change (lanes.get l).lastResult = d.grantOutcome
    rw [hl, hgranted]
  · obtain ⟨hopening, hopens⟩ := x.arrive_opens s.params tb s.instant s.journal.written d (hx ▸ hclosed)
    exact ⟨hpc.trans hopening, hstroking.trans hopens⟩
  · obtain ⟨hstate, hsame⟩ := x.arrive_waits s.params tb s.instant s.journal.written d (hx ▸ hwaits)
    exact ⟨hstate, hpassage.trans (hsame.trans (by rw [hx]; rfl))⟩
  · obtain ⟨hstate, hopen⟩ := x.arrive_atOnce s.params tb s.instant s.journal.written d (hx ▸ hblocked) (hx ▸ hnone)
    exact ⟨hstate, hpassage.trans hopen⟩
  · have hwatch := x.granted_watch s.params tb s.instant s.journal.written d (hx ▸ hon)
    change (lanes.get l).watch = _
    rw [hl]
    exact hwatch
  · exact h.others k hk ▸ hconcluded k
  · have hsame : ∀ a, ¬ shownByte a → ¬ (bytesFrom (r.base + 32 * s.journal.position) 32 a ∨ bytesFrom 0x10 2 a) →
        Memory.read m a = Memory.read s.mem a := fun a hshown ha => (hkept a hshown).trans (h.mem a ha)
    have hd : u.deferred = [] := by rw [h.state, hdeferred]
    refine ⟨?_, ?_, ?_, ?_, ?_, ?_, hd, hsame⟩ <;> rw [h.state]

end

/-! ## A lane that a waiting mode takes out of service -/

/-- A lane without a dialogue that leaves service shows no other result. -/
theorem State.leaveService_idle {s : State} {l : LaneId} (h : (s.lane l).dialogue = none) :
    ((s.leaveService l).lane l).dialogue = none ∧ ((s.leaveService l).lane l).lastResult = (s.lane l).lastResult := by
  have hoff : ((s.fieldOff l).lane l).dialogue = none ∧ ((s.fieldOff l).lane l).lastResult = (s.lane l).lastResult := by
    have hdark : (s.updLane l Lane.dark).lane l = (s.lane l).dark := State.lane_updLane_self _ _ _
    have hdialogue : ((s.updLane l Lane.dark).lane l).dialogue = none := by
      rw [hdark]
      exact h
    have hresult : ((s.updLane l Lane.dark).lane l).lastResult = (s.lane l).lastResult := by
      rw [hdark]
      rfl
    unfold State.fieldOff
    split
    · exact ⟨h, rfl⟩
    · exact ⟨hdialogue, hresult⟩
    · dsimp only
      rw [hdialogue]
      exact ⟨hdialogue, hresult⟩
  obtain ⟨w, hw⟩ : ∃ w, w = (s.fieldOff l).updLane l fun x => { x with passage := none, timedDisplay := none } :=
    ⟨_, rfl⟩
  have hlane : w.lane l = { (s.fieldOff l).lane l with passage := none, timedDisplay := none } := by
    rw [hw]
    exact State.lane_updLane_self _ _ _
  obtain ⟨table, due, hdrop, -⟩ := State.endCredits_exists l .dropped (w.lane l).credits
    (w.updLane l fun x => { x with credits := [] })
  have hleft : (s.leaveService l).lane l = { w.lane l with credits := [] } := by
    have heq : s.leaveService l = (w.updLane l fun x => { x with credits := [] }).endCredits l .dropped
        (w.lane l).credits := by
      rw [hw]
      rfl
    rw [heq, hdrop]
    exact State.lane_updLane_self w l fun x => { x with credits := [] }
  rw [hleft, hlane]
  exact hoff

theorem State.outOfService_idle {s : State} {l : LaneId} {mode : LaneMode} {f : Parameters → Nat → Lane → Lane}
    (hf : ∀ p tb x, Lane.Moves x (f p tb x)) (h : (s.lane l).dialogue = none) :
    ((s.outOfService l mode f).lane l).dialogue = none ∧
      ((s.outOfService l mode f).lane l).lastResult = (s.lane l).lastResult := by
  have hset : (s.updLane l fun x => { x with mode := mode }).lane l = { s.lane l with mode := mode } :=
    s.lane_updLane_self l _
  obtain ⟨hdialogue, hresult⟩ := State.leaveService_idle (s := s.updLane l fun x => { x with mode := mode }) (l := l)
    (by rw [hset]; exact h)
  unfold State.outOfService State.onLane
  rw [State.lane_updLane_self, hf]
  exact ⟨hdialogue, hresult.trans (by rw [hset])⟩

/-- Two lanes of different modes show different status blocks (R189). -/
theorem shownFields_mode {x y : Lane} {e e' : Emergency}
    (h : shownFields x e = shownFields y e') : x.mode = y.mode := by
  have hfirst : leBytes 1 x.mode.code = leBytes 1 y.mode.code := by
    have hheads := congrArg List.head? h
    exact (Prod.mk.inj (Option.some.inj hheads)).2
  revert hfirst
  cases x.mode <;> cases y.mode <;> decide

/-- A SET LANE MODE OUT that no check holds up, at a lane without a dialogue. -/
theorem outTaken {s : State} {o : OrderInService} {l : LaneId} (hhanded : s.Handed o 9) (hl : o.arg 0 1 = l.toNat)
    (hmode : o.arg 1 1 = 0) (hnew : (s.lane l).mode ≠ .out) (hpc : (s.lane l).pc ≠ .fault)
    (hemergency : s.emergency.asserted = false) (hnone : (s.lane l).dialogue = none) :
    s.setLaneMode = (s.outOfService l .out Lane.intoOut).answer o true .none (.laneNow l) := by
  have hrefusal : s.modeRefusal l .out = none := by
    rw [State.modeRefusal_rest hnew (fun ⟨h, _⟩ => absurd (hemergency.symm.trans h) Bool.false_ne_true)
      fun ⟨h, _⟩ => absurd h (by decide)]
    exact if_neg fun ⟨h, _⟩ => absurd h (by simp)
  have hgrant : ¬ grantInHand s l := fun ⟨d, hd, _⟩ => absurd (hnone.symm.trans hd) nofun
  rw [State.setLaneMode_of_args (mode := .out) hhanded hl hmode, State.modeOrdered_of_pass hrefusal,
    State.modeCutsGrant_eq_false hgrant, if_neg Bool.false_ne_true, State.applyMode_out hnew hpc]

/-- What that order shows at the end of its event. -/
theorem outShown {s : State} {o : OrderInService} {l : LaneId} (ho : s.orders.service = some o)
    (hnew : (s.lane l).mode ≠ .out) (hnone : (s.lane l).dialogue = none) :
    ∃ t, State.conclude s ((s.outOfService l .out Lane.intoOut).answer o true .none (.laneNow l)) = t ∧
      t.deferred = s.deferred ∧ s.EndedWith t o true .none (.laneNow l) (o.takenAt + 20) ∧ (t.lane l).mode = .out ∧
      (t.lane l).field = .off ∧ (t.lane l).dialogue = none ∧ (t.lane l).credits = [] ∧
      (t.lane l).lastResult = (s.lane l).lastResult ∧ s.OtherLanesKept t l ∧
      (t.lane l).stamp = (s.lane l).stamp + 1#16 ∧
      t.journal.queue = s.journal.queue ++ (s.lane l).credits.map (droppedRequest s l) := by
  have hleaves := s.outOfService_leaves l .out Lane.intoOut_moves
  obtain ⟨hdialogue, hresult⟩ := State.outOfService_idle (mode := .out) Lane.intoOut_moves hnone
  generalize s.outOfService l .out Lane.intoOut = v at hleaves hdialogue hresult
  obtain ⟨y, hy, hlane⟩ := hleaves.lane
  obtain ⟨hjournal, -⟩ := hleaves.idle hnone
  have hparts : v.lane l = { y with pc := (v.lane l).pc, drive := (v.lane l).drive } := by
    rw [hlane]
    exact Lane.intoOut_moves _ _ y
  have hmode : (v.lane l).mode = .out := by rw [hparts, hy.parts]
  have hservice : v.orders.service = some o := by rw [hleaves.state, ho]
  obtain ⟨lanes, m, hconclude, hconcluded, -⟩ := State.conclude_exists s (v.answer o true .none (.laneNow l))
  have hl : lanes.get l = _ := hconcluded l
  have hstamp := State.conclude_stamp s (v.answer o true .none (.laneNow l)) l
  rw [if_neg fun ⟨hshown, _⟩ => hnew ((shownFields_mode hshown).trans hmode), hconclude] at hstamp
  rw [hconclude]
  refine ⟨_, rfl, ?_, State.endedWith_of (w := v) ho hservice rfl, (congrArg Lane.mode hl).trans hmode,
    (congrArg Lane.field hl).trans ?_, (congrArg Lane.dialogue hl).trans hdialogue,
    (congrArg Lane.credits hl).trans ?_, (congrArg Lane.lastResult hl).trans hresult, fun k hk => ?_,
    hstamp.trans ?_, ?_⟩
  · rw [hleaves.state]
    rfl
  · change (v.lane l).field = _
    rw [hparts, hy.parts]
  · change (v.lane l).credits = _
    rw [hparts, hy.parts]
  · have hother : (v.answer o true .none (.laneNow l)).lane k = s.lane k := hleaves.others k hk
    exact hother ▸ hconcluded k
  · change (v.lane l).stamp + 1#16 = _
    rw [hparts, hy.parts]
  · change v.journal.queue = _
    rw [hjournal]

/-- Settles O43. -/
theorem grantHandsTheCreditOver : Obligations.GrantHandsTheCreditOver := by
  intro s l d q rest r hpin hqueue hring hwaiter hholder hd hle hpos hdue
  have hgrants := State.writeDueFront_grants hqueue hring hwaiter hholder hd hdue
  have hexec := exec_journalRecordWrite_grant hpin hqueue hwaiter hgrants
  generalize s.writeDueFront = u at hgrants hexec
  refine ⟨fun hdeferred => ?_, fun o hdeferred hhanded hl hmode hnew hpc hemergency => ?_⟩
  · obtain ⟨t, c, ht, hfacts⟩ := hgrants.concluded hdeferred hle hpos
    have hnil : (State.conclude s u).deferred = [] := by rw [State.conclude_deferred, hgrants.state, hdeferred]
    rw [State.settleDeferred_of_nil hnil, ht] at hexec
    exact ⟨t, c, hexec, hfacts⟩
  · obtain ⟨ho, hstage, hkind⟩ := id hhanded
    obtain ⟨tb, htb⟩ : ∃ tb, tb = max s.timeBase s.journal.writeDue := ⟨_, rfl⟩
    have hlane := hgrants.lane
    rw [← htb] at hlane
    have hgranted := (usedPlace (s.lane l)).granted_parts s.params tb s.instant s.journal.written d
    have harrive := (usedPlace (s.lane l)).arrive_parts s.params tb s.instant s.journal.written d
    obtain ⟨-, hcard, hdirection⟩ := (usedPlace (s.lane l)).newCredit_fields s.params s.instant s.journal.written d
    obtain ⟨w, hw⟩ : ∃ w : State, w = { State.conclude s u with deferred := [] } := ⟨_, rfl⟩
    have hconcluded : ∀ k, (u.lane k).Concluded (w.lane k) := fun k => by
      rw [hw]
      exact State.conclude_concluded s u k
    have hwl : w.lane l = _ := hconcluded l
    rw [hlane] at hwl
    have hone : (State.conclude s u).deferred = [.setLaneMode] := by
      rw [State.conclude_deferred, hgrants.state, hdeferred]
    have hworders : w.orders = s.orders := by
      rw [hw]
      change (State.conclude s u).orders = _
      rw [State.conclude_orders, hgrants.state]
    have hwpin : w.sys.resetPin = false := by
      rw [hw]
      change (State.conclude s u).sys.resetPin = _
      rw [State.conclude_sys, hgrants.state, hpin]
    have hwemergency : w.emergency.asserted = false := by
      rw [hw]
      change (State.conclude s u).emergency.asserted = _
      rw [State.conclude_emergency, hgrants.state, hemergency]
    have hwhanded : w.Handed o 9 := ⟨hworders ▸ ho, hstage, hkind⟩
    have hwmode : (w.lane l).mode ≠ .out := by
      rw [hwl, hgranted, harrive]
      exact hnew
    have hwnone : (w.lane l).dialogue = none := by
      rw [hwl, hgranted]
    have hwpc : (w.lane l).pc ≠ .fault := by
      rw [hwl, hgranted]
      exact (usedPlace (s.lane l)).arrive_pc_ne_fault s.params tb s.instant s.journal.written d hpc
    obtain ⟨t, ht, htdeferred, hended, htmode, hfield, hover, hcredits, hresult, hothers, hstamp, hasked⟩ :=
      outShown (o := o) (hworders ▸ ho) hwmode hwnone
    have hstep : (State.conclude s u).settleDeferred = t := by
      rw [State.settleDeferred_of_one hone, ← hw, State.event_eq hwpin, ← ht]
      exact congrArg (State.conclude w)
        (outTaken hwhanded hl hmode hwmode hwpc hwemergency hwnone)
    have hlast : (w.lane l).lastResult = d.grantOutcome := by rw [hwl, hgranted]
    have hlist : (w.lane l).credits =
        (s.lane l).credits ++ [(usedPlace (s.lane l)).newCredit s.params s.instant s.journal.written d] := by
      rw [hwl, hgranted, harrive]
      rfl
    have hfirst : (w.lane l).stamp = (s.lane l).stamp + 1#16 := by
      have hrewritten : (u.lane l).rewritten ≠ [] := by
        rw [hlane, hgranted]
        exact List.cons_ne_nil _ _
      have hsame : (u.lane l).stamp = (s.lane l).stamp := by
        rw [hlane, hgranted, harrive]
        rfl
      rw [hw]
      exact (State.conclude_stamp_of_rewritten hrewritten).trans (by rw [hsame])
    have hwjournal : w.journal.queue = rest := by
      rw [hw]
      change (State.conclude s u).journal.queue = _
      rw [State.conclude_journal, hgrants.queue]
    have hnow : droppedRequest w l = droppedRequest s l := by
      have hclock : w.clock = s.clock := by
        rw [hw]
        change (State.conclude s u).clock = _
        rw [State.conclude_clock, hgrants.state]
      unfold droppedRequest State.now
      rw [hclock]
    rw [hstep] at hexec
    refine ⟨t, (usedPlace (s.lane l)).newCredit s.params s.instant s.journal.written d, hexec, ?_, ?_, htmode, hfield,
      hover, hcredits, hresult.trans hlast, hcard, hdirection, fun k hk => ?_, ?_, ?_⟩
    · rw [htdeferred, hw]
    · obtain ⟨hservice, -⟩ := hended
      exact ⟨hservice, ho⟩
    · have hbefore : (s.lane k).Concluded (w.lane k) := hgrants.others k hk ▸ hconcluded k
      exact hbefore.trans (hothers k hk)
    · rw [hstamp, hfirst, BitVec.add_assoc]
      rfl
    · rw [hasked, hwjournal, hlist, hnow]

end Sys2Proof.Machine
end

section
/-! The dialogue deadline (03 R38 to R40, R56, R59; 04 R78). -/

namespace Sys2Proof.Machine

open Sys2Proof

section
variable {s : State} {l : LaneId} {d : Dialogue}

/-- RELEASE starts no link work of the dialogue, and asks nothing of the engine. -/
theorem State.beginRelease_link {code : ResultCode} (h : (s.lane l).dialogue = some d) (hcode : d.outcome = some code)
    (hidle : (s.lane l).link = .idle) :
    ((s.beginRelease l).lane l).link = .idle ∧ (s.beginRelease l).engine = s.engine := by
  by_cases hcertain : code = .uncertain
  · subst hcertain
    rw [State.beginRelease_uncertain h hcode]
    exact ⟨(congrArg Lane.link (State.lane_setLane_self _ l _)).trans hidle, rfl⟩
  · cases hknown : d.known with
    | true =>
      rw [State.beginRelease_known h hcode hcertain hknown]
      exact ⟨(congrArg Lane.link (State.lane_setLane_self _ l _)).trans hidle, rfl⟩
    | false =>
      rw [State.beginRelease_unknown h hcode hcertain hknown]
      refine ⟨(congrArg Lane.link (State.lane_updLane_self _ l _)).trans ?_, rfl⟩
      have hshown : ∀ y : Lane, (y.showOutcome s.params s.timeBase code d.byAbort).link = y.link := fun y => by
        unfold Lane.showOutcome
        split
        · rfl
        · split <;> rfl
      unfold Lane.released Lane.startWatch
      split
      · rfl
      · exact (hshown _).trans hidle

/-- An outcome stops the dialogue's link and withdraws its request to the engine (R38, R78). -/
theorem State.endDialogue_stops (code : ResultCode) (byAbort : Bool) (h : (s.lane l).dialogue = some d) :
    ((s.endDialogue l code byAbort).lane l).link = .idle ∧
      ∀ r ∈ (s.endDialogue l code byAbort).engine.requests, r.lane ≠ l := by
  have hlane : (s.decideOutcome l (d.decided s.now code byAbort)).lane l =
      { s.lane l with link := .idle, dialogue := some (d.decided s.now code byAbort) } :=
    State.lane_updLane_self _ _ _
  have hrequests : ∀ r ∈ (s.decideOutcome l (d.decided s.now code byAbort)).engine.requests, r.lane ≠ l :=
    fun r hr => by simpa using (List.mem_filter.mp hr).2
  have hidle : ((s.decideOutcome l (d.decided s.now code byAbort)).lane l).link = .idle := by rw [hlane]
  rw [State.endDialogue_eq code byAbort h]
  split
  · exact ⟨hidle, hrequests⟩
  · obtain ⟨hlink, hengine⟩ := State.beginRelease_link (d := d.decided s.now code byAbort) (by rw [hlane]) rfl hidle
    rw [hengine]
    exact ⟨hlink, hrequests⟩

/-- The REFUSED record of a known card's dialogue that is ended while nothing of it is at the Screening Unit (R60). -/
theorem State.endDialogue_refused {code : ResultCode} (byAbort : Bool) (h : (s.lane l).dialogue = some d)
    (hcertain : code ≠ .uncertain) (hknown : d.known = true)
    (hfree : ∀ o, d.outstanding = some o → o.atScreening = false) :
    (s.endDialogue l code byAbort).journal.queue =
      s.journal.queue ++ [⟨(d.decided s.now code byAbort).refusedRecord l code s.now, .dialogue l, .release l⟩] := by
  have hlane : ((s.decideOutcome l (d.decided s.now code byAbort)).lane l).dialogue =
      some (d.decided s.now code byAbort) := congrArg Lane.dialogue (State.lane_updLane_self _ _ _)
  rw [State.endDialogue_eq code byAbort h, if_neg fun hany => by
    obtain ⟨o, ho, hat⟩ := atScreening_any.mp hany
    exact absurd ((hfree o ho).symm.trans hat) Bool.false_ne_true,
    State.beginRelease_known hlane rfl hcertain hknown]
  rfl

theorem overdue_iff (now : Int) : d.overdue now = true ↔
    d.outcome = none ∧ d.writeSent = false ∧ ¬ (d.phase = .confirm ∨ d.phase = .grant) ∧ d.deadline ≤ now := by
  simp [Dialogue.overdue, Dialogue.granting, and_assoc]

end

/-- Settles O44. -/
theorem deadlineEndsADialogueBeforeItsWrite : Obligations.DeadlineEndsADialogueBeforeItsWrite := by
  intro s l d hpin hd
  have hgrants : grantInHand s l ↔ d.phase = .confirm ∨ d.phase = .grant :=
    ⟨fun ⟨e, he, h⟩ => Option.some.inj (hd.symm.trans he) ▸ h, fun h => ⟨d, hd, h⟩⟩
  refine ⟨fun hopen hwrite hgrant hdeadline => ?_, fun hs hquiet => ?_⟩
  · obtain ⟨t, ht, hframe, htime, -, hends⟩ :=
      State.endDialogue_concluded .tooSlow (State.DialogueStep.refl s l) hd rfl rfl
    obtain ⟨hlink, hrequests⟩ := State.endDialogue_stops .tooSlow false hd
    have hparts := (State.endDialogue_endsDialogue .tooSlow false hd).lane.parts
    have hexec : exec (.dialogueDeadlineExpiry l) s = .next (State.conclude s (s.endDialogue l .tooSlow false)) := by
      refine exec_concluded hpin rfl ?_
      rw [hd]
      exact if_pos ((overdue_iff _).mpr ⟨hopen, hwrite, fun h => hgrant (hgrants.mpr h), hdeadline⟩)
    have hconcluded : (State.conclude s (s.endDialogue l .tooSlow false)).lane l = _ :=
      State.conclude_concluded s (s.endDialogue l .tooSlow false) l
    have hl : t.lane l = _ := ht ▸ hconcluded
    rw [ht] at hexec
    refine ⟨t, hexec, hframe, htime, hends, (congrArg Lane.link hl).trans hlink, (congrArg Lane.noisyRun hl).trans ?_,
      (congrArg Lane.quietRun hl).trans ?_, ?_, fun hknown hfree => ?_, fun hunknown hfree => ?_⟩
    · rw [hparts]
    · rw [hparts]
    · rw [← ht, State.conclude_engine]
      exact hrequests
    · refine ⟨(d.decided s.now .tooSlow false).refusedRecord l .tooSlow s.now, ?_, rfl, rfl, rfl, rfl, rfl, rfl⟩
      rw [← ht, State.conclude_journal]
      exact State.endDialogue_refused false hd (by decide) hknown hfree
    · obtain ⟨-, hnow, -⟩ := hends
      obtain ⟨⟨-, hnone, -⟩, -⟩ := hnow hfree
      obtain ⟨hqueue, hover⟩ := hnone (by decide) hunknown
      exact ⟨hqueue.trans (List.append_nil _), hover⟩
  · refine exec_of_lanes hpin hs rfl ?_ rfl rfl rfl rfl
    rw [hd]
    refine if_neg fun h => ?_
    obtain ⟨-, hwrite, hgrant, hdeadline⟩ := (overdue_iff _).mp h
    rcases hquiet with h | h | h
    · exact absurd (hwrite.symm.trans h) Bool.false_ne_true
    · exact hgrant (hgrants.mp h)
    · omega

end Sys2Proof.Machine
end

section
/-! The completion of an operation of the Authentication Engine (03 R44, R45, R47, R51, R56; 04 R68, R75, R77, R79). -/

namespace Sys2Proof.Machine

open Sys2Proof

/-! ## The next request (R77) -/

theorem AeRequest.goesBefore_iff (a b : AeRequest) : a.goesBefore b = true ↔
    a.deadline < b.deadline ∨ a.deadline = b.deadline ∧ a.lane.toNat < b.lane.toNat := by
  simp [AeRequest.goesBefore]

theorem nextRequest_eq_none : ∀ {rs : List AeRequest}, nextRequest rs = none ↔ rs = []
  | [] => by simp [nextRequest]
  | r :: rest => by
    have hsome : nextRequest (r :: rest) ≠ none := by
      unfold nextRequest
      cases nextRequest rest with
      | none => nofun
      | some q =>
        dsimp only
        split <;> nofun
    simp [hsome]

/-- The request that is granted: the earliest deadline, the lowest lane first among equals. -/
theorem nextRequest_least : ∀ {rs : List AeRequest} {r : AeRequest}, nextRequest rs = some r → r ∈ rs ∧
    ∀ q ∈ rs, r.deadline < q.deadline ∨ r.deadline = q.deadline ∧ r.lane.toNat ≤ q.lane.toNat
  | [], r, h => absurd h nofun
  | a :: rest, r, h => by
    unfold nextRequest at h
    cases hrest : nextRequest rest with
    | none =>
      rw [hrest] at h
      obtain rfl := Option.some.inj h
      rw [nextRequest_eq_none.mp hrest]
      refine ⟨List.mem_singleton_self _, fun q hq => .inr ?_⟩
      rw [List.mem_singleton.mp hq]
      exact ⟨rfl, Nat.le_refl _⟩
    | some b =>
      obtain ⟨hmem, hleast⟩ := nextRequest_least hrest
      rw [hrest] at h
      dsimp only at h
      split at h
      next hbefore =>
        obtain rfl := Option.some.inj h
        refine ⟨List.mem_cons_of_mem _ hmem, fun q hq => ?_⟩
        rcases List.mem_cons.mp hq with rfl | hq
        · have := (AeRequest.goesBefore_iff _ _).mp hbefore
          omega
        · exact hleast q hq
      next hbefore =>
        obtain rfl := Option.some.inj h
        refine ⟨List.mem_cons_self, fun q hq => ?_⟩
        rcases List.mem_cons.mp hq with rfl | hq
        · exact .inr ⟨rfl, Nat.le_refl _⟩
        · have hb := hleast q hq
          have hnot : ¬ (b.deadline < a.deadline ∨ b.deadline = a.deadline ∧ b.lane.toNat < a.lane.toNat) :=
            fun hlt => hbefore ((AeRequest.goesBefore_iff _ _).mpr hlt)
          omega

/-- The engine as an operation has completed, before its result is delivered: its next request in service. -/
theorem State.grantNext_served {s : State} (h : s.engine.service = none) :
    (s.engine.requests = [] → s.grantNext = s) ∧
    (s.engine.requests ≠ [] → ∃ r, r ∈ s.engine.requests ∧
      (∀ q ∈ s.engine.requests,
        r.deadline < q.deadline ∨ r.deadline = q.deadline ∧ r.lane.toNat ≤ q.lane.toNat) ∧
      s.grantNext = s.enterService r) := by
  unfold State.grantNext
  rw [h]
  refine ⟨fun hempty => ?_, fun hsome => ?_⟩
  · rw [hempty]
    rfl
  · cases hnext : nextRequest s.engine.requests with
    | none => exact absurd (nextRequest_eq_none.mp hnext) hsome
    | some r =>
      obtain ⟨hmem, hleast⟩ := nextRequest_least hnext
      exact ⟨r, hmem, hleast, rfl⟩

/-! ## The result and its dialogue -/

section
variable {s : State} {l : LaneId} {d : Dialogue}

/-- An outcome withdraws the lane's requests (R78). -/
theorem State.endDialogue_requests (code : ResultCode) (byAbort : Bool) (h : (s.lane l).dialogue = some d) :
    (s.endDialogue l code byAbort).engine.requests = s.engine.requests.filter fun r => r.lane ≠ l := by
  have hlane : (s.decideOutcome l (d.decided s.now code byAbort)).lane l =
      { s.lane l with link := .idle, dialogue := some (d.decided s.now code byAbort) } :=
    State.lane_updLane_self _ _ _
  have hidle : ((s.decideOutcome l (d.decided s.now code byAbort)).lane l).link = .idle := by rw [hlane]
  rw [State.endDialogue_eq code byAbort h]
  split
  · rfl
  · obtain ⟨-, hengine⟩ := State.beginRelease_link (d := d.decided s.now code byAbort) (by rw [hlane]) rfl hidle
    rw [hengine]
    rfl

/-- A screen asked for changes its dialogue alone. -/
theorem State.askScreen_exists (h : (s.lane l).dialogue = some d) : ∃ o,
    s.askScreen l = s.setLane l { s.lane l with dialogue := some { d with phase := .screen, outstanding := o } } := by
  have hset : ∀ o, (s.updDialogue l fun d => { d with phase := .screen }).setOutstanding l o =
      s.setLane l { s.lane l with dialogue := some { d with phase := .screen, outstanding := o } } := fun o =>
    State.updDialogue_updDialogue _ _ h
  unfold State.askScreen
  dsimp only
  split
  · exact ⟨_, hset _⟩
  · unfold State.startLookup
    rw [State.lane_setDialogue _ h]
    dsimp only
    exact ⟨_, hset _⟩

/-- What the delivery of a result may change: what the end of a dialogue may, and of the engine the lane's own requests
alone. -/
structure State.Delivers (s u : State) (l : LaneId) : Prop extends s.EndsDialogue u l where
  requests : ∀ q, q ∈ u.engine.requests → q ∈ s.engine.requests
  waiting : ∀ q ∈ s.engine.requests, q.lane ≠ l → q ∈ u.engine.requests

theorem State.Delivers.trans {u v : State} (h : s.Delivers u l) (k : u.Delivers v l) : s.Delivers v l :=
  ⟨h.toEndsDialogue.trans k.toEndsDialogue, fun q hq => h.requests q (k.requests q hq),
    fun q hq hl => k.waiting q (h.waiting q hq hl) hl⟩

theorem State.Delivers.refl (s : State) (l : LaneId) : s.Delivers s l :=
  ⟨.refl s l, fun _ h => h, fun _ h _ => h⟩

theorem State.delivers_setLane {x : Lane} (h : (s.lane l).EndsDialogue x) : s.Delivers (s.setLane l x) l :=
  ⟨State.endsDialogue_setLane rfl h, fun _ h => h, fun _ h _ => h⟩

theorem State.delivers_updDialogue (f : Dialogue → Dialogue) : s.Delivers (s.updDialogue l f) l :=
  State.delivers_setLane ⟨rfl, List.suffix_rfl⟩

theorem State.sendCommand_delivers (c : CardCommand) (h : (s.lane l).dialogue = some d) :
    s.Delivers (s.sendCommand l c) l := by
  rw [State.sendCommand_eq c h]
  exact State.delivers_setLane ⟨rfl, List.suffix_rfl⟩

theorem State.askScreen_delivers (h : (s.lane l).dialogue = some d) : s.Delivers (s.askScreen l) l := by
  obtain ⟨o, heq⟩ := State.askScreen_exists h
  rw [heq]
  exact State.delivers_setLane ⟨rfl, List.suffix_rfl⟩

theorem State.endDialogue_delivers (code : ResultCode) (h : (s.lane l).dialogue = some d) :
    s.Delivers (s.endDialogue l code false) l := by
  have hrequests := State.endDialogue_requests code false h
  refine ⟨State.endDialogue_endsDialogue code false h, fun q hq => ?_, fun q hq hl => ?_⟩
  · rw [hrequests] at hq
    exact (List.mem_filter.mp hq).1
  · rw [hrequests]
    exact List.mem_filter.mpr ⟨hq, by simpa using hl⟩

/-- The dialogue as its request to a shared block is answered. -/
def Dialogue.answered (d : Dialogue) : Dialogue := { d with outstanding := none }

theorem State.lane_answered (h : (s.lane l).dialogue = some d) :
    ((s.setOutstanding l none).lane l).dialogue = some d.answered := State.lane_setDialogue _ h

theorem State.deliver_delivers (op : AeOperation) (store : WorkingStore) (h : (s.lane l).dialogue = some d) :
    s.Delivers (s.deliver l op store) l := by
  have hanswered := State.lane_answered h
  have hends := fun code => State.endDialogue_delivers code hanswered
  have hsends : ∀ (f : Dialogue → Dialogue) (c : CardCommand),
      (s.setOutstanding l none).Delivers (((s.setOutstanding l none).updDialogue l f).sendCommand l c) l := fun f c =>
    (State.delivers_updDialogue f).trans (State.sendCommand_delivers c (State.lane_setDialogue f hanswered))
  refine (State.delivers_updDialogue _).trans (u := s.setOutstanding l none) ?_
  unfold State.deliver
  dsimp only
  split
  · exact hsends _ _
  · exact hends _
  · exact hends _
  · split
    · exact hsends _ _
    · exact hends _
  · split
    · exact (State.delivers_updDialogue _).trans (State.askScreen_delivers (State.lane_setDialogue _ hanswered))
    · exact hends _
  · exact hsends _ _
  · exact .refl _ _

end

/-! ## The row -/

section
variable {s w : State} {l : LaneId} {d : Dialogue}

/-- The end of a dialogue whose request to a shared block has been answered. -/
theorem answeredEnds (code : ResultCode) (hw : (w.lane l).dialogue = some d.answered) (hjournal : w.journal = s.journal)
    (hscreening : w.screening = s.screening) (hnow : w.now = s.now) :
    endsWith (State.conclude s (w.endDialogue l code false)) l code ∧
      recordAsked (State.conclude s (w.endDialogue l code false)) l d code s.journal.queue [] := by
  have hends := State.endDialogue_endsNow code false hw
  obtain ⟨hover, hasked, -⟩ := endsNow_conclude (endsNow_of_before (s := s) (by rw [hjournal]) (by rw [hscreening])
    hnow hends)
  obtain ⟨hrecord, -⟩ := hasked nofun
  exact ⟨hover, hrecord⟩

end

theorem State.grantNext_same (s : State) : s.grantNext = { s with
    engine := { s.engine with requests := s.grantNext.engine.requests, service := s.grantNext.engine.service } } := by
  unfold State.grantNext
  split <;> rfl

/-- The state as the operation has completed and the next request, if one waits, is in service. -/
def State.engineFreed (s : State) (v : AeService) : State :=
  State.grantNext { s with timeBase := max s.timeBase v.completes, engine := { s.engine with service := none } }

/-- The effect of a completion. -/
def State.completed (s : State) (v : AeService) : State :=
  if (s.lane v.lane).dialogue.any fun d => d.awaitsEngine v.tag then
    (s.engineFreed v).deliver v.lane v.operation v.store
  else s.engineFreed v

section
variable {s : State} {v : AeService}

theorem State.engineFreed_same : s.engineFreed v = { s with
    timeBase := max s.timeBase v.completes
    engine := { s.engine with
      requests := (s.engineFreed v).engine.requests, service := (s.engineFreed v).engine.service } } :=
  State.grantNext_same _

theorem State.lane_engineFreed (l : LaneId) : (s.engineFreed v).lane l = s.lane l := by
  rw [State.engineFreed_same]
  rfl

theorem exec_aeOperationComplete (hpin : s.sys.resetPin = false) (hv : s.engine.service = some v)
    (hdue : v.completes ≤ s.nextTick) : exec .aeOperationComplete s = .next (State.conclude s (s.completed v)) := by
  refine exec_concluded hpin rfl ?_
  rw [hv]
  refine (State.onDue_of_reached _ hdue).trans ?_
  have hlane : ((s.engineFreed v).lane v.lane).dialogue.any (fun d => d.awaitsEngine v.tag) =
      (s.lane v.lane).dialogue.any fun d => d.awaitsEngine v.tag := by
    rw [State.lane_engineFreed]
  unfold State.completed
  rw [← hlane]
  rfl

theorem State.completed_of_waiting {d : Dialogue} (hd : (s.lane v.lane).dialogue = some d) (htag : d.tag = v.tag)
    (hopen : d.outcome = none) (hwaits : d.outstanding = some .engine) :
    s.completed v = (s.engineFreed v).deliver v.lane v.operation v.store :=
  if_pos (by simp [hd, Dialogue.awaitsEngine, htag, hopen, hwaits])

theorem State.completed_of_discarded (h : ∀ d, (s.lane v.lane).dialogue = some d →
    d.tag ≠ v.tag ∨ d.outcome ≠ none ∨ d.outstanding ≠ some .engine) : s.completed v = s.engineFreed v := by
  refine if_neg fun hany => ?_
  cases hd : (s.lane v.lane).dialogue with
  | none =>
    rw [hd] at hany
    exact absurd hany Bool.false_ne_true
  | some d =>
    rw [hd] at hany
    simp only [Option.any_some, Dialogue.awaitsEngine, Bool.and_eq_true, decide_eq_true_iff,
      Option.isNone_iff_eq_none] at hany
    obtain ⟨⟨htag, hopen⟩, hwaits⟩ := hany
    rcases h d hd with h | h | h
    · exact h htag
    · exact h hopen
    · exact h hwaits

theorem State.completed_delivers : (s.engineFreed v).Delivers (s.completed v) v.lane := by
  unfold State.completed
  split
  next hany =>
    cases hd : (s.lane v.lane).dialogue with
    | none =>
      rw [hd] at hany
      exact absurd hany Bool.false_ne_true
    | some d => exact State.deliver_delivers _ _ (by rw [State.lane_engineFreed, hd])
  next => exact .refl _ _

/-- The engine after a completion (R68, R77). -/
theorem State.completed_engine {t : State} (htime : t.timeBase = max s.timeBase v.completes)
    (hengine : t.engine = (s.completed v).engine) :
    t.engine.slots = s.engine.slots ∧
      (s.engine.requests = [] → t.engine.service = none ∧ t.engine.requests = []) ∧
      (s.engine.requests ≠ [] → ∃ w r, t.engine.service = some w ∧ r ∈ s.engine.requests ∧
        w.lane = r.lane ∧ w.tag = r.tag ∧ w.operation = r.operation ∧
        w.completes = t.timeBase + 10 * r.operation.duration ∧
        (∀ d, (s.lane r.lane).dialogue = some d → storeFor s.engine.slots r.operation d.cardKey w.store) ∧
        (∀ q ∈ s.engine.requests,
          r.deadline < q.deadline ∨ r.deadline = q.deadline ∧ r.lane.toNat ≤ q.lane.toNat) ∧
        (∀ q ∈ t.engine.requests, q ∈ s.engine.requests ∧ q.lane ≠ r.lane) ∧
        ∀ q ∈ s.engine.requests, q.lane ≠ r.lane → q.lane ≠ v.lane → q ∈ t.engine.requests) := by
  have hdelivers := State.completed_delivers (s := s) (v := v)
  have hservice : t.engine.service = (s.engineFreed v).engine.service := by
    rw [hengine, hdelivers.state]
  have hslots : t.engine.slots = s.engine.slots := by
    rw [hengine, hdelivers.state, State.engineFreed_same]
  obtain ⟨hidle, hnext⟩ := State.grantNext_served (s := { s with
    timeBase := max s.timeBase v.completes, engine := { s.engine with service := none } }) rfl
  rw [htime, hservice, hengine]
  rw [hengine] at hslots
  refine ⟨hslots, fun hempty => ?_, fun hsome => ?_⟩
  · have hfreed : s.engineFreed v = _ := hidle hempty
    have hnone : (s.engineFreed v).engine.requests = [] := by rw [hfreed, hempty]
    refine ⟨by rw [hfreed], List.eq_nil_iff_forall_not_mem.mpr fun q hq => ?_⟩
    have hold := hdelivers.requests q hq
    rw [hnone] at hold
    exact absurd hold List.not_mem_nil
  · obtain ⟨r, hmem, hleast, hgranted⟩ := hnext hsome
    have hfreed : s.engineFreed v = _ := hgranted
    have hrequests : (s.engineFreed v).engine.requests = s.engine.requests.filter fun q => q.lane ≠ r.lane := by
      rw [hfreed]
      rfl
    refine ⟨_, r, by rw [hfreed]; rfl, hmem, rfl, rfl, rfl, rfl, fun d hd => State.loadStore_storeFor (s := { s with
      timeBase := max s.timeBase v.completes, engine := { s.engine with service := none } }) hd, hleast,
      fun q hq => ?_, fun q hq hr hl => hdelivers.waiting q ?_ hl⟩
    · have hold := hdelivers.requests q hq
      rw [hrequests] at hold
      obtain ⟨hin, hne⟩ := List.mem_filter.mp hold
      exact ⟨hin, by simpa using hne⟩
    · rw [hrequests]
      exact List.mem_filter.mpr ⟨hq, by simpa using hr⟩

/-- What each result makes of the dialogue that waits for it (R44, R45, R47, R51). -/
theorem resultTaken {d : Dialogue} (hd : (s.lane v.lane).dialogue = some d) (hcompleted : s.completed v =
    (s.engineFreed v).deliver v.lane v.operation v.store) :
    let t := State.conclude s (s.completed v)
    let ends := fun code => endsWith t v.lane code ∧ recordAsked t v.lane d code s.journal.queue []
    (∀ card version, v.operation = .derive card version →
      (∀ k, v.store = .key k → firstSending t v.lane .auth ∧
        ∃ y, (t.lane v.lane).dialogue = some y ∧ y.cardKey = some (Config.deriveKey k card)) ∧
      (v.store = .keyRetired → ends .keyRetired) ∧
      (v.store = .keyUnknown → ends .keyUnknown)) ∧
    (∀ answer challenge card k, v.operation = .authCheck answer challenge card → v.store = .key k →
      (answer = authAnswerOf k challenge card → firstSending t v.lane (.read 0)) ∧
      (answer ≠ authAnswerOf k challenge card → ends .authFail)) ∧
    (∀ product purse k, v.operation = .verify product purse → v.store = .key k →
      (productCheckOf k product = productCheck product ∧ purseCheckOf k purse = purseCheck purse →
        ∃ y, (t.lane v.lane).dialogue = some y ∧ y.phase = .screen ∧ y.verified = true) ∧
      (productCheckOf k product ≠ productCheck product ∨ purseCheckOf k purse ≠ purseCheck purse →
        ends .checkFail)) ∧
    (∀ image k, v.operation = .seal image → v.store = .key k →
      firstSending t v.lane (.writePurse (sealImage k image)) ∧
      ∃ y, (t.lane v.lane).dialogue = some y ∧ y.image = some (sealImage k image) ∧ y.isSealed = true) := by
  intro t ends
  obtain ⟨w, hw⟩ : ∃ w, w = (s.engineFreed v).setOutstanding v.lane none := ⟨_, rfl⟩
  have hwlane : (w.lane v.lane).dialogue = some d.answered := by
    rw [hw]
    exact State.lane_answered (by rw [State.lane_engineFreed, hd])
  have hwends : ∀ code, s.completed v = w.endDialogue v.lane code false → ends code := fun code h => by
    have hsame : t = State.conclude s (w.endDialogue v.lane code false) := congrArg (State.conclude s) h
    have hover := answeredEnds (s := s) code hwlane (by rw [hw, State.engineFreed_same]; rfl)
      (by rw [hw, State.engineFreed_same]; rfl) (by rw [hw, State.engineFreed_same]; rfl)
    change endsWith t v.lane code ∧ recordAsked t v.lane d code s.journal.queue []
    rw [hsame]
    exact hover
  have hsends : ∀ (f : Dialogue → Dialogue) (c : CardCommand),
      s.completed v = (w.updDialogue v.lane f).sendCommand v.lane c → firstSending t v.lane c ∧
        (t.lane v.lane).dialogue = some { f d.answered with command := some c, sendings := 1 } := fun f c h => by
    have hset := State.lane_setDialogue f hwlane
    have hsame : t = State.conclude s ((w.updDialogue v.lane f).sendCommand v.lane c) :=
      congrArg (State.conclude s) h
    rw [hsame]
    exact ⟨firstSending_conclude (State.sendCommand_first c hset),
      (State.conclude_dialogue _ _ _).trans (State.sendCommand_dialogue c hset)⟩
  refine ⟨fun card version hop => ⟨fun k hk => ?_, fun hk => ?_, fun hk => ?_⟩,
    fun answer challenge card k hop hk => ⟨fun h => ?_, fun h => ?_⟩,
    fun product purse k hop hk => ⟨fun h => ?_, fun h => ?_⟩, fun image k hop hk => ?_⟩ <;> rw [hop, hk] at hcompleted
  · obtain ⟨hfirst, hy⟩ := hsends (fun d => { d with cardKey := some (Config.deriveKey k card) }) .auth
      (by rw [hcompleted, hw]; rfl)
    exact ⟨hfirst, _, hy, rfl⟩
  · exact hwends _ (by rw [hcompleted, hw]; rfl)
  · exact hwends _ (by rw [hcompleted, hw]; rfl)
  · obtain ⟨hfirst, -⟩ := hsends (fun d => { d with phase := .read }) (.read 0)
      (by rw [hcompleted, hw]; exact if_pos h)
    exact hfirst
  · exact hwends _ (by rw [hcompleted, hw]; exact if_neg h)
  · have hset := State.lane_setDialogue (fun d => { d with verified := true }) hwlane
    obtain ⟨o, hasked⟩ := State.askScreen_exists hset
    have hsame : s.completed v = (w.updDialogue v.lane fun d => { d with verified := true }).askScreen v.lane := by
      rw [hcompleted, hw]
      exact if_pos h
    have hy : ((s.completed v).lane v.lane).dialogue = some { d.answered with
        verified := true, phase := .screen, outstanding := o } := by
      rw [hsame, hasked]
      exact congrArg Lane.dialogue (State.lane_setLane_self _ _ _)
    exact ⟨_, (State.conclude_dialogue _ _ _).trans hy, rfl, rfl⟩
  · exact hwends _ (by rw [hcompleted, hw]; exact if_neg fun ⟨h1, h2⟩ => h.elim (· h1) (· h2))
  · obtain ⟨hfirst, hy⟩ := hsends
      (fun d => { d with phase := .write, image := some (sealImage k image), isSealed := true })
      (.writePurse (sealImage k image)) (by rw [hcompleted, hw]; rfl)
    exact ⟨hfirst, _, hy, rfl, rfl⟩

end

/-- Settles O45. -/
theorem engineDeliversItsResult : Obligations.EngineDeliversItsResult := by
  intro s v hpin hv hdue
  have hexec := exec_aeOperationComplete hpin hv hdue
  have hdelivers := State.completed_delivers (s := s) (v := v)
  have hstate : s.completed v = { s with
      timeBase := max s.timeBase v.completes
      lanes := (s.completed v).lanes
      engine := (s.completed v).engine
      screening := (s.completed v).screening
      journal := (s.completed v).journal } := by
    rw [hdelivers.state, State.engineFreed_same]
  have hothers : ∀ k, k ≠ v.lane → (s.completed v).lane k = s.lane k := fun k hk =>
    (hdelivers.others k hk).trans (State.lane_engineFreed k)
  have htime : (State.conclude s (s.completed v)).timeBase = max s.timeBase v.completes := by
    rw [State.DialogueStep.conclude_timeBase, hstate]
  obtain ⟨hslots, hidle, hserved⟩ := State.completed_engine htime (State.conclude_engine s (s.completed v))
  refine ⟨_, hexec, htime, State.OtherLanesKept.conclude hothers,
    State.MemoryKept.conclude (.of_mem _ (by rw [hstate])), ?_, ?_, ?_, ?_, ?_, hslots, hidle, hserved,
    fun hdiscard => ?_, fun d hd htag hopen hwaits => resultTaken hd (State.completed_of_waiting hd htag hopen hwaits)⟩
  · rw [State.conclude_regs, hstate]
  · rw [State.conclude_orders, hstate]
  · rw [State.conclude_fare, hstate]
  · rw [State.conclude_params, hstate]
  · rw [State.conclude_clock, hstate]
  · have hlane : (State.conclude s (s.completed v)).lane v.lane = _ := State.conclude_concluded s (s.completed v) v.lane
    rw [State.conclude_screening, State.conclude_journal]
    rw [State.completed_of_discarded hdiscard, State.lane_engineFreed] at hlane
    rw [State.completed_of_discarded hdiscard]
    refine ⟨hlane, ?_, ?_⟩ <;> rw [State.engineFreed_same]

end Sys2Proof.Machine
end

section
/-! SUPPORT. What a claim finds in the sighting table (06 R106 to R109, R127). -/

namespace Sys2Proof.Machine

open Sys2Proof

/-! ## The entry that a full table gives up (R108) -/

theorem evictionRank_zero (e : Sighting) : evictionRank e = 0 ↔ (e.suspect = 0 && e.markNone) = true := by
  unfold evictionRank Sighting.markNone
  split
  next h => by_cases hm : e.mark = .none <;> simp [h, hm]
  next h => simp [h]

theorem evictionRank_lt_two (e : Sighting) : evictionRank e < 2 ↔ e.suspect = 0 := by
  unfold evictionRank
  split
  next h => split <;> simp [h]
  next h => simp [h]

theorem evictionRank_le_two (e : Sighting) : evictionRank e ≤ 2 := by
  unfold evictionRank
  split
  · split <;> decide
  · exact Nat.le_refl _

/-- The first entry that passes a test which none before it passes. -/
theorem find?_first {p : Sighting → Bool} {as bs : List Sighting} {e : Sighting} (h : ∀ a ∈ as, p a = false)
    (he : p e = true) : (as ++ e :: bs).find? p = some e := by
  rw [List.find?_append, List.find?_eq_none.mpr fun a ha => by rw [h a ha]; exact Bool.false_ne_true,
    List.find?_cons_of_pos he]
  rfl

/-- The least recently touched unprotected entry of the lowest place is chosen. -/
theorem evictionChoice_first {t older newer : List Sighting} {e : Sighting} (ht : t = older ++ e :: newer)
    (hfree : e.isProtected = false)
    (hleast : ∀ x ∈ t, x.isProtected = false → evictionRank e ≤ evictionRank x)
    (hfirst : ∀ x ∈ older, x.isProtected = false → evictionRank e < evictionRank x) :
    evictionChoice t = some e.card := by
  have hlist : (t.filter fun x => !x.isProtected) =
      (older.filter fun x => !x.isProtected) ++ e :: newer.filter fun x => !x.isProtected := by
    rw [ht, List.filter_append, List.filter_cons_of_pos (by simp [hfree])]
  have hmem : ∀ x ∈ t.filter fun x => !x.isProtected, evictionRank e ≤ evictionRank x := fun x hx => by
    obtain ⟨hin, hx⟩ := List.mem_filter.mp hx
    exact hleast x hin (by simpa using hx)
  have hbefore : ∀ x ∈ older.filter fun x => !x.isProtected, evictionRank e < evictionRank x := fun x hx => by
    obtain ⟨hin, hx⟩ := List.mem_filter.mp hx
    exact hfirst x hin (by simpa using hx)
  unfold evictionChoice
  dsimp only
  have hnone : evictionRank e ≠ 0 →
      (t.filter fun x => !x.isProtected).find? (fun e => e.suspect = 0 && e.markNone) = none := fun h =>
    List.find?_eq_none.mpr fun x hx hp => by
      have := hmem x hx
      have := (evictionRank_zero x).mpr hp
      omega
  by_cases hzero : evictionRank e = 0
  · have hfind : (t.filter fun x => !x.isProtected).find? (fun e => e.suspect = 0 && e.markNone) = some e := by
      rw [hlist]
      refine find?_first (fun x hx => Bool.eq_false_iff.mpr fun hp => ?_) ((evictionRank_zero e).mp hzero)
      have := hbefore x hx
      have := (evictionRank_zero x).mpr hp
      omega
    rw [hfind]
  · rw [hnone hzero]
    dsimp only
    by_cases hone : evictionRank e < 2
    · have hfind : (t.filter fun x => !x.isProtected).find? (fun e => e.suspect = 0) = some e := by
        rw [hlist]
        refine find?_first (fun x hx => decide_eq_false fun hp => ?_)
          (decide_eq_true ((evictionRank_lt_two e).mp hone))
        have := hbefore x hx
        have := (evictionRank_lt_two x).mpr hp
        omega
      rw [hfind]
    · have hfind : (t.filter fun x => !x.isProtected).find? (fun e => e.suspect = 0) = none :=
        List.find?_eq_none.mpr fun x hx hp => by
          have := hmem x hx
          have := (evictionRank_lt_two x).mpr (of_decide_eq_true hp)
          omega
      have hlast : (t.filter fun x => !x.isProtected).find? (fun _ => true) = some e := by
        rw [hlist]
        refine find?_first (fun x hx => ?_) rfl
        have := hbefore x hx
        have := evictionRank_le_two x
        omega
      rw [hfind, hlast]
      rfl

theorem evictionChoice_eq_none {t : List Sighting} : evictionChoice t = none ↔ ∀ e ∈ t, e.isProtected = true := by
  have hfree : (t.filter fun x => !x.isProtected) = [] ↔ ∀ e ∈ t, e.isProtected = true := by
    simp [List.filter_eq_nil_iff]
  rw [← hfree]
  unfold evictionChoice
  dsimp only
  cases t.filter fun x => !x.isProtected with
  | nil => exact ⟨fun _ => rfl, fun _ => rfl⟩
  | cons e rest =>
    refine ⟨fun h => ?_, nofun⟩
    split at h
    · exact absurd h nofun
    · split at h <;> exact absurd h nofun

theorem removeSighting_changeSighting (card : CardNumber) (f : Sighting → Sighting) : ∀ t : List Sighting,
    removeSighting (changeSighting t card f) card = removeSighting t card
  | [] => rfl
  | e :: rest => by
    have ih := removeSighting_changeSighting card f rest
    unfold removeSighting changeSighting at *
    rw [List.map_cons]
    by_cases h : e.card = card
    · rw [if_pos h, List.filter_cons_of_neg (by simpa using h), List.filter_cons_of_neg (by simpa using h), ih]
    · rw [if_neg h, List.filter_cons_of_pos (by simpa using h), List.filter_cons_of_pos (by simpa using h), ih]

/-! ## What a claim finds (R107 to R109) -/

section
variable {s : State} {l : LaneId} {d : Dialogue} {requested : StationTime} {e : Sighting}

/-- A new entry takes its place in a table with room, or after an entry that the table gives up. -/
theorem State.claimEntry_room (hnone : findSighting s.screening.table d.card = none)
    (h : s.screening.table.length < 512) :
    s.claimEntry l d requested =
      (s.setTable (s.screening.table ++ [newSighting d.card l requested]), .held) := by
  have hcreate : createSighting s.screening.table d.card l requested =
      some (s.screening.table ++ [newSighting d.card l requested]) := if_pos h
  rw [State.claimEntry, hnone]
  dsimp only
  rw [hcreate]

theorem State.claimEntry_evicts {old : CardNumber} (hnone : findSighting s.screening.table d.card = none)
    (h : 512 ≤ s.screening.table.length) (hold : evictionChoice s.screening.table = some old) :
    s.claimEntry l d requested =
      (s.setTable (removeSighting s.screening.table old ++ [newSighting d.card l requested]), .held) := by
  have hcreate : createSighting s.screening.table d.card l requested =
      some (removeSighting s.screening.table old ++ [newSighting d.card l requested]) := by
    refine (if_neg (Nat.not_lt.mpr h)).trans ?_
    rw [hold]
  rw [State.claimEntry, hnone]
  dsimp only
  rw [hcreate]

theorem State.claimEntry_busy (hnone : findSighting s.screening.table d.card = none)
    (h : 512 ≤ s.screening.table.length) (hold : evictionChoice s.screening.table = none) :
    s.claimEntry l d requested = (s, .busy) := by
  have hcreate : createSighting s.screening.table d.card l requested = none := by
    refine (if_neg (Nat.not_lt.mpr h)).trans ?_
    rw [hold]
  rw [State.claimEntry, hnone]
  dsimp only
  rw [hcreate]

/-- An entry that no other lane holds is claimed and touched. -/
theorem State.claimEntry_free (he : findSighting s.screening.table d.card = some e)
    (h : e.claim = none ∨ e.claim = some l) :
    s.claimEntry l d requested =
      (s.setTable ((s.screening.table.filter fun x => x.card ≠ d.card) ++
        [{ e with claim := some l, touched := s.now }]), .held) := by
  have hmine : ¬ (e.claim.any fun k => k ≠ l) = true := by
    rcases h with h | h <;> simp [h]
  have hchanged : findSighting (changeSighting s.screening.table d.card fun e => { e with claim := some l }) d.card =
      some { e with claim := some l } := by
    rw [findSighting_changeSighting_self, he]
    rfl
  rw [State.claimEntry, he]
  dsimp only
  rw [if_neg hmine]
  refine congrArg (fun t => (s.setTable t, ClaimResult.held)) ?_
  exact (touchSighting_of_some s.now hchanged).trans (by rw [removeSighting_changeSighting]; rfl)

theorem Sighting.alarmed_raiseSuspect (e : Sighting) : e.alarmed e.raiseSuspect = true ↔ e.suspect = 2 := by
  unfold Sighting.alarmed Sighting.raiseSuspect
  simp only [Bool.and_eq_true, decide_eq_true_iff]
  split <;> omega

/-- The ALERT record of a claim that another lane's holds up (R127). -/
def concurrentAlert (s : State) (l : LaneId) (d : Dialogue) (e : Sighting) : RecordRequest :=
  ⟨{ Record.blank .alert l d.direction .concurrent d.card s.now with
      counterBefore := 0
      counterAfter := e.raiseSuspect.lastCounter
      flags := recordFlags StageFlags.clear d.degradedNote false }, .dialogue l, .nobody⟩

/-- An entry that another lane holds. -/
theorem State.claimEntry_taken {k : LaneId} (he : findSighting s.screening.table d.card = some e)
    (hk : e.claim = some k) (hother : k ≠ l) :
    s.claimEntry l d requested =
      (if e.suspect = 2 then
        State.raise ((s.changeEntry d.card fun _ => e.raiseSuspect).enqueue (concurrentAlert s l d e)) .alert
      else s.changeEntry d.card fun _ => e.raiseSuspect, .concurrent) := by
  have htaken : (e.claim.any fun k => k ≠ l) = true := by simp [hk, hother]
  have halarmed := e.alarmed_raiseSuspect
  rw [State.claimEntry, he]
  dsimp only
  rw [if_pos htaken]
  refine congrArg (fun u => (u, ClaimResult.concurrent)) ?_
  by_cases h : e.suspect = 2
  · rw [if_pos (halarmed.mpr h), if_pos h]
    rfl
  · rw [if_neg fun ha => h (halarmed.mp ha), if_neg h]

end

end Sys2Proof.Machine
end

section
/-! A claim and its answer (03 R38, R43, R56; 06 R106 to R109, R127, R132). -/

namespace Sys2Proof.Machine

open Sys2Proof

/-! ## The four findings of a claim -/

/-- No entry of the card stands in the table. -/
def entryFresh (s : State) (card : CardNumber) : Prop := findSighting s.screening.table card = none

/-- An entry that no other lane holds. -/
def entryFree (s : State) (l : LaneId) (card : CardNumber) (e : Sighting) : Prop :=
  findSighting s.screening.table card = some e ∧ (e.claim = none ∨ e.claim = some l)

/-- An entry that another lane holds. -/
def entryTaken (s : State) (l : LaneId) (card : CardNumber) (e : Sighting) : Prop :=
  findSighting s.screening.table card = some e ∧ ∃ k, e.claim = some k ∧ k ≠ l

def claimHolds (s : State) (l : LaneId) (card : CardNumber) : Prop :=
  entryFresh s card ∧ ¬ 512 ≤ s.screening.table.length ∨
    (entryFresh s card ∧ ∃ e ∈ s.screening.table, e.isProtected = false) ∨ ∃ e, entryFree s l card e

def claimNoRoom (s : State) (card : CardNumber) : Prop :=
  entryFresh s card ∧ 512 ≤ s.screening.table.length ∧ ∀ e ∈ s.screening.table, e.isProtected = true

/-- What a claim makes of the state, and its answer. -/
structure ClaimFound (s w : State) (l : LaneId) (d : Dialogue) (requested : StationTime) (r : ClaimResult) : Prop where
  state : w = { s with
    screening := { s.screening with table := w.screening.table }, journal := w.journal, regs := w.regs }
  held : r = .held ↔ claimHolds s l d.card
  busy : claimNoRoom s d.card → r = .busy ∧ w.screening.table = s.screening.table
  quiet : claimHolds s l d.card ∨ claimNoRoom s d.card → w.journal = s.journal ∧ w.regs = s.regs
  created : entryFresh s d.card → ¬ 512 ≤ s.screening.table.length →
    w.screening.table = s.screening.table ++ [newSighting d.card l requested]
  claimed : ∀ e, entryFree s l d.card e → w.screening.table =
    (s.screening.table.filter fun x => x.card ≠ d.card) ++ [{ e with claim := some l, touched := s.now }]
  evicted : ∀ older e newer, entryFresh s d.card → 512 ≤ s.screening.table.length →
    s.screening.table = older ++ e :: newer → e.isProtected = false →
    (∀ x ∈ s.screening.table, x.isProtected = false → evictionRank e ≤ evictionRank x) →
    (∀ x ∈ older, x.isProtected = false → evictionRank e < evictionRank x) →
    w.screening.table = (s.screening.table.filter fun x => x.card ≠ e.card) ++ [newSighting d.card l requested]
  concurrent : ∀ e, entryTaken s l d.card e → r = .concurrent ∧
    findSighting w.screening.table d.card =
      some { e with suspect := if e.suspect < 3 then e.suspect + 1 else e.suspect } ∧
    (e.suspect ≠ 2 → w.regs = s.regs) ∧
    (e.suspect = 2 → w.regs = { s.regs with attention := s.regs.attention ||| 0x0008#16 }) ∧
    ∃ alerts : List RecordRequest, w.journal.queue = s.journal.queue ++ alerts ∧ (e.suspect ≠ 2 → alerts = []) ∧
      (e.suspect = 2 → ∃ record, alerts = [⟨record, .dialogue l, .nobody⟩] ∧ record.kind = .alert ∧
        record.result = .concurrent ∧ record.card = d.card ∧ record.lane = l ∧ record.direction = d.direction)

section
variable {s : State} {l : LaneId} {d : Dialogue} (requested : StationTime)

/-- A claim that is held changes the table alone. -/
theorem claimFound_held {t : List Sighting} (hheld : claimHolds s l d.card)
    (hcreated : entryFresh s d.card → ¬ 512 ≤ s.screening.table.length →
      t = s.screening.table ++ [newSighting d.card l requested])
    (hclaimed : ∀ e, entryFree s l d.card e → t =
      (s.screening.table.filter fun x => x.card ≠ d.card) ++ [{ e with claim := some l, touched := s.now }])
    (hevicted : ∀ older e newer, entryFresh s d.card → 512 ≤ s.screening.table.length →
      s.screening.table = older ++ e :: newer → e.isProtected = false →
      (∀ x ∈ s.screening.table, x.isProtected = false → evictionRank e ≤ evictionRank x) →
      (∀ x ∈ older, x.isProtected = false → evictionRank e < evictionRank x) →
      t = (s.screening.table.filter fun x => x.card ≠ e.card) ++ [newSighting d.card l requested]) :
    ClaimFound s (s.setTable t) l d requested .held := by
  have hfull : ¬ claimNoRoom s d.card := fun ⟨hfresh, hlength, hprotected⟩ => by
    rcases hheld with ⟨-, hroom⟩ | ⟨-, e, he, hfree⟩ | ⟨e, he, -⟩
    · exact hroom hlength
    · exact absurd ((hprotected e he).symm.trans hfree) nofun
    · exact absurd (hfresh.symm.trans he) nofun
  refine ⟨rfl, ⟨fun _ => hheld, fun _ => rfl⟩, fun h => absurd h hfull, fun _ => ⟨rfl, rfl⟩, hcreated, hclaimed,
    hevicted, fun e ⟨he, k, hk, hother⟩ => ?_⟩
  rcases hheld with ⟨hfresh, -⟩ | ⟨hfresh, -⟩ | ⟨e', he', hmine⟩
  · exact absurd (hfresh.symm.trans he) nofun
  · exact absurd (hfresh.symm.trans he) nofun
  · obtain rfl := Option.some.inj (he'.symm.trans he)
    rcases hmine with h | h
    · exact absurd (h.symm.trans hk) nofun
    · exact absurd (Option.some.inj (hk.symm.trans h)) hother

theorem claimFound_busy (h : claimNoRoom s d.card) : ClaimFound s s l d requested .busy := by
  obtain ⟨hfresh, hlength, hprotected⟩ := id h
  refine ⟨rfl, ⟨nofun, fun hheld => ?_⟩, fun _ => ⟨rfl, rfl⟩, fun _ => ⟨rfl, rfl⟩, fun _ hroom => absurd hlength hroom,
    fun e ⟨he, _⟩ => absurd (hfresh.symm.trans he) nofun, fun older e newer _ _ ht hfree => ?_,
    fun e ⟨he, _⟩ => absurd (hfresh.symm.trans he) nofun⟩
  · rcases hheld with ⟨-, hroom⟩ | ⟨-, e, he, hfree⟩ | ⟨e, he, -⟩
    · exact absurd hlength hroom
    · exact absurd ((hprotected e he).symm.trans hfree) nofun
    · exact absurd (hfresh.symm.trans he) nofun
  · exact absurd ((hprotected e (by rw [ht]; simp)).symm.trans hfree) nofun

theorem claimFound_taken {e : Sighting} (h : entryTaken s l d.card e) : ClaimFound s
    (if e.suspect = 2 then
      State.raise ((s.changeEntry d.card fun _ => e.raiseSuspect).enqueue (concurrentAlert s l d e)) .alert
    else s.changeEntry d.card fun _ => e.raiseSuspect) l d requested .concurrent := by
  obtain ⟨he, k, hk, hother⟩ := h
  have hstale : ¬ entryFresh s d.card := fun hfresh => absurd (hfresh.symm.trans he) nofun
  have hmine : ∀ e', ¬ entryFree s l d.card e' := fun e' ⟨he', hfree⟩ => by
    obtain rfl := Option.some.inj (he'.symm.trans he)
    rcases hfree with h | h
    · exact absurd (h.symm.trans hk) nofun
    · exact hother (Option.some.inj (hk.symm.trans h))
  have hheld : ¬ claimHolds s l d.card := by
    rintro (⟨hfresh, -⟩ | ⟨hfresh, -⟩ | ⟨e', he'⟩)
    · exact hstale hfresh
    · exact hstale hfresh
    · exact hmine e' he'
  have hfound : findSighting (changeSighting s.screening.table d.card fun _ => e.raiseSuspect) d.card =
      some { e with suspect := if e.suspect < 3 then e.suspect + 1 else e.suspect } := by
    rw [findSighting_changeSighting_self, he]
    rfl
  refine ⟨?_, ⟨nofun, fun h => absurd h hheld⟩, fun ⟨hfresh, _⟩ => absurd hfresh hstale, fun h => ?_,
    fun hfresh => absurd hfresh hstale, fun e' he' => absurd he' (hmine e'),
    fun _ _ _ hfresh => absurd hfresh hstale, fun e' ⟨he', _⟩ => ?_⟩
  · split <;> rfl
  · rcases h with h | ⟨hfresh, -⟩
    · exact absurd h hheld
    · exact absurd hfresh hstale
  · obtain rfl := Option.some.inj (he.symm.trans he')
    by_cases htwo : e.suspect = 2
    · rw [if_pos htwo]
      exact ⟨rfl, hfound, fun hne => absurd htwo hne, fun _ => rfl, _, rfl, fun hne => absurd htwo hne,
        fun _ => ⟨_, rfl, rfl, rfl, rfl, rfl, rfl⟩⟩
    · rw [if_neg htwo]
      exact ⟨rfl, hfound, fun _ => rfl, fun h => absurd h htwo, [], (List.append_nil _).symm, fun _ => rfl,
        fun h => absurd h htwo⟩

/-- Every claim finds one of the four. -/
theorem State.claimEntry_found (s : State) (l : LaneId) (d : Dialogue) :
    ∃ w r, s.claimEntry l d requested = (w, r) ∧ ClaimFound s w l d requested r := by
  cases he : findSighting s.screening.table d.card with
  | some e =>
    by_cases htaken : ∃ k, e.claim = some k ∧ k ≠ l
    · obtain ⟨k, hk, hother⟩ := id htaken
      exact ⟨_, _, State.claimEntry_taken he hk hother, claimFound_taken requested ⟨he, htaken⟩⟩
    · have hmine : e.claim = none ∨ e.claim = some l := by
        cases hclaim : e.claim with
        | none => exact .inl rfl
        | some k => exact .inr (congrArg some (Classical.not_not.mp fun hk => htaken ⟨k, hclaim, hk⟩))
      refine ⟨_, _, State.claimEntry_free he hmine, claimFound_held requested (.inr (.inr ⟨e, he, hmine⟩))
        (fun hfresh => absurd (hfresh.symm.trans he) nofun) (fun e' ⟨he', _⟩ => ?_)
        fun _ _ _ hfresh => absurd (hfresh.symm.trans he) nofun⟩
      obtain rfl := Option.some.inj (he.symm.trans he')
      rfl
  | none =>
    have hstands : ∀ e, ¬ entryFree s l d.card e := fun e ⟨he', _⟩ => absurd (he.symm.trans he') nofun
    by_cases hlength : 512 ≤ s.screening.table.length
    · cases hchoice : evictionChoice s.screening.table with
      | none =>
        exact ⟨_, _, State.claimEntry_busy he hlength hchoice,
          claimFound_busy requested ⟨he, hlength, evictionChoice_eq_none.mp hchoice⟩⟩
      | some old =>
        have hfree : ∃ e ∈ s.screening.table, e.isProtected = false := by
          refine Classical.byContradiction fun hall => ?_
          have hnone := evictionChoice_eq_none.mpr fun e he => (Bool.not_eq_false _).mp fun h => hall ⟨e, he, h⟩
          exact absurd (hnone.symm.trans hchoice) nofun
        refine ⟨_, _, State.claimEntry_evicts he hlength hchoice, claimFound_held requested (.inr (.inl ⟨he, hfree⟩))
          (fun _ hroom => absurd hlength hroom) (fun e h => absurd h (hstands e))
          fun older e newer _ _ ht hprotected hleast hfirst => ?_⟩
        have hfirst := evictionChoice_first ht hprotected hleast hfirst
        rw [Option.some.inj (hchoice.symm.trans hfirst)]
        rfl
    · exact ⟨_, _, State.claimEntry_room he (Nat.not_le.mp hlength),
        claimFound_held requested (.inl ⟨he, hlength⟩) (fun _ _ => rfl) (fun e h => absurd h (hstands e))
          fun _ _ _ _ h => absurd h hlength⟩

end

end Sys2Proof.Machine
end

section
/-! The dialogue takes the answer of its claim (03 R38, R43, R56). -/

namespace Sys2Proof.Machine

open Sys2Proof

section
variable {s : State} {l : LaneId} {d : Dialogue}

/-- RELEASE of a known card's dialogue, or of one without a claim, leaves the table (R57). -/
theorem State.beginRelease_screening {code : ResultCode} (h : (s.lane l).dialogue = some d)
    (hcode : d.outcome = some code) (hcertain : code ≠ .uncertain) (hkept : d.known = true ∨ d.claimHeld = false) :
    (s.beginRelease l).screening = s.screening := by
  cases hknown : d.known with
  | true =>
    rw [State.beginRelease_known h hcode hcertain hknown]
    rfl
  | false =>
    have hclaim : d.claimHeld = false := hkept.resolve_left (by rw [hknown]; exact Bool.false_ne_true)
    rw [State.beginRelease_unknown h hcode hcertain hknown]
    have htable : d.dropClaim s.screening.table = s.screening.table := by
      rw [Dialogue.dropClaim, hclaim, if_neg Bool.false_ne_true]
    rw [htable]
    rfl

theorem State.beginRelease_engine {code : ResultCode} (h : (s.lane l).dialogue = some d)
    (hcode : d.outcome = some code) : (s.beginRelease l).engine = s.engine := by
  by_cases hcertain : code = .uncertain
  · subst hcertain
    rw [State.beginRelease_uncertain h hcode]
    rfl
  · cases hknown : d.known with
    | true =>
      rw [State.beginRelease_known h hcode hcertain hknown]
      rfl
    | false =>
      rw [State.beginRelease_unknown h hcode hcertain hknown]
      rfl

/-- What RELEASE leaves of the dialogue while its record is written keeps its claim. -/
theorem State.beginRelease_claim {code : ResultCode} (h : (s.lane l).dialogue = some d)
    (hcode : d.outcome = some code) :
    ∀ y, ((s.beginRelease l).lane l).dialogue = some y →
      y.phase = .release ∧ y.outcome = some code ∧ y.claimHeld = d.claimHeld := by
  have hwaits : ∀ y, some { d with phase := .release, outstanding := some .journal } = some y →
      y.phase = .release ∧ y.outcome = some code ∧ y.claimHeld = d.claimHeld := fun y hy => by
    obtain rfl := Option.some.inj hy
    exact ⟨rfl, hcode, rfl⟩
  intro y hy
  by_cases hcertain : code = .uncertain
  · subst hcertain
    rw [State.beginRelease_uncertain h hcode] at hy
    exact hwaits y ((congrArg Lane.dialogue (State.lane_setLane_self _ l _)).symm.trans hy)
  · cases hknown : d.known with
    | true =>
      rw [State.beginRelease_known h hcode hcertain hknown] at hy
      exact hwaits y ((congrArg Lane.dialogue (State.lane_setLane_self _ l _)).symm.trans hy)
    | false =>
      rw [State.beginRelease_unknown h hcode hcertain hknown, State.lane_updLane_self, Lane.released_dialogue] at hy
      exact absurd hy nofun

theorem State.endDialogue_screening {code : ResultCode} (byAbort : Bool) (h : (s.lane l).dialogue = some d)
    (hcertain : code ≠ .uncertain) (hclaim : d.claimHeld = false) :
    (s.endDialogue l code byAbort).screening = s.screening := by
  have hlane : ((s.decideOutcome l (d.decided s.now code byAbort)).lane l).dialogue =
      some (d.decided s.now code byAbort) := congrArg Lane.dialogue (State.lane_updLane_self _ _ _)
  rw [State.endDialogue_eq code byAbort h]
  split
  · rfl
  · rw [State.beginRelease_screening hlane rfl hcertain (.inr hclaim)]
    rfl

/-! ## The answer of a claim -/

/-- The dialogue as its claim has been answered. -/
def Dialogue.claimAnswered (d : Dialogue) (r : ClaimResult) : Dialogue :=
  { d with outstanding := none, claimHeld := r = .held }

/-- The state as the claim has been answered, before the answer is used. -/
def State.claimAnswered (s : State) (l : LaneId) (r : ClaimResult) : State :=
  s.updDialogue l fun d => d.claimAnswered r

variable {r : ClaimResult}

theorem State.lane_claimAnswered (h : (s.lane l).dialogue = some d) :
    ((s.claimAnswered l r).lane l).dialogue = some (d.claimAnswered r) := State.lane_setDialogue _ h

theorem State.takeClaim_decided {code : ResultCode} (h : d.outcome = some code) :
    s.takeClaim l d r = (s.claimAnswered l r).beginRelease l := if_pos (by rw [h]; rfl)

theorem State.takeClaim_concurrent (h : d.outcome = none) :
    s.takeClaim l d .concurrent = (s.claimAnswered l .concurrent).endDialogue l .concurrent false :=
  if_neg (by rw [h]; exact Bool.false_ne_true)

theorem State.takeClaim_busy (h : d.outcome = none) :
    s.takeClaim l d .busy = (s.claimAnswered l .busy).endDialogue l .busy false :=
  if_neg (by rw [h]; exact Bool.false_ne_true)

theorem State.takeClaim_held {i : Identity} (h : d.outcome = none) (hi : d.identity = some i) :
    s.takeClaim l d .held =
      ((s.claimAnswered l .held).updDialogue l fun d => { d with phase := .auth }).askEngine l
        (.derive i.card i.keyVersion) := by
  refine (if_neg (by rw [h]; exact Bool.false_ne_true)).trans ?_
  rw [hi]
  rfl

/-- What the answer changes is the dialogue's own. -/
theorem State.takeClaim_answerStep {i : Identity} (hd : (s.lane l).dialogue = some d) (hi : d.identity = some i) :
    s.AnswerStep (s.takeClaim l d r) l := by
  have hanswered := State.lane_claimAnswered (r := r) hd
  refine (State.answerStep_updDialogue _).trans (u := s.claimAnswered l r) ?_
  cases hcode : d.outcome with
  | some code =>
    rw [State.takeClaim_decided hcode]
    exact (State.beginRelease_endsDialogue hanswered hcode).answerStep
  | none =>
    cases r with
    | held =>
      rw [State.takeClaim_held hcode hi]
      exact (State.answerStep_updDialogue _).trans
        (State.askEngine_answerStep _ (State.lane_setDialogue _ hanswered))
    | concurrent =>
      rw [State.takeClaim_concurrent hcode]
      exact State.endDialogue_answerStep _ _ hanswered
    | busy =>
      rw [State.takeClaim_busy hcode]
      exact State.endDialogue_answerStep _ _ hanswered

/-- An answer that is used, or that a known card's certain end makes useless, leaves the table (R57). -/
theorem State.takeClaim_screening {i : Identity} (hd : (s.lane l).dialogue = some d) (hi : d.identity = some i)
    (h : d.outcome = none ∨ d.known = true ∧ d.outcome ≠ some .uncertain) :
    (s.takeClaim l d r).screening = s.screening := by
  have hanswered := State.lane_claimAnswered (r := r) hd
  cases hcode : d.outcome with
  | some code =>
    obtain ⟨hknown, hcertain⟩ := h.resolve_left (by rw [hcode]; nofun)
    rw [State.takeClaim_decided hcode, State.beginRelease_screening hanswered hcode
      (fun hu => hcertain (by rw [hcode, hu])) (.inl hknown)]
    rfl
  | none =>
    cases r with
    | held =>
      rw [State.takeClaim_held hcode hi]
      exact (State.askEngine_journal _ (State.lane_setDialogue _ hanswered)).2
    | concurrent =>
      rw [State.takeClaim_concurrent hcode, State.endDialogue_screening false hanswered (by decide) rfl]
      rfl
    | busy =>
      rw [State.takeClaim_busy hcode, State.endDialogue_screening false hanswered (by decide) rfl]
      rfl

/-! ## The statement -/

theorem recordAsked_conclude {b u : State} {code : ResultCode} {before after : List RecordRequest}
    (h : recordAsked u l d code before after) : recordAsked (State.conclude b u) l d code before after := by
  unfold recordAsked at *
  rw [State.conclude_dialogue, State.conclude_journal]
  exact h

theorem endsWith_conclude {b u : State} {code : ResultCode} (h : endsWith u l code) :
    endsWith (State.conclude b u) l code := by
  have hconcluded : (State.conclude b u).lane l = _ := State.conclude_concluded b u l
  exact endsWith_congr (State.conclude_dialogue b u l) ((congrArg Lane.lastResult hconcluded :)) h

/-- A dialogue whose open outcome its claim's answer decides. -/
theorem claimRefused {b : State} {code : ResultCode} (hd : (s.lane l).dialogue = some d)
    (hends : s.takeClaim l d r = (s.claimAnswered l r).endDialogue l code false) :
    endsWith (State.conclude b (s.takeClaim l d r)) l code ∧
      recordAsked (State.conclude b (s.takeClaim l d r)) l d code s.journal.queue [] := by
  obtain ⟨hover, hnow, -⟩ := State.endDialogue_endsNow code false (State.lane_claimAnswered (r := r) hd)
  obtain ⟨hasked, -⟩ := hnow nofun
  rw [hends]
  exact ⟨endsWith_conclude hover, recordAsked_conclude hasked⟩

/-- A dialogue whose outcome was decided before its claim's answer. -/
theorem claimTooLate {b : State} {code : ResultCode} (hd : (s.lane l).dialogue = some d)
    (hcode : d.outcome = some code) :
    (State.conclude b (s.takeClaim l d r)).engine = s.engine ∧
      endsWith (State.conclude b (s.takeClaim l d r)) l code ∧
      (∀ y, ((State.conclude b (s.takeClaim l d r)).lane l).dialogue = some y →
        y.phase = .release ∧ y.outcome = some code ∧ (y.claimHeld = true ↔ r = .held)) ∧
      recordAsked (State.conclude b (s.takeClaim l d r)) l d code s.journal.queue [] := by
  have hanswered := State.lane_claimAnswered (r := r) hd
  have hasked := State.beginRelease_recordAsked hanswered hcode
  rw [State.takeClaim_decided hcode, State.conclude_engine, State.beginRelease_engine hanswered hcode,
    State.conclude_dialogue]
  refine ⟨rfl, endsWith_conclude (State.beginRelease_endsWith hanswered hcode), fun y hy => ?_,
    recordAsked_conclude hasked⟩
  obtain ⟨hphase, houtcome, hclaim⟩ := State.beginRelease_claim hanswered hcode y hy
  refine ⟨hphase, houtcome, ?_⟩
  rw [hclaim]
  exact decide_eq_true_iff

/-- A claim that is held sends the dialogue on to the engine. -/
theorem claimServed {b : State} {i : Identity} (hd : (s.lane l).dialogue = some d) (hi : d.identity = some i)
    (hopen : d.outcome = none) (hengine : b.engine = s.engine) :
    (State.conclude b (s.takeClaim l d .held)).journal = s.journal ∧
      enginedFor b (State.conclude b (s.takeClaim l d .held)) l d (.derive i.card i.keyVersion) ∧
      ∃ y, ((State.conclude b (s.takeClaim l d .held)).lane l).dialogue = some y ∧ y.claimHeld = true ∧
        y.phase = .auth ∧ y.outcome = none := by
  have hset := State.lane_setDialogue (fun d => { d with phase := .auth }) (State.lane_claimAnswered (r := .held) hd)
  have hengined := State.askEngine_engined (.derive i.card i.keyVersion) hset
  have hdialogue := State.askEngine_dialogue (.derive i.card i.keyVersion) hset
  obtain ⟨hjournal, -⟩ := State.askEngine_journal (.derive i.card i.keyVersion) hset
  rw [State.takeClaim_held hopen hi, State.conclude_journal, State.conclude_dialogue]
  exact ⟨hjournal, enginedFor_conclude hengine hengined, _, hdialogue, rfl, rfl, hopen⟩

end

/-- Settles O46. -/
theorem claimHoldsConcurrentOrBusy : Obligations.ClaimHoldsConcurrentOrBusy := by
  intro s l d i due requested hpin hd hwaits hi
  have hcard : d.card = i.card := by rw [Dialogue.card, hi]
  refine ⟨fun hs ⟨o, ho, hstage⟩ => ?_, fun hdue hforgets => ?_⟩
  · refine exec_of_lanes hpin hs rfl ?_ rfl rfl rfl rfl
    rw [hd]
    dsimp only
    rw [hwaits]
    exact if_pos (by simp [State.forgets, ho, hstage, hcard])
  intro table created fresh full free taken held noRoom
  obtain ⟨w, r, hfound, hclaim⟩ := State.claimEntry_found requested { s with timeBase := max s.timeBase due } l d
  have hexec : exec (.claimAnswer l) s = .next (State.conclude s (w.takeClaim l d r)) := by
    refine exec_concluded hpin rfl ?_
    rw [hd]
    dsimp only
    rw [hwaits]
    have hfree : ¬ s.forgets d.card = true := by
      unfold State.forgets
      rw [hcard]
      cases ho : s.orders.service with
      | none => exact Bool.false_ne_true
      | some o => simpa using hforgets o ho
    refine (if_neg hfree).trans ((State.onDue_of_reached _ hdue).trans ?_)
    rw [hfound]
  have hdw : (w.lane l).dialogue = some d := by
    rw [hclaim.state]
    exact hd
  have hstep := State.takeClaim_answerStep (r := r) hdw hi
  have htable := State.takeClaim_screening (r := r) hdw hi
  have hstate : w.takeClaim l d r = { s with
      timeBase := max s.timeBase due
      lanes := (w.takeClaim l d r).lanes
      engine := { s.engine with
        requests := (w.takeClaim l d r).engine.requests, service := (w.takeClaim l d r).engine.service }
      screening := (w.takeClaim l d r).screening
      journal := (w.takeClaim l d r).journal
      regs := w.regs
      mem := s.mem } := by
    rw [hstep.state, hstep.time, hclaim.state]
  have hothers : ∀ k, k ≠ l → (w.takeClaim l d r).lane k = s.lane k := fun k hk => by
    rw [hstep.others k hk, hclaim.state]
    rfl
  have htime : (State.conclude s (w.takeClaim l d r)).timeBase = max s.timeBase due := by
    rw [State.DialogueStep.conclude_timeBase, hstate]
  have hregs : (State.conclude s (w.takeClaim l d r)).regs = w.regs := by rw [State.conclude_regs, hstate]
  have hengine : w.engine = s.engine := by rw [hclaim.state]
  have hheld := hclaim.held
  have hbusy := hclaim.busy
  have hquiet := hclaim.quiet
  have hcreated := hclaim.created
  have hclaimed := hclaim.claimed
  have hevicted := hclaim.evicted
  have hconcurrent := hclaim.concurrent
  rw [hcard] at hheld hbusy hquiet hcreated hclaimed hevicted hconcurrent
  refine ⟨_, hexec, State.OtherLanesKept.conclude hothers,
    State.MemoryKept.conclude (.of_mem _ (by rw [hstate])), htime,
    ?_, ?_, ?_, ?_, ?_, fun hdecided => ?_, fun h => hregs.trans (hquiet h).2, fun h hopen => ?_, fun e he => ?_,
    fun h hopen => ?_, fun code hcode => ?_⟩
  · rw [State.conclude_orders, hstate]
  · rw [State.conclude_fare, hstate]
  · rw [State.conclude_params, hstate]
  · rw [State.conclude_clock, hstate]
  · rw [State.conclude_engine, hstate]
  · have hsame : (State.conclude s (w.takeClaim l d r)).screening = w.screening := by
      rw [State.conclude_screening, htable hdecided]
    rw [hsame]
    refine ⟨hcreated, hclaimed, fun e he => ?_, fun h => ?_, hevicted⟩
    · obtain ⟨-, hraised, -⟩ := hconcurrent e he
      exact hraised
    · have hkept := (hbusy h).2
      rw [hclaim.state]
      exact congrArg (fun t => { s.screening with table := t }) hkept
  · obtain rfl := hheld.mpr h
    obtain ⟨hjournal, hengined, hy⟩ := claimServed (b := s) hdw hi hopen hengine.symm
    exact ⟨hjournal.trans (hquiet (.inl h)).1, hengined, hy⟩
  · obtain ⟨rfl, -, hplain, hraised, alerts, hqueue, hnone, hsome⟩ := hconcurrent e he
    refine ⟨fun h => hregs.trans (hplain h), fun h => hregs.trans (hraised h), alerts, hnone, hsome, fun hopen => ?_,
      fun code hcode _ => ?_⟩
    · have hrefused := claimRefused (b := s) hdw (State.takeClaim_concurrent hopen)
      rw [hqueue] at hrefused
      exact hrefused
    · obtain ⟨-, -, -, hasked⟩ := claimTooLate (b := s) (r := .concurrent) hdw hcode
      rw [hqueue] at hasked
      exact hasked
  · obtain rfl := (hbusy h).1
    have hrefused := claimRefused (b := s) hdw (State.takeClaim_busy hopen)
    rw [(hquiet (.inr h)).1] at hrefused
    exact hrefused
  · obtain ⟨hsame, hover, hy, hasked⟩ := claimTooLate (b := s) (r := r) hdw hcode
    refine ⟨hsame.trans hengine, fun _ => hover, fun y hdialogue => ?_, fun _ h => ?_⟩
    · obtain ⟨hphase, houtcome, hclaimed⟩ := hy y hdialogue
      exact ⟨hphase, houtcome, hclaimed.trans hheld⟩
    · rw [(hquiet h).1] at hasked
      exact hasked

end Sys2Proof.Machine
end

section
/-! The checks of a screen (06 R119 to R126). -/

namespace Sys2Proof.Machine

open Sys2Proof

/-! ## Checks 4 to 7 -/

section
variable (e : Sighting) (dir : Direction) (c : Nat) (v : CheckValue)

theorem Sighting.copied_iff : e.copied c v = true ↔
    ∃ i, e.lastImage = some i ∧ (c < i.counter ∨ c = i.counter ∧ v ≠ i.check) := by
  unfold Sighting.copied
  cases e.lastImage with
  | none => simp
  | some i => simp

theorem Sighting.takeImage_fresh (h : e.lastImage = none ∨ ∃ i, e.lastImage = some i ∧ i.counter < c) :
    e.takeImage c v = { e with lastImage := some ⟨c, v⟩ } := by
  refine if_pos ?_
  rcases h with h | ⟨i, h, hlt⟩
  · rw [h]
    rfl
  · rw [h]
    exact decide_eq_true hlt

theorem Sighting.takeImage_stale (h : ¬ (e.lastImage = none ∨ ∃ i, e.lastImage = some i ∧ i.counter < c)) :
    e.takeImage c v = e := by
  refine if_neg fun hall => h ?_
  cases himage : e.lastImage with
  | none => exact .inl rfl
  | some i =>
    rw [himage] at hall
    exact .inr ⟨i, rfl, of_decide_eq_true hall⟩

theorem Sighting.unusedFor_iff : e.unusedFor dir c = true ↔
    (∃ until_, e.mark = .unused dir until_) ∧ ∃ i, e.lastImage = some i ∧ c = i.counter := by
  unfold Sighting.unusedFor
  cases e.mark with
  | none | pending | used => simp
  | unused k time =>
    cases e.lastImage with
    | none => simp
    | some i => simp

theorem Sighting.usedEntry_iff : e.usedEntry dir = true ↔ (∃ time, e.mark = .used .entry time) ∧ dir = .entry := by
  unfold Sighting.usedEntry
  cases e.mark with
  | none | pending | unused => simp
  | used k time => simp

variable (resolved : Option ResultCode)

theorem laterChecks_resolved : (laterChecks e dir c v resolved).resolved = resolved := by
  unfold laterChecks
  split
  · rfl
  · split
    · rfl
    · split <;> rfl

/-- What the checks answer of an entry that is no copy. -/
theorem laterChecks_answer (h : ¬ e.copied c v = true) : (laterChecks e dir c v resolved).answer =
    if e.unusedFor dir c then .regrant else if e.usedEntry dir then .passback else .pass := by
  unfold laterChecks
  rw [if_neg h]
  split
  · rfl
  · split <;> rfl

theorem laterChecks_entry (h : ¬ e.copied c v = true) : (laterChecks e dir c v resolved).alarmed = false ∧
    (laterChecks e dir c v resolved).entry = e.takeImage c v := by
  unfold laterChecks
  rw [if_neg h]
  split
  · exact ⟨rfl, rfl⟩
  · split <;> exact ⟨rfl, rfl⟩

theorem laterChecks_rules : imageAndMarkChecks e dir c v (laterChecks e dir c v resolved) := by
  refine ⟨fun holder => ?_, fun hsound => ?_⟩
  · have hcopy : laterChecks e dir c v resolved =
        ⟨.clone, e.raiseSuspect, resolved, e.alarmed e.raiseSuspect⟩ := if_pos ((e.copied_iff c v).mpr holder)
    rw [hcopy]
    exact ⟨rfl, rfl, e.alarmed_raiseSuspect⟩
  have hnot : ¬ e.copied c v = true := fun h => hsound ((e.copied_iff c v).mp h)
  obtain ⟨halarmed, hentry⟩ := laterChecks_entry e dir c v resolved hnot
  have hpass : ¬ e.unusedFor dir c = true → ¬ e.usedEntry dir = true →
      (laterChecks e dir c v resolved).answer = .pass := fun hunused hused => by
    rw [laterChecks_answer e dir c v resolved hnot, if_neg hunused, if_neg hused]
  refine ⟨halarmed, fun hfresh => hentry.trans (e.takeImage_fresh c v hfresh),
    fun hstale => hentry.trans (e.takeImage_stale c v hstale), fun until_ hmark himage => ?_, fun time hmark => ?_,
    fun hmark => ?_, fun from_ until_ hmark hnone => ?_⟩
  · rw [laterChecks_answer e dir c v resolved hnot, if_pos ((e.unusedFor_iff dir c).mpr ⟨⟨until_, hmark⟩, himage⟩)]
  · have hunused : ¬ e.unusedFor dir c = true := fun h => by
      obtain ⟨⟨until_, hmark'⟩, -⟩ := (e.unusedFor_iff dir c).mp h
      exact absurd (hmark.symm.trans hmark') nofun
    rw [laterChecks_answer e dir c v resolved hnot, if_neg hunused]
    by_cases hdir : dir = .entry
    · rw [if_pos ((e.usedEntry_iff dir).mpr ⟨⟨time, hmark⟩, hdir⟩), if_pos hdir]
    · rw [if_neg fun h => hdir ((e.usedEntry_iff dir).mp h).2, if_neg hdir]
  · refine hpass (fun h => ?_) fun h => ?_
    · obtain ⟨⟨until_, hmark'⟩, -⟩ := (e.unusedFor_iff dir c).mp h
      rcases hmark with hm | ⟨k, q, hm⟩ | ⟨time, hm⟩ <;> exact absurd (hm.symm.trans hmark') nofun
    · obtain ⟨⟨time', hmark'⟩, -⟩ := (e.usedEntry_iff dir).mp h
      rcases hmark with hm | ⟨k, q, hm⟩ | ⟨time, hm⟩ <;> exact absurd (hm.symm.trans hmark') nofun
  · refine hpass (fun h => ?_) fun h => ?_
    · obtain ⟨⟨until', hmark'⟩, i, hi, hcounter⟩ := (e.unusedFor_iff dir c).mp h
      obtain ⟨rfl, -⟩ := CreditMark.unused.inj (hmark.symm.trans hmark')
      rcases hnone with hne | hne
      · exact hne rfl
      · exact hne i hi hcounter
    · obtain ⟨⟨time', hmark'⟩, -⟩ := (e.usedEntry_iff dir).mp h
      exact absurd (hmark.symm.trans hmark') nofun

end

/-! ## Checks 1 to 3 -/

section
variable {found : Option DenyEntry} {e : Sighting} {dir : Direction} {c : Nat} {v : CheckValue} {u : Uncertainty}

theorem denyAnswer_denied (h : ∃ x, found = some x ∧ x.kind = 1) : denyAnswer found c = some .denied := by
  obtain ⟨x, rfl, hkind⟩ := h
  exact if_pos hkind

theorem denyAnswer_floored (h : ∃ x, found = some x ∧ x.kind = 2 ∧ c < x.floor) :
    denyAnswer found c = some .clone := by
  obtain ⟨x, rfl, hkind, hfloor⟩ := h
  exact (if_neg (by omega)).trans (if_pos ⟨hkind, hfloor⟩)

theorem denyAnswer_none (hdenied : ¬ ∃ x, found = some x ∧ x.kind = 1)
    (hfloored : ¬ ∃ x, found = some x ∧ x.kind = 2 ∧ c < x.floor) : denyAnswer found c = none := by
  cases found with
  | none => rfl
  | some x => exact (if_neg fun h => hdenied ⟨x, rfl, h⟩).trans (if_neg fun h => hfloored ⟨x, rfl, h⟩)

theorem screenChecks_of_answer {a : ScreenAnswer} (h : denyAnswer found c = some a) :
    screenChecks found e dir c v = ⟨a, e, none, false⟩ := by
  rw [screenChecks, h]

theorem screenChecks_of_none (h : denyAnswer found c = none) :
    screenChecks found e dir c v = entryChecks e dir c v := by
  rw [screenChecks, h]

/-- A part that is resolved without a regrant: checks 4 to 7 on the image that check 3 gives. -/
theorem entryChecks_resolved {code : ResultCode} {image : Option LastImage} (hsuspect : e.suspect ≠ 3)
    (hu : e.uncertainty = some u) (hr : resolveAs u c v e.lastImage = (code, image))
    (h : ¬ (code = .took ∧ u.direction = dir)) :
    entryChecks e dir c v = laterChecks { e with uncertainty := none, lastImage := image } dir c v (some code) := by
  rw [entryChecks, if_neg hsuspect, hu]
  dsimp only
  rw [hr]
  exact if_neg h

theorem entryChecks_regrant {image : Option LastImage} (hsuspect : e.suspect ≠ 3) (hu : e.uncertainty = some u)
    (hr : resolveAs u c v e.lastImage = (.took, image)) (h : u.direction = dir) :
    entryChecks e dir c v =
      ⟨.regrant, Sighting.takeImage c v { e with uncertainty := none, lastImage := image }, some .took, false⟩ := by
  rw [entryChecks, if_neg hsuspect, hu]
  dsimp only
  rw [hr]
  exact if_pos ⟨rfl, h⟩

theorem resolveAs_took (image : Option LastImage) (h : c = u.newCounter ∧ v = u.newCheck) :
    resolveAs u c v image = (.took, some ⟨c, v⟩) := by
  obtain ⟨rfl, rfl⟩ := h
  exact if_pos ⟨rfl, rfl⟩

theorem resolveAs_void (image : Option LastImage) (hnew : ¬ (c = u.newCounter ∧ v = u.newCheck))
    (h : c = u.oldCounter ∧ v = u.oldCheck) : resolveAs u c v image = (.void, image) :=
  (if_neg hnew).trans (if_pos h)

theorem resolveAs_below (image : Option LastImage) (hnew : ¬ (c = u.newCounter ∧ v = u.newCheck))
    (hold : ¬ (c = u.oldCounter ∧ v = u.oldCheck)) (h : c < u.oldCounter) :
    resolveAs u c v image = (.overtaken, image) := (if_neg hnew).trans ((if_neg hold).trans (if_pos h))

theorem resolveAs_above (image : Option LastImage) (hnew : ¬ (c = u.newCounter ∧ v = u.newCheck))
    (hold : ¬ (c = u.oldCounter ∧ v = u.oldCheck)) (h : u.oldCounter ≤ c) :
    resolveAs u c v image = (.overtaken, some ⟨c, v⟩) :=
  (if_neg hnew).trans ((if_neg hold).trans (if_neg (Nat.not_lt.mpr h)))

/-- A part resolved without a regrant, as the statement has it. -/
theorem entryChecks_part {code : ResultCode} {image : Option LastImage} (hsuspect : e.suspect ≠ 3)
    (hu : e.uncertainty = some u) (hr : resolveAs u c v e.lastImage = (code, image))
    (h : ¬ (code = .took ∧ u.direction = dir)) :
    (entryChecks e dir c v).resolved = some code ∧
      imageAndMarkChecks { e with uncertainty := none, lastImage := image } dir c v (entryChecks e dir c v) := by
  rw [entryChecks_resolved hsuspect hu hr h]
  exact ⟨laterChecks_resolved _ _ _ _ _, laterChecks_rules _ _ _ _ _⟩

end

/-- Settles O47. -/
theorem screenChecksComeInOrder : Obligations.ScreenChecksComeInOrder := by
  intro found e dir c v r denied floored
  refine ⟨fun h => ?_, fun h => ?_, fun hdenied hfloored hsuspect => ?_, fun hdenied hfloored hsuspect => ?_⟩
  · rw [show r = _ from screenChecks_of_answer (denyAnswer_denied h)]
    exact ⟨rfl, rfl, rfl⟩
  · rw [show r = _ from screenChecks_of_answer (denyAnswer_floored h)]
    exact ⟨rfl, rfl, rfl⟩
  · rw [show r = _ from (screenChecks_of_none (denyAnswer_none hdenied hfloored)).trans (if_pos hsuspect)]
    exact ⟨rfl, rfl⟩
  have hr : r = entryChecks e dir c v := screenChecks_of_none (denyAnswer_none hdenied hfloored)
  clear_value r
  subst hr
  refine ⟨fun hnone => ?_, ?_⟩
  · have hlater : entryChecks e dir c v = laterChecks e dir c v none := by
      rw [entryChecks, if_neg hsuspect, hnone]
    rw [hlater]
    exact ⟨laterChecks_resolved _ _ _ _ _, laterChecks_rules _ _ _ _ _⟩
  intro u hu isNew isOld settled
  refine ⟨fun hnew => ?_, fun hnew hdir => ?_, fun hnew hdir => ?_, fun hnew hold => ?_,
    fun hnew hold => ⟨?_, fun hbelow => ?_, fun habove => ?_⟩⟩
  · by_cases hdir : u.direction = dir
    · rw [entryChecks_regrant hsuspect hu (resolveAs_took _ hnew) hdir]
    · exact (entryChecks_part hsuspect hu (resolveAs_took _ hnew) fun h => hdir h.2).1
  · rw [entryChecks_regrant hsuspect hu (resolveAs_took _ hnew) hdir]
    exact ⟨rfl, Sighting.takeImage_stale _ c v (by simp), rfl⟩
  · exact (entryChecks_part hsuspect hu (resolveAs_took _ hnew) fun h => hdir h.2).2
  · exact entryChecks_part hsuspect hu (resolveAs_void _ hnew hold) fun h => absurd h.1 (by decide)
  · rcases Nat.lt_or_ge c u.oldCounter with hbelow | habove
    · exact (entryChecks_part hsuspect hu (resolveAs_below _ hnew hold hbelow) fun h => absurd h.1 (by decide)).1
    · exact (entryChecks_part hsuspect hu (resolveAs_above _ hnew hold habove) fun h => absurd h.1 (by decide)).1
  · exact (entryChecks_part hsuspect hu (resolveAs_below _ hnew hold hbelow) fun h => absurd h.1 (by decide)).2
  · exact (entryChecks_part hsuspect hu (resolveAs_above _ hnew hold habove) fun h => absurd h.1 (by decide)).2

end Sys2Proof.Machine
end

section
/-! A screen is made, and answered (03 R38, R48, R49, R55, R56; 06 R119, R123). -/

namespace Sys2Proof.Machine

open Sys2Proof

/-! ## The moment of the screen (R119, R123) -/

/-- An ALERT record is asked for, and ALERT raised (R127). -/
theorem State.alert_exists (s : State) (l : LaneId) (d : Dialogue) (result : ResultCode) (counter : Nat)
    (e : Sighting) : ∃ q due, s.alert l d result counter e = { s with
      journal := { s.journal with queue := s.journal.queue ++ [q], writeDue := due }
      regs := { s.regs with attention := s.regs.attention ||| 0x0008#16 } } := ⟨_, _, rfl⟩

/-- A part that is resolved asks for its RESOLVED record (R123). -/
theorem State.recordResolution_exists (s : State) (l : LaneId) (d : Dialogue) (e : Sighting) (r : Option ResultCode) :
    ∃ qs due, s.recordResolution l d e r = { s with
        journal := { s.journal with queue := s.journal.queue ++ qs, writeDue := due } } ∧
      ∀ u code, e.uncertainty = some u → r = some code →
        ⟨resolvedRecord e.card u l code s.now d.degradedNote, .part, .screen l⟩ ∈ qs := by
  have hsame : s = { s with
      journal := { s.journal with queue := s.journal.queue ++ [], writeDue := s.journal.writeDue } } := by
    rw [List.append_nil]
  cases r with
  | none => exact ⟨[], s.journal.writeDue, hsame, nofun⟩
  | some code =>
    cases hu : e.uncertainty with
    | none =>
      refine ⟨[], s.journal.writeDue, ?_, nofun⟩
      unfold State.recordResolution
      rw [hu]
      exact hsame
    | some u =>
      refine ⟨[_], _, by
        unfold State.recordResolution
        rw [hu]
        rfl, fun u' code' hu' hcode => ?_⟩
      obtain rfl := Option.some.inj hu'
      obtain rfl := Option.some.inj hcode
      exact List.mem_singleton_self _

section
variable {s : State} {l : LaneId} {d : Dialogue} {e : Sighting} {list : Option Denylist}

/-- The table after a screen: the entry as the checks make it, touched (R119). -/
theorem findSighting_screened {t : List Sighting} {card : CardNumber} {now : StationTime} (x : Sighting)
    (he : findSighting t card = some e) :
    findSighting (touchSighting (changeSighting t card fun _ => x) card now) card =
        some { x with card := e.card, touched := now } ∧
      ∀ other, other ≠ card → findSighting (touchSighting (changeSighting t card fun _ => x) card now) other =
        findSighting t other := by
  refine ⟨?_, fun other hother => ?_⟩
  · rw [findSighting_touchSighting_self, findSighting_changeSighting_self, he]
    rfl
  · rw [findSighting_touchSighting_ne _ _ hother, findSighting_changeSighting_ne _ hother]

/-- The state as the checks have been made: the entry as they make it, and the answer due 2 µs later. -/
def State.screened (s : State) (l : LaneId) (d : Dialogue) (r : Screened) (qs : List RecordRequest)
    (due : Nat) : State :=
  { s.setLane l { s.lane l with
      dialogue := some { d with outstanding := some (.screened r.answer (s.timeBase + 20)) } } with
    screening := { s.screening with
      table := touchSighting (changeSighting s.screening.table d.card fun _ => r.entry) d.card s.now }
    journal := { s.journal with queue := s.journal.queue ++ qs, writeDue := due }
    regs := if r.alarmed then { s.regs with attention := s.regs.attention ||| 0x0008#16 } else s.regs }

variable {r : Screened}

theorem State.screenEntry_exists (hd : (s.lane l).dialogue = some d)
    (he : findSighting s.screening.table d.card = some e)
    (hr : r = screenChecks (lookupDeny s.mem list d.card).2 e d.direction (purseCounter d.purse)
      (purseCheck d.purse)) :
    ∃ qs due, s.screenEntry l d list = s.screened l d r qs due ∧
      ∀ u code, e.uncertainty = some u → r.resolved = some code →
        ⟨resolvedRecord e.card u l code s.now d.degradedNote, .part, .screen l⟩ ∈ qs := by
  obtain ⟨w, hw⟩ : ∃ w, w = (s.changeEntry d.card fun _ => r.entry).setTable
    (touchSighting (s.changeEntry d.card fun _ => r.entry).screening.table d.card
      (s.changeEntry d.card fun _ => r.entry).now) := ⟨_, rfl⟩
  have hstate : w = { s with screening := { s.screening with
      table := touchSighting (changeSighting s.screening.table d.card fun _ => r.entry) d.card s.now } } := hw
  obtain ⟨qs, due, hresolution, hasked⟩ := w.recordResolution_exists l d e r.resolved
  have hnow : w.now = s.now := by
    rw [hw]
    rfl
  rw [hnow] at hasked
  obtain ⟨v, hv⟩ : ∃ v, v = if r.alarmed then
      (w.recordResolution l d e r.resolved).alert l d .clone (purseCounter d.purse) r.entry
    else w.recordResolution l d e r.resolved := ⟨_, rfl⟩
  have hscreen : s.screenEntry l d list = v.setOutstanding l (some (.screened r.answer (v.timeBase + 20))) := by
    unfold State.screenEntry
    rw [he]
    dsimp only
    rw [← hr, ← hw, ← hv]
    rfl
  have hmade : ∃ qs' due, v = { s with
      screening := w.screening
      journal := { s.journal with queue := s.journal.queue ++ qs ++ qs', writeDue := due }
      regs := (if r.alarmed then { s.regs with attention := s.regs.attention ||| 0x0008#16 } else s.regs) } := by
    rw [hv, hresolution, hstate]
    by_cases halarmed : r.alarmed = true
    · obtain ⟨q, due', halert⟩ := State.alert_exists { w with
        journal := { w.journal with queue := w.journal.queue ++ qs, writeDue := due } } l d .clone
          (purseCounter d.purse) r.entry
      rw [hstate] at halert
      refine ⟨[q], due', ?_⟩
      rw [if_pos halarmed, if_pos halarmed]
      exact halert
    · refine ⟨[], due, ?_⟩
      rw [if_neg halarmed, if_neg halarmed, List.append_nil]
  obtain ⟨qs', due', hmade⟩ := hmade
  have hdv : (v.lane l).dialogue = some d := by
    rw [hmade]
    exact hd
  refine ⟨qs ++ qs', due', ?_, fun u code hu hcode => List.mem_append_left _ (hasked u code hu hcode)⟩
  rw [hscreen, State.setOutstanding, State.updDialogue_eq _ hdv, hmade, hstate, List.append_assoc]
  rfl

/-- The screen at the end of its lookup. -/
theorem screenIsMade (hpin : s.sys.resetPin = false) {due : Nat} (hd : (s.lane l).dialogue = some d)
    (hwaits : d.outstanding = some (.lookup list due)) (he : findSighting s.screening.table d.card = some e)
    (hdue : due ≤ s.nextTick) :
    let r := screenChecks (lookupDeny s.mem list d.card).2 e d.direction (purseCounter d.purse) (purseCheck d.purse)
    ∃ t, exec (.screenLookupEnd l) s = .next t ∧
      t = { s with
        timeBase := max s.timeBase due
        lanes := t.lanes
        screening := { s.screening with table := t.screening.table }
        journal := { s.journal with queue := t.journal.queue, writeDue := t.journal.writeDue }
        regs := (if r.alarmed then { s.regs with attention := s.regs.attention ||| 0x0008#16 } else s.regs)
        mem := t.mem } ∧
      laneBecomes s t l
        { s.lane l with
          dialogue := some { d with outstanding := some (.screened r.answer (t.timeBase + 20)) } } ∧
      findSighting t.screening.table d.card = some { r.entry with card := e.card, touched := s.now } ∧
      (∀ card, card ≠ d.card → findSighting t.screening.table card = findSighting s.screening.table card) ∧
      (∀ u code, e.uncertainty = some u → r.resolved = some code →
        ⟨resolvedRecord e.card u l code s.now d.degradedNote, .part, .screen l⟩ ∈ t.journal.queue) := by
  intro r
  have hr : r = screenChecks (lookupDeny s.mem list d.card).2 e d.direction (purseCounter d.purse)
    (purseCheck d.purse) := rfl
  clear_value r
  obtain ⟨qs, wdue, hscreen, hasked⟩ :=
    State.screenEntry_exists (s := { s with timeBase := max s.timeBase due }) (list := list) hd he hr
  have hexec : exec (.screenLookupEnd l) s =
      .next (State.conclude s (State.screened { s with timeBase := max s.timeBase due } l d r qs wdue)) := by
    refine exec_concluded hpin rfl ?_
    rw [hd]
    dsimp only
    rw [hwaits]
    exact (State.onDue_of_reached _ hdue).trans hscreen
  obtain ⟨lanes, m, hconclude, -⟩ := State.conclude_exists s
    (State.screened { s with timeBase := max s.timeBase due } l d r qs wdue)
  have htable : (State.conclude s (State.screened { s with timeBase := max s.timeBase due } l d r qs wdue)).screening
      = { s.screening with
        table := touchSighting (changeSighting s.screening.table d.card fun _ => r.entry) d.card s.now } := by
    rw [hconclude]
    rfl
  obtain ⟨hself, hothers⟩ := findSighting_screened (now := s.now) r.entry he
  refine ⟨_, hexec, ?_, ?_, ?_, ?_, ?_⟩
  · rw [hconclude]
    rfl
  · rw [State.DialogueStep.conclude_timeBase]
    exact laneBecomes_conclude (State.lane_setLane_self _ l _) (fun k hk => State.lane_setLane_ne _ _ hk) rfl
  · rw [htable]
    exact hself
  · rw [htable]
    exact hothers
  · intro u code hu hcode
    rw [State.conclude_journal]
    exact List.mem_append_right _ (hasked u code hu hcode)

/-! ## The answer (R48, R49, R55, R56) -/

variable {a : ScreenAnswer}

theorem exec_screenAnswer (hpin : s.sys.resetPin = false) {due : Nat} (hd : (s.lane l).dialogue = some d)
    (hwaits : d.outstanding = some (.screened a due)) (hwritten : s.awaitsRecord (.screen l) = false)
    (hdue : due ≤ s.nextTick) : exec (.screenAnswer l) s =
      .next (State.conclude s (State.takeScreen { s with timeBase := max s.timeBase due } l d a)) := by
  refine exec_concluded hpin rfl ?_
  rw [hd]
  dsimp only
  rw [hwaits]
  exact (if_neg (by rw [hwritten]; exact Bool.false_ne_true)).trans (State.onDue_of_reached _ hdue)

theorem State.takeScreen_decided {code : ResultCode} (h : d.outcome = some code) :
    s.takeScreen l d a = (s.setOutstanding l none).beginRelease l := if_pos (by rw [h]; rfl)

/-- The code that a refusing answer ends the dialogue with (R56). -/
def ScreenAnswer.refusal : ScreenAnswer → Option ResultCode
  | .denied => some .denied
  | .clone => some .clone
  | .suspect => some .suspect
  | .passback => some .passback
  | .pass | .regrant => none

theorem State.takeScreen_refused {code : ResultCode} (hopen : d.outcome = none) (ha : a.refusal = some code) :
    s.takeScreen l d a = (s.setOutstanding l none).endDialogue l code false := by
  refine (if_neg (by rw [hopen]; exact Bool.false_ne_true)).trans ?_
  cases a with
  | pass | regrant => exact absurd ha nofun
  | denied | clone | suspect | passback =>
    obtain rfl := Option.some.inj ha
    rfl

theorem State.takeScreen_regrant (hopen : d.outcome = none) :
    s.takeScreen l d .regrant = (s.setOutstanding l none).regrantPath l d :=
  if_neg (by rw [hopen]; exact Bool.false_ne_true)

/-- The dialogue as it goes on to PRICE. -/
def Dialogue.pricingBegun (d : Dialogue) (x : Transaction) : Dialogue :=
  { d.answered with
    screen := some .pass, phase := .price, transaction := some x, outstanding := some .price }

/-- The transaction time of a pricing that begins now (R49). -/
def State.transactionNow (s : State) : Transaction := ⟨s.now, s.clock.serviceDay, s.clock.today⟩

theorem State.takeScreen_pass {table : Area} (hopen : d.outcome = none) (hd : (s.lane l).dialogue = some d)
    (htable : s.fare.active = some table) :
    s.takeScreen l d .pass = { s.setLane l { s.lane l with dialogue := some (d.pricingBegun s.transactionNow) } with
      fare := { s.fare with
        pricings := s.fare.pricings.set l (some ⟨d.tag, table, d.direction, d.recordArea.take 32,
          d.recordArea.drop 32, s.transactionNow, s.timeBase + 40⟩) } } := by
  refine (if_neg (by rw [hopen]; exact Bool.false_ne_true)).trans ?_
  have hset := State.lane_setDialogue (fun d => { d with screen := some .pass }) (State.lane_answered hd)
  have hstart : ∀ v : State, (v.lane l).dialogue = some { d.answered with screen := some .pass } →
      v.fare.active = some table → v.startPrice l =
        (v.updDialogue l fun d =>
          { d with phase := .price, transaction := some v.transactionNow, outstanding := some .price }).setFare
        { v.fare with
          pricings := v.fare.pricings.set l (some ⟨d.tag, table, d.direction, d.recordArea.take 32,
            d.recordArea.drop 32, v.transactionNow, v.timeBase + 40⟩) } := fun v hv hfare => by
    unfold State.startPrice
    rw [hv, hfare]
    rfl
  refine (hstart _ hset htable).trans ?_
  rw [State.updDialogue_eq _ hset, State.updDialogue_eq _ (State.lane_answered hd), State.setOutstanding,
    State.updDialogue_eq _ hd]
  rw [State.lane_setLane_self, State.setLane_setLane, State.lane_setLane_self, State.setLane_setLane]
  rfl

/-- The steps of R55 begin with the REGRANT record. -/
theorem State.takeScreen_regrant_eq (hopen : d.outcome = none) (hd : (s.lane l).dialogue = some d) :
    s.takeScreen l d .regrant =
      (s.setLane l { s.lane l with dialogue := some { d.answered with
        phase := .grant, screen := some .regrant, outstanding := some .journal } }).enqueue
          ⟨d.regrantRecord l s.now, .dialogue l, .grant l⟩ := by
  rw [State.takeScreen_regrant hopen, State.regrantPath, State.updDialogue_eq _ (State.lane_answered hd),
    State.setOutstanding, State.updDialogue_eq _ hd, State.lane_setLane_self, State.setLane_setLane]
  rfl

/-- What an answer that is used changes. -/
structure State.ScreenTaken (s u : State) (l : LaneId) : Prop where
  state : u = { s with
    lanes := u.lanes, engine := u.engine, screening := u.screening, journal := u.journal, fare := u.fare }
  others : ∀ k, k ≠ l → u.lane k = s.lane k

theorem State.AnswerStep.screenTaken {u : State} (h : s.AnswerStep u l) : s.ScreenTaken u l where
  state := by
    have hstate := h.state
    rw [h.time] at hstate
    rw [hstate]
  others := h.others

theorem State.takeScreen_taken {table : Area} (hopen : d.outcome = none) (hd : (s.lane l).dialogue = some d)
    (htable : s.fare.active = some table) : s.ScreenTaken (s.takeScreen l d a) l := by
  cases ha : a.refusal with
  | some code =>
    rw [State.takeScreen_refused hopen ha]
    exact ((State.answerStep_updDialogue _).trans
      (State.endDialogue_answerStep code false (State.lane_answered hd))).screenTaken
  | none =>
    cases a with
    | denied | clone | suspect | passback => exact absurd ha nofun
    | pass =>
      rw [State.takeScreen_pass hopen hd htable]
      exact ⟨rfl, fun k hk => State.lane_setLane_ne _ _ hk⟩
    | regrant =>
      rw [State.takeScreen_regrant_eq hopen hd]
      exact ⟨rfl, fun k hk => State.lane_setLane_ne _ _ hk⟩

end

/-- Settles O48. -/
theorem screenIsMadeAndAnswered : Obligations.ScreenIsMadeAndAnswered := by
  refine ⟨fun s l d e list due hpin hd hwaits he hdue => screenIsMade hpin hd hwaits he hdue,
    fun s l d a due code hpin hd hwaits hcode hcertain hwritten hdue => ?_,
    fun s l d a table due hpin hd hwaits hopen hwritten htable hdue => ?_⟩
  · have hexec := exec_screenAnswer (a := a) hpin hd hwaits hwritten hdue
    have hdw : (State.lane { s with timeBase := max s.timeBase due } l).dialogue = some d := hd
    have hanswered := State.lane_answered hdw
    rw [State.takeScreen_decided hcode] at hexec
    have hstep : State.AnswerStep { s with timeBase := max s.timeBase due }
        ((State.setOutstanding { s with timeBase := max s.timeBase due } l none).beginRelease l) l :=
      (State.answerStep_updDialogue _).trans (State.beginRelease_endsDialogue hanswered hcode).answerStep
    have hengine := State.beginRelease_engine hanswered hcode
    have hscreening := fun hknown => State.beginRelease_screening hanswered hcode hcertain (.inl hknown)
    have hends := State.beginRelease_endsWith hanswered hcode
    have hasked := State.beginRelease_recordAsked hanswered hcode
    obtain ⟨u, hu⟩ : ∃ u, u =
      (State.setOutstanding { s with timeBase := max s.timeBase due } l none).beginRelease l := ⟨_, rfl⟩
    rw [← hu] at hexec hstep hengine hscreening hends hasked
    obtain ⟨hstate, hothers⟩ := hstep.screenTaken
    refine ⟨_, hexec, State.OtherLanesKept.conclude hothers, State.MemoryKept.conclude (.of_mem _ ?_), ?_, ?_, ?_, ?_,
      ?_, ?_, fun hknown => ?_, endsWith_conclude hends, recordAsked_conclude hasked⟩
    · rw [hstate]
    · rw [State.DialogueStep.conclude_timeBase, hstate]
    · rw [State.conclude_regs, hstate]
    · rw [State.conclude_orders, hstate]
    · rw [State.conclude_params, hstate]
    · rw [State.conclude_fare, hstep.state]
    · rw [State.conclude_engine, hengine]
      rfl
    · rw [State.conclude_screening, hscreening hknown]
      rfl
  · have hexec := exec_screenAnswer (a := a) hpin hd hwaits hwritten hdue
    obtain ⟨w, hw⟩ : ∃ w : State, w = { s with timeBase := max s.timeBase due } := ⟨_, rfl⟩
    have hdw : (w.lane l).dialogue = some d := by
      rw [hw]
      exact hd
    rw [← hw] at hexec
    obtain ⟨hstate, hothers⟩ :=
      State.takeScreen_taken (a := a) hopen hdw (by rw [hw]; exact htable)
    refine ⟨_, hexec, State.OtherLanesKept.conclude fun k hk => ?_, State.MemoryKept.conclude (.of_mem _ ?_), ?_, ?_,
      ?_, ?_, fun ha => ?_, fun ha => ?_, ?_⟩
    · rw [hothers k hk, hw]
      rfl
    · rw [hstate, hw]
    · rw [State.DialogueStep.conclude_timeBase, hstate, hw]
    · rw [State.conclude_regs, hstate, hw]
    · rw [State.conclude_orders, hstate, hw]
    · rw [State.conclude_params, hstate, hw]
    · subst ha
      rw [State.DialogueStep.conclude_timeBase, State.conclude_journal, State.conclude_engine,
        State.conclude_screening, State.conclude_fare, State.conclude_dialogue,
        State.takeScreen_pass hopen hdw (by rw [hw]; exact htable), hw]
      exact ⟨rfl, rfl, rfl, ⟨_, congrArg Lane.dialogue (State.lane_setLane_self _ l _), rfl, rfl⟩, rfl⟩
    · subst ha
      rw [State.conclude_journal, State.conclude_engine, State.conclude_screening, State.conclude_fare,
        State.conclude_dialogue, State.takeScreen_regrant_eq hopen hdw, hw]
      exact ⟨rfl, rfl, rfl, rfl, _, congrArg Lane.dialogue (State.lane_setLane_self _ l _), rfl, rfl⟩
    · have hends : ∀ code, a.refusal = some code →
          endsWith (State.conclude s (w.takeScreen l d a)) l code ∧
            recordAsked (State.conclude s (w.takeScreen l d a)) l d code s.journal.queue [] := fun code ha => by
        rw [State.takeScreen_refused hopen ha]
        exact answeredEnds code (State.lane_answered hdw) (by rw [hw]; rfl) (by rw [hw]; rfl) (by rw [hw]; rfl)
      exact ⟨fun ha => hends _ (by rw [ha]; rfl), fun ha => hends _ (by rw [ha]; rfl),
        fun ha => hends _ (by rw [ha]; rfl), fun ha => hends _ (by rw [ha]; rfl)⟩

end Sys2Proof.Machine
end

section
/-! A pricing is answered (03 R50, R51, R56, R60; 04 R77; 05 R85, R87). -/

namespace Sys2Proof.Machine

open Sys2Proof

theorem FareUnit.bound_iff (f : FareUnit) (t : Area) :
    f.bound t = true ↔ ∃ k q, f.pricings.get k = some q ∧ q.table = t := by
  have hany : ∀ p : Option Pricing, (p.any fun q => decide (q.table = t)) = true ↔ ∃ q, p = some q ∧ q.table = t := by
    intro p
    simp [Option.any_eq_true]
  unfold FareUnit.bound
  rw [List.any_eq_true]
  refine ⟨fun ⟨p, hp, h⟩ => ?_, fun ⟨k, q, hq, ht⟩ => ⟨f.pricings.get k, ?_, (hany _).mpr ⟨q, hq, ht⟩⟩⟩
  · obtain ⟨q, hq, ht⟩ := (hany p).mp h
    have hlane : ∃ k, f.pricings.get k = p := by
      rcases List.mem_cons.mp hp with rfl | hp
      · exact ⟨.lane0, rfl⟩
      rcases List.mem_cons.mp hp with rfl | hp
      · exact ⟨.lane1, rfl⟩
      rcases List.mem_cons.mp hp with rfl | hp
      · exact ⟨.lane2, rfl⟩
      · exact ⟨.lane3, (List.mem_singleton.mp hp).symm⟩
    obtain ⟨k, hk⟩ := hlane
    exact ⟨k, q, hk.trans hq, ht⟩
  · cases k <;> simp [PerLane.get]

section
variable {s : State} {l : LaneId} {p : Pricing} {d : Dialogue}

/-- The state as the binding has ended, 4 µs after the request. -/
def State.unbound (s : State) (l : LaneId) (p : Pricing) : State :=
  { s with timeBase := max s.timeBase p.due, fare := { s.fare with pricings := s.fare.pricings.set l none } }

/-- Some other pricing is bound to the table. -/
theorem State.unbound_bound_iff (old : Area) :
    (s.unbound l p).fare.bound old = true ↔ ∃ k q, k ≠ l ∧ s.fare.pricings.get k = some q ∧ q.table = old := by
  rw [FareUnit.bound_iff]
  refine ⟨fun ⟨k, q, hq, ht⟩ => ?_, fun ⟨k, q, hk, hq, ht⟩ => ⟨k, q, (PerLane.get_set_ne _ _ hk).trans hq, ht⟩⟩
  have hk : k ≠ l := fun h => by
    subst h
    exact absurd ((PerLane.get_set_self _ _ _).symm.trans hq) nofun
  exact ⟨k, q, hk, (PerLane.get_set_ne _ _ hk).symm.trans hq, ht⟩

/-- The dialogue that waits for the answer takes it. -/
def State.priceTaken (s : State) (l : LaneId) (p : Pricing) : State :=
  if (s.lane l).dialogue.any fun d => d.awaitsPrice p.tag then (s.unbound l p).takePrice l (price s.mem p)
  else s.unbound l p

/-- The effect of a pricing's answer. -/
def State.priceAnswered (s : State) (l : LaneId) (p : Pricing) : State :=
  if s.orders.service.any fun o => o.stage = .awaitingPricings then (s.priceTaken l p).releasePrevious
  else s.priceTaken l p

theorem takePrice_answerStep {w : State} (a : PriceAnswer) (hd : (w.lane l).dialogue = some d) :
    w.AnswerStep (w.takePrice l a) l := by
  cases a with
  | cardSpent => exact State.endDialogue_answerStep _ _ hd
  | expired => exact State.endDialogue_answerStep _ _ hd
  | lowBalance charge flags =>
    exact (State.answerStep_updDialogue _).trans (State.endDialogue_answerStep _ _ (State.lane_setDialogue _ hd))
  | priced r image =>
    exact (State.answerStep_updDialogue _).trans (State.askEngine_answerStep _ (State.lane_setDialogue _ hd))

theorem awaitsPrice_iff : d.awaitsPrice p.tag = true ↔
    d.tag = p.tag ∧ d.outcome = none ∧ d.outstanding = some .price := by
  simp [Dialogue.awaitsPrice, and_assoc]

theorem State.priceTaken_answerStep : (s.unbound l p).AnswerStep (s.priceTaken l p) l := by
  unfold State.priceTaken
  split
  next h =>
    cases hd : (s.lane l).dialogue with
    | none =>
      rw [hd] at h
      exact absurd h Bool.false_ne_true
    | some d => exact takePrice_answerStep _ (d := d) hd
  next => exact .refl _ _

theorem exec_priceAnswer (hpin : s.sys.resetPin = false) (hp : s.fare.pricings.get l = some p)
    (hdue : p.due ≤ s.nextTick) : exec (.priceAnswer l) s = .next (State.conclude s (s.priceAnswered l p)) := by
  refine exec_concluded hpin rfl ?_
  rw [hp]
  refine (State.onDue_of_reached _ hdue).trans ?_
  have horders : (s.priceTaken l p).orders = s.orders := by
    have hstate := (State.priceTaken_answerStep (s := s) (l := l) (p := p)).state
    rw [hstate]
    rfl
  have hanswers : State.answerPrice { s with timeBase := max s.timeBase p.due } l p =
      if (s.priceTaken l p).orders.service.any fun o => o.stage = .awaitingPricings then
        (s.priceTaken l p).releasePrevious
      else s.priceTaken l p := rfl
  rw [hanswers, horders]
  rfl

/-- A release leaves all but the previous table and the order. -/
theorem State.releasePrevious_same (u : State) : ∃ f o, u.releasePrevious = { u with fare := f, orders := o } := by
  unfold State.releasePrevious
  split
  next => exact ⟨_, _, rfl⟩
  next =>
    split
    next => exact ⟨_, _, rfl⟩
    next => exact ⟨_, _, rfl⟩

theorem State.priceAnswered_adopting {o : OrderInService} (ho : s.orders.service = some o)
    (hstage : o.stage = .awaitingPricings) : s.priceAnswered l p = (s.priceTaken l p).releasePrevious := by
  refine if_pos ?_
  rw [ho]
  exact decide_eq_true hstage

theorem State.priceAnswered_same : ∃ f o, s.priceAnswered l p = { s.priceTaken l p with fare := f, orders := o } := by
  unfold State.priceAnswered
  split
  next => exact State.releasePrevious_same _
  next => exact ⟨_, _, rfl⟩

/-! ## The answer at the dialogue -/

theorem State.priceTaken_other
    (h : ∀ d, (s.lane l).dialogue = some d → d.tag ≠ p.tag ∨ d.outcome ≠ none ∨ d.outstanding ≠ some .price) :
    s.priceTaken l p = s.unbound l p := by
  refine if_neg fun hany => ?_
  cases hd : (s.lane l).dialogue with
  | none =>
    rw [hd] at hany
    exact absurd hany Bool.false_ne_true
  | some d =>
    rw [hd] at hany
    obtain ⟨htag, hopen, hwaits⟩ := awaitsPrice_iff.mp hany
    rcases h d hd with h | h | h
    · exact h htag
    · exact h hopen
    · exact h hwaits

theorem State.priceTaken_waiting (hd : (s.lane l).dialogue = some d) (htag : d.tag = p.tag) (hopen : d.outcome = none)
    (hwaits : d.outstanding = some .price) : s.priceTaken l p = (s.unbound l p).takePrice l (price s.mem p) := by
  refine if_pos ?_
  rw [hd]
  exact awaitsPrice_iff.mpr ⟨htag, hopen, hwaits⟩

/-- A refusal ends the dialogue, with its REFUSED record; at LOW BALANCE the dialogue has taken the charge. -/
theorem refusedByPrice {w : State} {code : ResultCode} (x : Option PricingResult) (hcertain : code ≠ .uncertain)
    (hd : (w.lane l).dialogue = some { d with pricing := x }) (hwaits : d.outstanding = some .price) :
    endsWith (w.endDialogue l code false) l code ∧
      recordAsked (w.endDialogue l code false) l d code w.journal.queue [] := by
  obtain ⟨hover, hasked, -⟩ := endsNow_of_fields (e := { d with pricing := x }) (d := d) hcertain rfl rfl rfl rfl rfl
    (State.endDialogue_endsNow code false hd)
  obtain ⟨hrecord, -⟩ := hasked fun o ho => by
    obtain rfl := Option.some.inj (hwaits.symm.trans ho)
    rfl
  exact ⟨hover, hrecord⟩

/-- The dialogue as LOW BALANCE has given it its charge and flags (R60). -/
def Dialogue.charged (d : Dialogue) (charge : Nat) (flags : StageFlags) : Dialogue :=
  { d with pricing := some ⟨charge, 0, flags, 0, 0⟩ }

/-- The record of a LOW BALANCE shows the charge and its flags (R60). -/
theorem lowBalanceRecord {w : State} {charge : Nat} {flags : StageFlags}
    (hd : (w.lane l).dialogue = some (d.charged charge flags)) (hwaits : d.outstanding = some .price)
    (hknown : d.known = true) : ∃ q ∈ (w.endDialogue l .lowBalance false).journal.queue, q.waiter = .release l ∧
      q.record.charge = charge ∧ q.record.flags = recordFlags flags d.degradedNote false := by
  have hfree : ∀ o, (d.charged charge flags).outstanding = some o → o.atScreening = false := fun o ho => by
    obtain rfl := Option.some.inj (hwaits.symm.trans ho)
    rfl
  rw [State.endDialogue_refused false hd (by decide) hknown hfree]
  exact ⟨_, List.mem_append_right _ (List.mem_singleton_self _), rfl, rfl, rfl⟩

/-- The dialogue as a price has given it the intended image. -/
def Dialogue.intends (d : Dialogue) (r : PricingResult) (image : List Byte) : Dialogue :=
  { d with phase := .seal, pricing := some r, image := some image, expected := some (purseCounter image) }

theorem sealAsked {w : State} (r : PricingResult) (image : List Byte) (hd : (w.lane l).dialogue = some d) :
    (w.takePrice l (.priced r image)).journal = w.journal ∧
      (w.takePrice l (.priced r image)).screening = w.screening ∧
      enginedFor w (w.takePrice l (.priced r image)) l d (.seal image) ∧
      ((w.takePrice l (.priced r image)).lane l).dialogue =
        some { d.intends r image with outstanding := some .engine } := by
  have hset := State.lane_setDialogue (fun d => d.intends r image) hd
  obtain ⟨hjournal, hscreening⟩ := State.askEngine_journal (.seal image) hset
  have hengined := State.askEngine_engined (.seal image) hset
  exact ⟨hjournal, hscreening, hengined, State.askEngine_dialogue (.seal image) hset⟩

end

/-- The orders as an adoption is done, whatever becomes of the order in service. -/
theorem Orders.adopted_congr {x y : Orders} (z : Option OrderInService) (h : x = y) :
    ({ x with
      held := { x.held with fareSecond := none }
      ready := { x.ready with fareAdopted := true }
      service := z } : Orders) = { y with
        held := { y.held with fareSecond := none }
        ready := { y.ready with fareAdopted := true }
        service := z } := by rw [h]

/-- Settles O49. -/
theorem priceIsAnswered : Obligations.PriceIsAnswered := by
  intro s l p hpin hp hdue
  obtain ⟨f, orders, hsame⟩ := State.priceAnswered_same (s := s) (l := l) (p := p)
  have hexec := exec_priceAnswer hpin hp hdue
  obtain ⟨hstate, hothers⟩ := (State.priceTaken_answerStep (s := s) (l := l) (p := p)).screenTaken
  have hframe : s.priceAnswered l p = { s.priceTaken l p with
      fare := (s.priceAnswered l p).fare, orders := (s.priceAnswered l p).orders } := by rw [hsame]
  have htime : (State.conclude s (s.priceAnswered l p)).timeBase = max s.timeBase p.due := by
    rw [State.DialogueStep.conclude_timeBase, hframe, hstate]
    rfl
  have hfare : (s.priceTaken l p).fare = { s.fare with pricings := s.fare.pricings.set l none } := by
    rw [(State.priceTaken_answerStep (s := s) (l := l) (p := p)).state]
    rfl
  have horders : (s.priceTaken l p).orders = s.orders := by
    rw [hstate]
    rfl
  refine ⟨_, hexec, State.OtherLanesKept.conclude fun k hk => ?_, State.MemoryKept.conclude (.of_mem _ ?_), htime, ?_,
    ?_, fun hnone => ?_, fun o active old ho hstage hactive hprevious => ⟨fun hbound => ?_, fun hfree => ?_⟩,
    fun hother => ?_, fun d hd htag hopen hwaits => ?_⟩
  · rw [hsame]
    exact hothers k hk
  · rw [hsame, hstate]
    rfl
  · rw [State.conclude_regs, hsame, hstate]
    rfl
  · rw [State.conclude_params, hsame, hstate]
    rfl
  · have hany : s.priceAnswered l p = s.priceTaken l p := by
      refine if_neg ?_
      cases ho : s.orders.service with
      | none => exact Bool.false_ne_true
      | some o => simpa using hnone o ho
    rw [State.conclude_orders, State.conclude_fare, hany]
    exact ⟨horders, hfare⟩
  · have hreleases : s.priceAnswered l p = (s.priceTaken l p).releasePrevious := State.priceAnswered_adopting ho hstage
    have hkept : (s.priceTaken l p).fare.previous.any (s.priceTaken l p).fare.bound = true := by
      rw [hfare, hprevious]
      exact (State.unbound_bound_iff (p := p) old).mpr hbound
    rw [State.conclude_orders, State.conclude_fare, hreleases,
      State.releasePrevious_of_bound ((congrArg FareUnit.active hfare).trans hactive) hkept]
    exact ⟨horders, hfare⟩
  · have hreleases : s.priceAnswered l p = (s.priceTaken l p).releasePrevious := State.priceAnswered_adopting ho hstage
    have hunbound : (s.priceTaken l p).fare.previous.any (s.priceTaken l p).fare.bound = false := by
      rw [hfare, hprevious]
      refine Bool.not_eq_true _ ▸ fun hbound => ?_
      obtain ⟨k, q, hk, hq, ht⟩ := (State.unbound_bound_iff (p := p) old).mp hbound
      exact hfree k q hk hq ht
    rw [State.EndedWith, htime, State.conclude_orders, State.conclude_fare, hreleases,
      State.releasePrevious_of_free ((congrArg FareUnit.active hfare).trans hactive) hunbound]
    refine ⟨?_, ?_, ?_, ho⟩
    · exact congrArg (fun f : FareUnit => { f with previous := none }) hfare
    · exact Orders.adopted_congr (x := (s.priceTaken l p).orders) _ horders
    · have hended : ∀ stage, (s.priceTaken l p).orders.service.map (fun o => { o with stage := stage }) =
          some { o with stage := stage } := fun stage => by
        rw [horders, ho]
        rfl
      refine (hended _).trans ?_
      rw [hstate]
      rfl
  · obtain ⟨hengine, hjournal, hscreening⟩ : (s.priceAnswered l p).engine = s.engine ∧
        (s.priceAnswered l p).journal = s.journal ∧ (s.priceAnswered l p).screening = s.screening := by
      rw [hsame, State.priceTaken_other hother]
      exact ⟨rfl, rfl, rfl⟩
    refine ⟨?_, (State.conclude_engine _ _).trans hengine, (State.conclude_journal _ _).trans hjournal,
      (State.conclude_screening _ _).trans hscreening⟩
    have hconcluded := State.conclude_concluded s (s.priceAnswered l p) l
    have hlane : (s.priceAnswered l p).lane l = s.lane l := by
      rw [hsame, State.priceTaken_other hother]
      rfl
    rwa [hlane] at hconcluded
  · have htaken := State.priceTaken_waiting hd htag hopen hwaits
    have hdw : ((s.unbound l p).lane l).dialogue = some d := hd
    intro ends
    have hends : ∀ code, endsWith (s.priceTaken l p) l code ∧
        recordAsked (s.priceTaken l p) l d code s.journal.queue [] → ends code := fun code ⟨hover, hasked⟩ => by
      change endsWith (State.conclude s (s.priceAnswered l p)) l code ∧
        recordAsked (State.conclude s (s.priceAnswered l p)) l d code s.journal.queue []
      rw [hsame]
      exact ⟨endsWith_conclude hover, recordAsked_conclude hasked⟩
    have hjournal : (s.priceAnswered l p).journal = (s.priceTaken l p).journal := by rw [hsame]
    refine ⟨fun ha => hends _ ?_, fun ha => hends _ ?_, fun charge flags ha => ⟨hends _ ?_, fun hknown => ?_⟩,
      fun r image ha => ?_⟩
    · rw [htaken, ha]
      exact refusedByPrice d.pricing (by decide) hdw hwaits
    · rw [htaken, ha]
      exact refusedByPrice d.pricing (by decide) hdw hwaits
    · rw [htaken, ha]
      exact refusedByPrice _ (by decide) (State.lane_setDialogue (fun d => d.charged charge flags) hdw) hwaits
    · rw [State.conclude_journal, hjournal, htaken, ha]
      exact lowBalanceRecord (State.lane_setDialogue (fun d => d.charged charge flags) hdw) hwaits hknown
    · obtain ⟨hsealJournal, hsealScreening, hengined, hdialogue⟩ := sealAsked r image hdw
      rw [State.conclude_journal, State.conclude_screening, State.conclude_dialogue, hsame, htaken, ha]
      exact ⟨hsealJournal, hsealScreening, enginedFor_conclude (s := s.unbound l p) rfl hengined, _, hdialogue, rfl,
        rfl, rfl, rfl⟩

end Sys2Proof.Machine
end

section
/-! The removal watch (02 R19, R32, R33). -/

namespace Sys2Proof.Machine

open Sys2Proof

section
variable {s : State} {l : LaneId} {w : RemovalWatch}

/-- An event that is the lane's alone. -/
theorem exec_laneStep {c : Instr} {f : State → State} {x : Lane} {tb : Nat} (hpin : s.sys.resetPin = false)
    (hrow : exec c s = .next (s.event f)) (hf : f s = State.setLane { s with timeBase := tb } l x) :
    ∃ t, exec c s = .next t ∧ t = { s with timeBase := tb, lanes := t.lanes, mem := t.mem } ∧ laneBecomes s t l x := by
  obtain ⟨lanes, m, hconclude, -⟩ := State.conclude_exists s (State.setLane { s with timeBase := tb } l x)
  refine ⟨_, exec_concluded hpin hrow hf, ?_, laneBecomes_conclude (State.lane_setLane_self _ l x)
    (fun k hk => State.lane_setLane_ne _ x hk) rfl⟩
  rw [hconclude]
  rfl

/-- The timer that runs out. -/
theorem probeTimerExpires (hpin : s.sys.resetPin = false) (hw : (s.lane l).watch = some w) {time : Int}
    (htime : w.probeAt = some time) (hdue : time ≤ s.instant) :
    ∃ t, exec (.probeTimerExpiry l) s = .next t ∧ t = { s with lanes := t.lanes, mem := t.mem } ∧
      laneBecomes s t l (if (s.lane l).link = .idle then
        { s.lane l with
          link := .noise (s.timeBase + 2000) .probe s.params.noiseThreshold
          watch := some { w with probeAt := none, owed := false } }
        else { s.lane l with watch := some { w with probeAt := none, owed := true } }) := by
  have hreached : (w.probeAt.any fun t => t ≤ s.instant) = true := by
    rw [htime]
    exact decide_eq_true hdue
  refine exec_laneStep hpin rfl ?_
  rw [hw]
  refine (if_pos hreached).trans ?_
  by_cases hidle : (s.lane l).link = .idle
  · rw [if_pos hidle, if_pos hidle, State.onLane, State.updLane, Lane.probe, hw]
    rfl
  · rw [if_neg hidle, if_neg hidle]
    rfl

/-- The lane after a PROBE that nobody answered. -/
def Lane.missed (p : Parameters) (tb : Nat) (w : RemovalWatch) (x : Lane) : Lane :=
  if 2 ≤ w.misses then { x with link := .idle, watch := none, field := .sniff, learning := true, carrier := none }
  else if w.owed then
    { x with link := .noise (tb + 2000) .probe p.noiseThreshold, watch := some ⟨w.misses + 1, none, false⟩ }
  else { x with link := .idle, watch := some { w with misses := w.misses + 1 } }

theorem Lane.miss_eq (p : Parameters) (tb : Nat) (w : RemovalWatch) (x : Lane) :
    x.miss p tb w = x.missed p tb w := by
  unfold Lane.miss Lane.missed
  by_cases hlast : 2 ≤ w.misses
  · rw [if_neg (by omega), if_pos hlast]
    rfl
  · rw [if_pos (by omega), if_neg hlast, Lane.probeDone_eq rfl]
    by_cases howed : w.owed = true
    · rw [if_pos howed, if_pos howed, if_pos howed]
    · rw [if_neg howed, if_neg howed, if_neg howed]

theorem probeWaitExpires (hpin : s.sys.resetPin = false) (hw : (s.lane l).watch = some w) {due : Nat} {half : Bool}
    (hlink : (s.lane l).link = .waiting due half) (hdue : due ≤ s.nextTick) :
    ∃ t, exec (.probeWaitExpiry l) s = .next t ∧
      t = { s with timeBase := max s.timeBase due, lanes := t.lanes, mem := t.mem } ∧
      laneBecomes s t l ((s.lane l).missed s.params (max s.timeBase due) w) := by
  refine exec_laneStep hpin rfl ?_
  rw [hw, hlink]
  refine (State.onDue_of_reached _ hdue).trans ?_
  rw [State.onLane, State.updLane, Lane.miss_eq]
  rfl

end

/-- Settles O50. -/
theorem removalWatchProbesAndConfirms : Obligations.RemovalWatchProbesAndConfirms := by
  intro s l w hpin hw x
  refine ⟨fun time htime hdue => ?_, fun due half hlink hdue => ?_⟩
  · obtain ⟨t, hexec, hframe, hlane⟩ := probeTimerExpires hpin hw htime hdue
    refine ⟨t, hexec, hframe, fun hidle => ?_, fun hbusy => ?_⟩
    · rwa [if_pos hidle] at hlane
    · rwa [if_neg hbusy] at hlane
  · obtain ⟨t, hexec, hframe, hlane⟩ := probeWaitExpires hpin hw hlink hdue
    have htime : t.timeBase = max s.timeBase due := by rw [hframe]
    unfold Lane.missed at hlane
    refine ⟨t, hexec, hframe, fun hfew howed => ?_, fun hfew howed => ?_, fun hlast => ?_⟩
    · rwa [if_neg (by omega), if_neg (by rw [howed]; exact Bool.false_ne_true)] at hlane
    · rw [if_neg (by omega), if_pos howed, ← htime] at hlane
      exact hlane
    · rwa [if_pos hlast] at hlane

end Sys2Proof.Machine
end

section
/-! Alarms, passages and the ends of credits at a lane (06 R128, R129; 07 R138 to R150). -/

namespace Sys2Proof.Machine

open Sys2Proof

/-! ## Alarms (R149) -/

section
variable {s v : State} {l : LaneId} {b : Lane} {a : Alarm}

theorem State.lane_alarm : (v.alarm l a).lane l = ((v.lane l).countAlarm a).sound v.params v.timeBase .alarm :=
  State.lane_updLane_self v l fun x => (x.countAlarm a).sound v.params v.timeBase .alarm

theorem State.lane_alarm_ne {k : LaneId} (hk : k ≠ l) : (v.alarm l a).lane k = v.lane k :=
  State.lane_updLane_ne v (fun x => (x.countAlarm a).sound v.params v.timeBase .alarm) hk

/-- The alarm's update of the block is not yet shown. -/
theorem Lane.rewritten_countAlarm (x : Lane) : (x.countAlarm a).rewritten ≠ [] := by
  cases a <;> exact List.cons_ne_nil _ _

/-- Two lanes show the same alarm counts. -/
def Lane.SameCounts (x y : Lane) : Prop :=
  x.tailgate = y.tailgate ∧ x.intrusion = y.intrusion ∧ x.stuck = y.stuck ∧ x.obstruction = y.obstruction

/-- The lane after an alarm and the step's end. -/
theorem alarmed_conclude {y : Lane} (hlane : v.lane l = b) (hothers : ∀ k, k ≠ l → v.lane k = s.lane k)
    (hmem : v.mem = s.mem) (hregs : v.regs = s.regs) (hparams : v.params = s.params)
    (hcounts : y.SameCounts (b.countAlarm a)) :
    alarmed s (State.conclude s (v.alarm l a)) l b y := by
  have hlanes : (v.alarm l a).lane l = (b.countAlarm a).sound s.params v.timeBase .alarm := by
    rw [State.lane_alarm, hlane, hparams]
  refine ⟨?_, ?_, ?_⟩
  · rw [State.conclude_regs]
    exact congrArg (fun r : Registers => { r with attention := r.attention ||| 0x0004#16 }) hregs
  · have hrewritten : ((v.alarm l a).lane l).rewritten ≠ [] := by
      rw [hlanes]
      exact b.rewritten_countAlarm
    have hstamp : (b.countAlarm a).stamp = b.stamp := by cases a <;> rfl
    rw [State.conclude_stamp_of_rewritten hrewritten, hlanes]
    exact congrArg (· + 1#16) hstamp
  · have htime : (State.conclude s (v.alarm l a)).timeBase = v.timeBase := State.DialogueStep.conclude_timeBase _ _
    have hmade : laneBecomes s (State.conclude s (v.alarm l a)) l
        ((b.countAlarm a).sound s.params v.timeBase .alarm) :=
      laneBecomes_conclude hlanes (fun k hk => (State.lane_alarm_ne hk).trans (hothers k hk)) hmem
    obtain ⟨htailgate, hintrusion, hstuck, hobstruction⟩ := hcounts
    rw [htime, htailgate, hintrusion, hstuck, hobstruction]
    cases a <;> exact hmade

/-- The lane's alarm counts after an alarm. -/
theorem alarmCounts_conclude (hlane : v.lane l = b) :
    ((State.conclude s (v.alarm l a)).lane l).SameCounts (b.countAlarm a) := by
  have hconcluded : (State.conclude s (v.alarm l a)).lane l = _ := State.conclude_concluded s (v.alarm l a) l
  rw [State.lane_alarm, hlane] at hconcluded
  rw [hconcluded]
  exact ⟨rfl, rfl, rfl, rfl⟩

end

/-! ## The oldest credit (R142, R144) -/

section
variable {older newer : List Credit} {c : Credit}

theorem useOldestWaiting_split {now : Int} {far : Bool} (h : ∀ k ∈ older, k.isWaiting = false)
    (hc : c.isWaiting = true) :
    useOldestWaiting now far (older ++ c :: newer) = older ++ c.use now far :: newer := by
  induction older with
  | nil => exact if_pos hc
  | cons k rest ih =>
    have hk := h k List.mem_cons_self
    refine (if_neg (by rw [hk]; exact Bool.false_ne_true)).trans ?_
    exact congrArg (k :: ·) (ih fun j hj => h j (List.mem_cons_of_mem _ hj))

theorem Credit.onTheWay_of_inUse {remaining : Int} (h : c.state = .inUse remaining false) : c.onTheWay = true := by
  rw [Credit.onTheWay, h]
  rfl

theorem markOldestFar_split {remaining : Int} (h : ∀ k ∈ older, k.onTheWay = false)
    (hc : c.state = .inUse remaining false) :
    markOldestFar (older ++ c :: newer) = older ++ { c with state := .inUse remaining true } :: newer := by
  induction older with
  | nil =>
    rw [List.nil_append, markOldestFar, hc]
    rfl
  | cons k rest ih =>
    have hk := h k List.mem_cons_self
    have hkept : markOldestFar (k :: (rest ++ c :: newer)) = k :: markOldestFar (rest ++ c :: newer) := by
      rw [Credit.onTheWay] at hk
      rw [markOldestFar]
      cases hstate : k.state with
      | waiting expiry => rfl
      | inUse r far =>
        rw [hstate] at hk
        cases far with
        | true => rfl
        | false => exact absurd hk Bool.true_eq_false.mp
    rw [List.cons_append, hkept, ih fun j hj => h j (List.mem_cons_of_mem _ hj)]
    rfl

theorem Credit.isWaiting_of_state {expiry : Int} (h : c.state = .waiting expiry) : c.isWaiting = true := by
  rw [Credit.isWaiting, h]

theorem Credit.use_of_waiting {now expiry : Int} {far : Bool} (h : c.state = .waiting expiry) :
    c.use now far = { c with state := .inUse (expiry - now) far } := by
  rw [Credit.use, h]

/-- A credit that goes back to WAITING has 2 s at the least (R145). -/
theorem keptLife (remaining : Int) : max remaining 2000 = if remaining < 2000 then 2000 else remaining := by
  split <;> omega

end

/-! ## The ends of credits and their marks (R128, R129) -/

section
variable {l : LaneId} {kind : RecordKind}

/-- A mark that no credit's end changes. -/
def CreditMark.isOver : CreditMark → Prop
  | .pending _ _ => False
  | _ => True

theorem markAfterEnd_isOver (p : Parameters) (direction : Direction) (time : Int) :
    (markAfterEnd p kind direction time).isOver := by
  unfold markAfterEnd
  split
  · split <;> trivial
  · split <;> trivial
  · trivial

theorem State.markReported_of_isOver {s : State} {c : Credit} {mark : CreditMark} (h : mark.isOver) :
    s.markReported c kind mark = mark := by
  cases mark with
  | pending => exact h.elim
  | none | used | unused => rfl

theorem State.findSighting_endCredit (s : State) (c : Credit) (card : CardNumber) :
    findSighting (s.endCredit l kind c).screening.table card = (findSighting s.screening.table card).map fun e =>
      { e with mark := if card = c.card then s.markReported c kind e.mark else e.mark } := by
  rw [State.endCredit_eq]
  exact findSighting_marked (s.markReported c kind) card

theorem State.endCredits_keep {card : CardNumber} {e : Sighting} (hover : e.mark.isOver) :
    ∀ (cs : List Credit) (s : State), findSighting s.screening.table card = some e →
      findSighting (s.endCredits l kind cs).screening.table card = some e
  | [], _, he => he
  | c :: rest, s, he => by
    refine State.endCredits_keep hover rest _ ((State.findSighting_endCredit s c card).trans ?_)
    rw [he, Option.map_some, State.markReported_of_isOver hover, ite_self]

/-- The mark after the end of the credit for which it is PENDING, the only one of its card. -/
theorem State.endCredits_pending {card : CardNumber} {c : Credit} (hcard : c.card = card) {k : LaneId} :
    ∀ (cs : List Credit) (s : State) (e : Sighting), c ∈ cs → (∀ y ∈ cs, y.card = card → y = c) →
      findSighting s.screening.table card = some e → e.mark = .pending k c.sequence →
      findSighting (s.endCredits l kind cs).screening.table card =
        some { e with mark := markAfterEnd s.params kind c.direction s.instant }
  | [], _, _, hc, _, _, _ => absurd hc List.not_mem_nil
  | y :: rest, s, e, hc, honly, he, hmark => by
    have hnext := (State.findSighting_endCredit (l := l) (kind := kind) s y card).trans (congrArg _ he)
    by_cases hy : y.card = card
    · obtain rfl := honly y List.mem_cons_self hy
      have hended : s.markReported y kind e.mark = markAfterEnd s.params kind y.direction s.instant := by
        rw [hmark]
        exact if_pos rfl
      rw [Option.map_some, if_pos hy.symm, hended] at hnext
      exact State.endCredits_keep (markAfterEnd_isOver _ _ _) rest _ hnext
    · have hrest : c ∈ rest := (List.mem_cons.mp hc).resolve_left fun h => hy (h ▸ hcard)
      rw [Option.map_some, if_neg (Ne.symm hy)] at hnext
      have ih := State.endCredits_pending hcard rest (s.endCredit l kind y) e hrest
        (fun j hj => honly j (List.mem_cons_of_mem _ hj)) hnext hmark
      rw [State.endCredit_eq] at ih
      rw [State.endCredits, State.endCredit_eq]
      exact ih

end

end Sys2Proof.Machine
end

section
/-! The beam groups of a lane (06 R128, R129; 07 R138, R142, R144 to R148). -/

namespace Sys2Proof.Machine

open Sys2Proof

/-! ## What a beam's change may change -/

/-- A step of a lane's passages: the lane, marks, records asked for, and attention. -/
structure State.PassageStep (s u : State) (l : LaneId) : Prop where
  state : u = { s with
    lanes := u.lanes
    screening := { s.screening with table := u.screening.table }
    journal := { s.journal with queue := u.journal.queue, writeDue := u.journal.writeDue }
    regs := u.regs }
  others : ∀ k, k ≠ l → u.lane k = s.lane k
  beams : (u.lane l).beams = (s.lane l).beams ∧ (u.lane l).beamSince = (s.lane l).beamSince

section
variable {s u v : State} {l : LaneId}

theorem State.PassageStep.refl (s : State) (l : LaneId) : s.PassageStep s l := ⟨rfl, fun _ _ => rfl, rfl, rfl⟩

theorem State.PassageStep.trans (h : s.PassageStep u l) (k : u.PassageStep v l) : s.PassageStep v l where
  state := by
    rw [k.state, h.state]
  others j hj := (k.others j hj).trans (h.others j hj)
  beams := ⟨k.beams.1.trans h.beams.1, k.beams.2.trans h.beams.2⟩

theorem State.passageStep_setLane {x : Lane} (hbeams : x.beams = (s.lane l).beams)
    (hsince : x.beamSince = (s.lane l).beamSince) : s.PassageStep (s.setLane l x) l where
  state := rfl
  others _ hk := State.lane_setLane_ne s x hk
  beams := by
    rw [State.lane_setLane_self]
    exact ⟨hbeams, hsince⟩

theorem State.passageStep_alarm (a : Alarm) : s.PassageStep (s.alarm l a) l where
  state := rfl
  others _ hk := State.lane_alarm_ne hk
  beams := by
    rw [State.lane_alarm]
    cases a <;> exact ⟨rfl, rfl⟩

theorem State.passageStep_endCredits (kind : RecordKind) (cs : List Credit) :
    s.PassageStep (s.endCredits l kind cs) l := by
  obtain ⟨table, due, hended, -⟩ := State.endCredits_exists l kind cs s
  rw [hended]
  exact ⟨rfl, fun _ _ => rfl, rfl, rfl⟩

theorem Lane.closingTest_beams (p : Parameters) (tb : Nat) (x : Lane) :
    (x.closingTest p tb).beams = x.beams ∧ (x.closingTest p tb).beamSince = x.beamSince := by
  unfold Lane.closingTest
  split <;> exact ⟨rfl, rfl⟩

theorem State.passageStep_closingTest : s.PassageStep (s.onLane l Lane.closingTest) l :=
  State.passageStep_setLane (Lane.closingTest_beams _ _ _).1 (Lane.closingTest_beams _ _ _).2

theorem State.passageStep_approach : s.PassageStep (s.approach l) l := by
  unfold State.approach
  dsimp only
  split
  · exact State.passageStep_setLane rfl rfl
  · split
    · exact State.passageStep_alarm _
    · exact .refl s l

theorem State.passageStep_farReached : s.PassageStep (s.farReached l) l := by
  unfold State.farReached
  dsimp only
  split
  · exact State.passageStep_alarm _
  · split
    · exact State.passageStep_setLane rfl rfl
    · exact State.passageStep_setLane rfl rfl

theorem State.passageStep_middleBlocked : s.PassageStep (s.middleBlocked l) l := by
  unfold State.middleBlocked
  split
  · exact State.passageStep_alarm _
  · exact State.passageStep_setLane rfl rfl
  · exact .refl s l

theorem State.passageStep_endPassage : s.PassageStep (s.endPassage l) l := by
  unfold State.endPassage
  dsimp only
  split
  · refine .trans (.trans ?_ (State.passageStep_endCredits _ _)) State.passageStep_closingTest
    exact State.passageStep_setLane rfl rfl
  · exact .refl s l

/-! ## The change of a group -/

/-- The state as the group has its new value. -/
def State.beamMoved (s : State) (l : LaneId) (g : BeamGroup) (v : Beam) (now : Nat) : State :=
  State.setLane { s with timeBase := now } l (beamSet (s.lane l) g v now)

/-- What the group's new value does. -/
def State.beamFollowed (w : State) (l : LaneId) (g : BeamGroup) (v : Beam) : State :=
  match v with
  | .blocked =>
    if g = .middle then w.middleBlocked l
    else if (w.lane l).follows then
      if (w.lane l).mode.approach = some g then w.approach l
      else if (w.lane l).mode.farSide = some g then w.farReached l
      else w
    else w
  | .clear => if g = .middle then (w.endPassage l).onLane l Lane.closingTest else w.endPassage l

variable {g : BeamGroup} {b : Beam} {now held : Nat}

theorem State.beamChange_eq :
    State.beamChange { s with timeBase := now } l g b = (s.beamMoved l g b now).beamFollowed l g b := by
  cases b with
  | blocked => rfl
  | clear => rfl

theorem State.passageStep_beamFollowed : s.PassageStep (s.beamFollowed l g b) l := by
  cases b with
  | blocked =>
    unfold State.beamFollowed
    dsimp only
    split
    · exact State.passageStep_middleBlocked
    · split
      · split
        · exact State.passageStep_approach
        · split
          · exact State.passageStep_farReached
          · exact .refl s l
      · exact .refl s l
  | clear =>
    unfold State.beamFollowed
    dsimp only
    split
    · exact State.passageStep_endPassage.trans State.passageStep_closingTest
    · exact State.passageStep_endPassage

theorem State.lane_beamMoved : (s.beamMoved l g b now).lane l = beamSet (s.lane l) g b now :=
  State.lane_setLane_self _ _ _

theorem State.lane_beamMoved_ne {k : LaneId} (hk : k ≠ l) : (s.beamMoved l g b now).lane k = s.lane k :=
  State.lane_setLane_ne _ _ hk

theorem exec_beamEvent (hpin : s.sys.resetPin = false) (hother : (s.lane l).beams.get g ≠ b)
    (h : debounced s l g held now) :
    exec (.beamEvent l g b held) s = .next (State.conclude s ((s.beamMoved l g b now).beamFollowed l g b)) := by
  obtain ⟨hnow, -, hdue, hlong⟩ := h
  rw [hnow] at hlong ⊢
  refine exec_concluded hpin rfl ((if_pos ⟨hother, hlong⟩).trans ?_)
  exact (State.onDue_of_reached _ hdue).trans State.beamChange_eq

/-- The group is not debounced. -/
theorem exec_beamEvent_early (hpin : s.sys.resetPin = false) (hs : s.Settled)
    (h : s.nextTick < (s.lane l).beamSince.get g + 10000 * held ∨
      held < s.debounceAt (max s.timeBase ((s.lane l).beamSince.get g + 10000 * held) - 10000 * held)) :
    exec (.beamEvent l g b held) s = .next s := by
  refine exec_of_lanes hpin hs rfl ?_ rfl rfl rfl rfl
  dsimp only
  split
  next hready =>
    obtain ⟨-, hlong⟩ := hready
    have hlate := h.resolve_right (Nat.not_lt.mpr hlong)
    exact State.onDue_of_not_reached _ hlate
  next => rfl

/-! ## A group that becomes BLOCKED -/

/-- Where a group's change is all that happens. -/
theorem beamAlone (hfollowed : (s.beamMoved l g b now).beamFollowed l g b = s.beamMoved l g b now) :
    let t := State.conclude s ((s.beamMoved l g b now).beamFollowed l g b)
    laneBecomes s t l (beamSet (s.lane l) g b now) ∧ t.regs = s.regs := by
  rw [hfollowed]
  exact ⟨laneBecomes_conclude State.lane_beamMoved (fun k hk => State.lane_beamMoved_ne hk) rfl,
    State.conclude_regs _ _⟩

/-- Where the change changes the lane further. -/
theorem beamLane {x : Lane}
    (hfollowed : (s.beamMoved l g b now).beamFollowed l g b = (s.beamMoved l g b now).setLane l x) :
    let t := State.conclude s ((s.beamMoved l g b now).beamFollowed l g b)
    laneBecomes s t l x ∧ t.regs = s.regs := by
  rw [hfollowed]
  exact ⟨laneBecomes_conclude (State.lane_setLane_self _ _ _)
    (fun k hk => (State.lane_setLane_ne _ _ hk).trans (State.lane_beamMoved_ne hk)) rfl, State.conclude_regs _ _⟩

/-- Where it raises an alarm. -/
theorem beamAlarm {a : Alarm} {y : Lane}
    (hfollowed : (s.beamMoved l g b now).beamFollowed l g b = (s.beamMoved l g b now).alarm l a)
    (hcounts : y.SameCounts ((beamSet (s.lane l) g b now).countAlarm a)) :
    alarmed s (State.conclude s ((s.beamMoved l g b now).beamFollowed l g b)) l (beamSet (s.lane l) g b now) y := by
  rw [hfollowed]
  exact alarmed_conclude State.lane_beamMoved (fun k hk => State.lane_beamMoved_ne hk) rfl rfl rfl hcounts

/-- The INTRUSION count rises. -/
theorem beamIntrusion
    (hfollowed : (s.beamMoved l g b now).beamFollowed l g b = (s.beamMoved l g b now).alarm l .intrusion) :
    let t := State.conclude s ((s.beamMoved l g b now).beamFollowed l g b)
    (t.lane l).intrusion = raised (s.lane l).intrusion ∧
      alarmed s t l (beamSet (s.lane l) g b now) { s.lane l with intrusion := (t.lane l).intrusion } := by
  have hcount : ((State.conclude s ((s.beamMoved l g b now).beamFollowed l g b)).lane l).intrusion =
      raised (s.lane l).intrusion := by
    rw [hfollowed]
    obtain ⟨-, hintrusion, -⟩ := alarmCounts_conclude (s := s) (l := l) (a := .intrusion)
      (State.lane_beamMoved (s := s) (l := l) (g := g) (b := b) (now := now))
    exact hintrusion
  exact ⟨hcount, beamAlarm hfollowed ⟨rfl, hcount, rfl, rfl⟩⟩

/-- The TAILGATE count rises. -/
theorem beamTailgate
    (hfollowed : (s.beamMoved l g b now).beamFollowed l g b = (s.beamMoved l g b now).alarm l .tailgate) :
    let t := State.conclude s ((s.beamMoved l g b now).beamFollowed l g b)
    (t.lane l).tailgate = raised (s.lane l).tailgate ∧
      alarmed s t l (beamSet (s.lane l) g b now) { s.lane l with tailgate := (t.lane l).tailgate } := by
  have hcount : ((State.conclude s ((s.beamMoved l g b now).beamFollowed l g b)).lane l).tailgate =
      raised (s.lane l).tailgate := by
    rw [hfollowed]
    obtain ⟨htailgate, -⟩ := alarmCounts_conclude (s := s) (l := l) (a := .tailgate)
      (State.lane_beamMoved (s := s) (l := l) (g := g) (b := b) (now := now))
    exact htailgate
  exact ⟨hcount, beamAlarm hfollowed ⟨hcount, rfl, rfl, rfl⟩⟩

theorem State.beamFollowed_middle (w : State) : w.beamFollowed l .middle .blocked = w.middleBlocked l := rfl

/-- A group that becomes BLOCKED at a lane which is not in use changes alone. -/
theorem State.beamFollowed_unused {w : State}
    (h : (w.lane l).pc = .out ∨ (w.lane l).pc = .free ∨ (w.lane l).pc = .fault) :
    w.beamFollowed l g .blocked = w := by
  have hfollows : ¬ (w.lane l).follows = true := by
    rcases h with h | h | h <;> simp [Lane.follows, h]
  by_cases hmiddle : g = .middle
  · subst hmiddle
    rw [State.beamFollowed_middle, State.middleBlocked]
    rcases h with h | h | h <;> rw [h]
  · exact (if_neg hmiddle).trans (if_neg hfollows)

/-- The approach side of a lane whose passages are followed. -/
theorem State.beamFollowed_approach {w : State} (hpc : (w.lane l).pc = .opening ∨ (w.lane l).pc = .opened)
    (hmode : (w.lane l).mode = .entry ∨ (w.lane l).mode = .exit) :
    w.beamFollowed l (approachGroup (w.lane l)) .blocked = w.approach l := by
  have hfollows : (w.lane l).follows = true := by
    rcases hpc with hpc | hpc <;> rcases hmode with hmode | hmode <;>
      simp [Lane.follows, Lane.inServiceMode, hpc, hmode]
  have hgroup : approachGroup (w.lane l) ≠ .middle ∧
      (w.lane l).mode.approach = some (approachGroup (w.lane l)) := by
    unfold approachGroup
    rcases hmode with hmode | hmode <;> rw [hmode] <;> exact ⟨by decide, rfl⟩
  obtain ⟨hmiddle, happroach⟩ := hgroup
  exact (if_neg hmiddle).trans ((if_pos hfollows).trans (if_pos happroach))

theorem State.beamFollowed_far {w : State} (hpc : (w.lane l).pc = .opening ∨ (w.lane l).pc = .opened)
    (hmode : (w.lane l).mode = .entry ∨ (w.lane l).mode = .exit) :
    w.beamFollowed l (farGroup (w.lane l)) .blocked = w.farReached l := by
  have hfollows : (w.lane l).follows = true := by
    rcases hpc with hpc | hpc <;> rcases hmode with hmode | hmode <;>
      simp [Lane.follows, Lane.inServiceMode, hpc, hmode]
  have hgroup : farGroup (w.lane l) ≠ .middle ∧ (w.lane l).mode.approach ≠ some (farGroup (w.lane l)) ∧
      (w.lane l).mode.farSide = some (farGroup (w.lane l)) := by
    unfold farGroup
    rcases hmode with hmode | hmode <;> rw [hmode] <;> exact ⟨by decide, by decide, rfl⟩
  obtain ⟨hmiddle, happroach, hfar⟩ := hgroup
  exact (if_neg hmiddle).trans ((if_pos hfollows).trans ((if_neg happroach).trans (if_pos hfar)))

end

end Sys2Proof.Machine
end

section
/-! Passages begin, go on and end (06 R128, R129; 07 R142 to R148). -/

namespace Sys2Proof.Machine

open Sys2Proof

section
variable {w : State} {l : LaneId} {older newer : List Credit} {c : Credit}

theorem any_isWaiting_of_split {expiry : Int} (hcredits : (w.lane l).credits = older ++ c :: newer)
    (hc : c.state = .waiting expiry) : (w.lane l).credits.any Credit.isWaiting = true :=
  List.any_eq_true.mpr ⟨c, hcredits ▸ List.mem_append_right _ List.mem_cons_self, Credit.isWaiting_of_state hc⟩

theorem not_any_of_all {cs : List Credit} {p : Credit → Bool} (h : ∀ k ∈ cs, p k = false) : ¬ cs.any p = true :=
  fun hany => by
    obtain ⟨k, hk, hp⟩ := List.any_eq_true.mp hany
    exact absurd ((h k hk).symm.trans hp) Bool.false_ne_true

/-! ## The approach side (R142, R147) -/

theorem State.approach_used {expiry : Int} (hcredits : (w.lane l).credits = older ++ c :: newer)
    (holder : ∀ k ∈ older, k.isWaiting = false) (hc : c.state = .waiting expiry) :
    w.approach l = w.setLane l (Lane.startPassage w.params w.instant
      { w.lane l with credits := older ++ { c with state := .inUse (expiry - w.instant) false } :: newer }) := by
  refine (if_pos (any_isWaiting_of_split hcredits hc)).trans ?_
  rw [State.updLane, hcredits, useOldestWaiting_split holder (Credit.isWaiting_of_state hc), Credit.use_of_waiting hc]

theorem State.approach_tailgate (hnone : ∀ k ∈ (w.lane l).credits, k.isWaiting = false)
    (hsome : (w.lane l).credits ≠ []) (hmiddle : (w.lane l).beams.middle = .blocked) :
    w.approach l = w.alarm l .tailgate := by
  obtain ⟨k, hk⟩ := List.exists_mem_of_ne_nil _ hsome
  have hused : ((w.lane l).credits.any fun c => !c.isWaiting) = true :=
    List.any_eq_true.mpr ⟨k, hk, by rw [hnone k hk]; rfl⟩
  exact (if_neg (not_any_of_all hnone)).trans (if_pos ⟨hused, hmiddle⟩)

theorem State.approach_nothing (hnone : ∀ k ∈ (w.lane l).credits, k.isWaiting = false)
    (h : (w.lane l).credits = [] ∨ (w.lane l).beams.middle = .clear) : w.approach l = w := by
  refine (if_neg (not_any_of_all hnone)).trans (if_neg fun ⟨hused, hmiddle⟩ => ?_)
  rcases h with h | h
  · rw [h] at hused
    exact absurd hused Bool.false_ne_true
  · exact absurd (h.symm.trans hmiddle) (by decide)

/-! ## The far side (R144, R148) -/

theorem State.farReached_intrusion (h : (w.lane l).passage = none) : w.farReached l = w.alarm l .intrusion := if_pos h

theorem State.farReached_marked {remaining : Int} (hpassage : (w.lane l).passage ≠ none)
    (hcredits : (w.lane l).credits = older ++ c :: newer) (holder : ∀ k ∈ older, k.onTheWay = false)
    (hc : c.state = .inUse remaining false) :
    w.farReached l = w.setLane l
      { w.lane l with credits := older ++ { c with state := .inUse remaining true } :: newer } := by
  have hany : (w.lane l).credits.any Credit.onTheWay = true := List.any_eq_true.mpr
    ⟨c, hcredits ▸ List.mem_append_right _ List.mem_cons_self, Credit.onTheWay_of_inUse hc⟩
  refine (if_neg hpassage).trans ((if_pos hany).trans ?_)
  rw [State.updLane, hcredits, markOldestFar_split holder hc]

theorem State.farReached_used {expiry : Int} (hpassage : (w.lane l).passage ≠ none)
    (hcredits : (w.lane l).credits = older ++ c :: newer) (hnone : ∀ k ∈ (w.lane l).credits, k.onTheWay = false)
    (holder : ∀ k ∈ older, k.isWaiting = false) (hc : c.state = .waiting expiry) :
    w.farReached l = w.setLane l
      { w.lane l with credits := older ++ { c with state := .inUse (expiry - w.instant) true } :: newer } := by
  refine (if_neg hpassage).trans ((if_neg (not_any_of_all hnone)).trans ?_)
  rw [State.updLane, hcredits, useOldestWaiting_split holder (Credit.isWaiting_of_state hc), Credit.use_of_waiting hc]

/-! ## The end of a passage (R145) -/

/-- The credits that a passage leaves: those not at the far side, WAITING again. -/
def Lane.withdrawn (x : Lane) (now : Int) : List Credit :=
  (x.credits.filter fun c => !c.reachedFar).map (Credit.withdraw now)

/-- The lane whose passage has ended, before its closing test. -/
def Lane.passageOver (x : Lane) (now : Int) : Lane := { x with credits := x.withdrawn now, passage := none }

/-- The state as the passage has ended and its credits' records are asked for. -/
def State.passageOver (w : State) (l : LaneId) : State :=
  (w.setLane l ((w.lane l).passageOver w.instant)).endCredits l .passed ((w.lane l).credits.filter Credit.reachedFar)

theorem State.endPassage_eq (hpassage : (w.lane l).passage ≠ none)
    (hclear : (w.lane l).beams = ⟨.clear, .clear, .clear⟩) :
    w.endPassage l = (w.passageOver l).onLane l Lane.closingTest := by
  have hover : (w.lane l).passage.isSome ∧ (w.lane l).beams.allClear = true := by
    rw [hclear]
    exact ⟨Option.isSome_iff_ne_none.mpr hpassage, rfl⟩
  exact if_pos hover

theorem State.lane_passageOver : (w.passageOver l).lane l = (w.lane l).passageOver w.instant := by
  obtain ⟨table, due, hended, -⟩ := State.endCredits_exists l .passed ((w.lane l).credits.filter Credit.reachedFar)
    (w.setLane l ((w.lane l).passageOver w.instant))
  rw [State.passageOver, hended]
  exact State.lane_setLane_self _ _ _

theorem State.passageOver_queue : (w.passageOver l).journal.queue = w.journal.queue ++
    ((w.lane l).credits.filter Credit.reachedFar).map (endedRequest w l .passed) := by
  obtain ⟨table, due, hended, -⟩ := State.endCredits_exists l .passed ((w.lane l).credits.filter Credit.reachedFar)
    (w.setLane l ((w.lane l).passageOver w.instant))
  rw [State.passageOver, hended]
  rfl

theorem State.passageOver_mark (hc : c ∈ (w.lane l).credits) (hfar : c.reachedFar = true) {e : Sighting} {k : LaneId}
    (he : findSighting w.screening.table c.card = some e) (hmark : e.mark = .pending k c.sequence)
    (honly : ∀ y ∈ (w.lane l).credits, y.card = c.card → y = c) :
    findSighting (w.passageOver l).screening.table c.card = some { e with
      mark := if w.params.passbackInterval = 0 then .none else .used c.direction w.instant } :=
  State.endCredits_pending rfl _ _ e (List.mem_filter.mpr ⟨hc, hfar⟩)
    (fun y hy => honly y (List.mem_filter.mp hy).1) he hmark

/-- The closing test of a lane that has nothing left to wait for (R150). -/
theorem Lane.closingTest_closes {x : Lane} (p : Parameters) (tb : Nat) (hpc : x.pc = .opened)
    (hcredits : x.credits = []) (hpassage : x.passage = none) (hmiddle : x.beams.middle = .clear) :
    (x.closingTest p tb).pc = .closing ∧ (x.closingTest p tb).stroking = some .atClosed := by
  have hcloses : x.closingTest p tb = x.startClosing p tb := if_pos ⟨hpc, hcredits, hpassage, hmiddle⟩
  rw [hcloses]
  exact ⟨rfl, rfl⟩

theorem Lane.closingTest_kept (p : Parameters) (tb : Nat) (x : Lane) :
    (x.closingTest p tb).credits = x.credits ∧ (x.closingTest p tb).passage = x.passage := by
  unfold Lane.closingTest
  split <;> exact ⟨rfl, rfl⟩

/-- A lane that closes passes the closing test unchanged. -/
theorem Lane.closingTest_of_closing {x : Lane} (p : Parameters) (tb : Nat) (h : x.pc = .closing) :
    x.closingTest p tb = x := if_neg fun ⟨hpc, _⟩ => absurd (h.symm.trans hpc) (by decide)

/-- The closing test once is the closing test twice. -/
theorem Lane.closingTest_again (p : Parameters) (tb : Nat) (x : Lane) :
    (x.closingTest p tb).closingTest p tb = x.closingTest p tb := by
  by_cases h : x.pc = .opened ∧ x.credits = [] ∧ x.passage = none ∧ x.beams.middle = .clear
  · have hcloses : x.closingTest p tb = x.startClosing p tb := if_pos h
    rw [hcloses]
    exact Lane.closingTest_of_closing p tb rfl
  · have hstays : x.closingTest p tb = x := if_neg h
    rw [hstays, hstays]

/-- A group that becomes CLEAR ends the passage when all are. -/
theorem State.beamFollowed_clear {g : BeamGroup} (hpassage : (w.lane l).passage ≠ none)
    (hclear : (w.lane l).beams = ⟨.clear, .clear, .clear⟩) :
    w.beamFollowed l g .clear = (w.passageOver l).onLane l Lane.closingTest := by
  by_cases hmiddle : g = .middle
  · refine (if_pos hmiddle).trans ?_
    rw [State.endPassage_eq hpassage hclear, State.onLane_onLane]
    exact congrArg ((w.passageOver l).onLane l) (funext fun p => funext fun tb => funext fun x =>
      Lane.closingTest_again p tb x)
  · exact (if_neg hmiddle).trans (State.endPassage_eq hpassage hclear)

end

end Sys2Proof.Machine
end

section
/-! Beams follow the passengers (07 R138, R142, R144 to R148). -/

namespace Sys2Proof.Machine

open Sys2Proof

section
variable {s : State} {l : LaneId} {g : BeamGroup} {b : Beam} {now held : Nat}

/-- What a group's change leaves as it was. -/
theorem beamFrame {t : State} (ht : t = State.conclude s ((s.beamMoved l g b now).beamFollowed l g b)) :
    t = { s with
        timeBase := now
        lanes := t.lanes
        screening := { s.screening with table := t.screening.table }
        journal := { s.journal with queue := t.journal.queue, writeDue := t.journal.writeDue }
        regs := t.regs
        mem := t.mem } ∧
      s.OtherLanesKept t l ∧ s.MemoryKept t noByte ∧ (t.lane l).beams = (s.lane l).beams.set g b ∧
      (t.lane l).beamSince = (s.lane l).beamSince.set g now := by
  subst ht
  obtain ⟨hstate, hothers, hbeams, hsince⟩ :=
    State.passageStep_beamFollowed (s := s.beamMoved l g b now) (l := l) (g := g) (b := b)
  rw [State.lane_beamMoved] at hbeams hsince
  have hkept : ∀ k, k ≠ l → ((s.beamMoved l g b now).beamFollowed l g b).lane k = s.lane k := fun k hk =>
    (hothers k hk).trans (State.lane_beamMoved_ne hk)
  obtain ⟨lanes, m, hconclude, -⟩ := State.conclude_exists s ((s.beamMoved l g b now).beamFollowed l g b)
  have hconcluded : (State.conclude s ((s.beamMoved l g b now).beamFollowed l g b)).lane l = _ :=
    State.conclude_concluded s _ l
  refine ⟨?_, State.OtherLanesKept.conclude hkept, State.MemoryKept.conclude (.of_mem _ ?_), ?_, ?_⟩
  · rw [hconclude, hstate]
    rfl
  · rw [hstate]
    rfl
  · exact (congrArg Lane.beams hconcluded :).trans hbeams
  · exact (congrArg Lane.beamSince hconcluded :).trans hsince

theorem beamGet_ne_blocked {x : Beams} {g : BeamGroup} (h : x.get g = .clear) : x.get g ≠ .blocked := by
  rw [h]
  decide

theorem approachGroup_middle (x : Lane) (v : Beam) (now : Nat) :
    (beamSet x (approachGroup x) v now).beams.middle = x.beams.middle := by
  unfold approachGroup
  split <;> rfl

/-- What the middle group does that becomes BLOCKED at a CLOSING lane (R150). -/
theorem beamReopens (hpc : (s.lane l).pc = .closing) :
    let t := State.conclude s ((s.beamMoved l .middle .blocked now).beamFollowed l .middle .blocked)
    (t.lane l).pc = .opening ∧ (t.lane l).stroking = some .atOpen := by
  intro t
  have hmoved : ((s.beamMoved l .middle .blocked now).lane l).pc = .closing := by
    rw [State.lane_beamMoved]
    exact hpc
  have hreverses : (s.beamMoved l .middle .blocked now).beamFollowed l .middle .blocked =
      (s.beamMoved l .middle .blocked now).onLane l Lane.startOpening := by
    rw [State.beamFollowed_middle, State.middleBlocked, hmoved]
  have hconcluded : t.lane l = _ := State.conclude_concluded s _ l
  rw [hreverses, State.onLane, State.lane_updLane_self] at hconcluded
  rw [hconcluded]
  exact ⟨rfl, rfl⟩

/-- What a group does that becomes BLOCKED anywhere else than where passengers are followed. -/
theorem beamBlocked :
    let x := s.lane l
    let t := State.conclude s ((s.beamMoved l g b now).beamFollowed l g b)
    (x.pc = .out ∨ x.pc = .free ∨ x.pc = .fault → b = .blocked →
      laneBecomes s t l (beamSet x g b now) ∧ t.regs = s.regs) ∧
    (b = .blocked → g = .middle → x.pc = .closed → (t.lane l).intrusion = raised x.intrusion ∧
      alarmed s t l (beamSet x g b now) { x with intrusion := (t.lane l).intrusion }) ∧
    (b = .blocked → g = .middle → x.pc = .closing →
      (t.lane l).pc = .opening ∧ (t.lane l).stroking = some .atOpen) := by
  intro x t
  refine ⟨fun hpc hb => ?_, fun hb hg hpc => ?_, fun hb hg hpc => ?_⟩
  · subst hb
    refine beamAlone (State.beamFollowed_unused ?_)
    rw [State.lane_beamMoved]
    exact hpc
  · subst hb hg
    refine beamIntrusion ?_
    have hmoved : ((s.beamMoved l .middle .blocked now).lane l).pc = .closed := by
      rw [State.lane_beamMoved]
      exact hpc
    rw [State.beamFollowed_middle, State.middleBlocked, hmoved]
  · subst hb hg
    exact beamReopens hpc

/-- The approach side of a lane whose passages are followed (R142, R147). -/
theorem approachFollowed (hpc : (s.lane l).pc = .opening ∨ (s.lane l).pc = .opened)
    (hmode : (s.lane l).mode = .entry ∨ (s.lane l).mode = .exit) :
    (s.beamMoved l (approachGroup (s.lane l)) .blocked now).beamFollowed l (approachGroup (s.lane l)) .blocked =
      (s.beamMoved l (approachGroup (s.lane l)) .blocked now).approach l := by
  have hlane := State.lane_beamMoved (s := s) (l := l) (g := approachGroup (s.lane l)) (b := .blocked) (now := now)
  have hfollowed := State.beamFollowed_approach (w := s.beamMoved l (approachGroup (s.lane l)) .blocked now) (l := l)
    (by rw [hlane]; exact hpc) (by rw [hlane]; exact hmode)
  rw [hlane] at hfollowed
  exact hfollowed

theorem farFollowed (hpc : (s.lane l).pc = .opening ∨ (s.lane l).pc = .opened)
    (hmode : (s.lane l).mode = .entry ∨ (s.lane l).mode = .exit) :
    (s.beamMoved l (farGroup (s.lane l)) .blocked now).beamFollowed l (farGroup (s.lane l)) .blocked =
      (s.beamMoved l (farGroup (s.lane l)) .blocked now).farReached l := by
  have hlane := State.lane_beamMoved (s := s) (l := l) (g := farGroup (s.lane l)) (b := .blocked) (now := now)
  have hfollowed := State.beamFollowed_far (w := s.beamMoved l (farGroup (s.lane l)) .blocked now) (l := l)
    (by rw [hlane]; exact hpc) (by rw [hlane]; exact hmode)
  rw [hlane] at hfollowed
  exact hfollowed

theorem State.farReached_regs {w : State} (h : (w.lane l).passage ≠ none) : (w.farReached l).regs = w.regs := by
  refine (congrArg State.regs (if_neg h)).trans ?_
  split <;> rfl

/-- A credit that a passage leaves WAITING again has 2 s at the least (R145). -/
theorem Credit.withdraw_inUse {c : Credit} {time remaining : Int} {far : Bool} (h : c.state = .inUse remaining far) :
    c.withdraw time =
      { c with state := .waiting (time + (if remaining < 2000 then 2000 else remaining)) } := by
  rw [Credit.withdraw, h, ← keptLife]

theorem Credit.withdraw_waiting {c : Credit} {time expiry : Int} (h : c.state = .waiting expiry) :
    c.withdraw time = c := by
  rw [Credit.withdraw, h]

theorem passageEnds (hpassage : (s.lane l).passage ≠ none)
    (hall : (s.lane l).beams.set g .clear = ⟨.clear, .clear, .clear⟩) :
    let t := State.conclude s ((s.beamMoved l g .clear now).beamFollowed l g .clear)
    let x := s.lane l
    (t.lane l).passage = none ∧ (t.lane l).credits = x.withdrawn s.instant ∧
      t.journal.queue = s.journal.queue ++ (x.credits.filter Credit.reachedFar).map (endedRequest s l .passed) ∧
      (∀ c ∈ x.credits, c.reachedFar = true → ∀ e k, findSighting s.screening.table c.card = some e →
        e.mark = .pending k c.sequence → (∀ y ∈ x.credits, y.card = c.card → y = c) →
        findSighting t.screening.table c.card = some { e with
          mark := if s.params.passbackInterval = 0 then .none else .used c.direction s.instant }) ∧
      (x.pc = .opened → (t.lane l).credits = [] → (t.lane l).pc = .closing ∧ (t.lane l).stroking = some .atClosed) := by
  intro t x
  obtain ⟨w, hw⟩ : ∃ w, w = s.beamMoved l g .clear now := ⟨_, rfl⟩
  have hlane : w.lane l = beamSet x g .clear now := by
    rw [hw]
    exact State.lane_beamMoved
  have hfollowed : (s.beamMoved l g .clear now).beamFollowed l g .clear =
      (w.passageOver l).onLane l Lane.closingTest := by
    rw [← hw]
    exact State.beamFollowed_clear (by rw [hlane]; exact hpassage) (by rw [hlane]; exact hall)
  have hover : (w.passageOver l).lane l = (beamSet x g .clear now).passageOver s.instant := by
    rw [State.lane_passageOver, hlane, hw]
    rfl
  have hconcluded : t.lane l = _ := State.conclude_concluded s _ l
  rw [hfollowed, State.onLane, State.lane_updLane_self, hover] at hconcluded
  obtain ⟨hcredits, hnone⟩ := Lane.closingTest_kept (w.passageOver l).params (w.passageOver l).timeBase
    ((beamSet x g .clear now).passageOver s.instant)
  have htcredits : (t.lane l).credits = x.withdrawn s.instant := (congrArg Lane.credits hconcluded :).trans hcredits
  refine ⟨(congrArg Lane.passage hconcluded :).trans hnone, htcredits, ?_,
    fun c hc hfar e k he hmark honly => ?_, fun hpc hempty => ?_⟩
  · have hqueue := State.passageOver_queue (w := w) (l := l)
    rw [State.conclude_journal, hfollowed]
    rw [hlane, hw] at hqueue
    exact hw ▸ hqueue
  · have hmarked := State.passageOver_mark (w := w) (l := l) (c := c) (by rw [hlane]; exact hc) hfar
      (by rw [hw]; exact he) hmark (by rw [hlane]; exact honly)
    rw [State.conclude_screening, hfollowed]
    rw [hw] at hmarked
    exact hw ▸ hmarked
  · have hcloses := Lane.closingTest_closes (x := (beamSet x g .clear now).passageOver s.instant)
      (w.passageOver l).params (w.passageOver l).timeBase hpc (htcredits.symm.trans hempty) rfl
        (congrArg PerGroup.middle hall)
    rw [hconcluded]
    exact hcloses

end

/-- Settles O51. -/
theorem beamsFollowThePassengers : Obligations.BeamsFollowThePassengers := by
  intro s l held now hpin x
  refine ⟨fun g v hs h => exec_beamEvent_early hpin hs h, fun g v hother h => ?_, fun hpc hmode =>
    ⟨fun hclear h => ?_, fun hclear h => ?_, fun g hpassage hall hblocked h => ?_⟩⟩
  · obtain ⟨hframe, hothers, hmemory, hbeams, hsince⟩ := beamFrame (s := s) (l := l) (g := g) (b := v) (now := now) rfl
    exact ⟨_, exec_beamEvent hpin hother h, hframe, hothers, hmemory, hbeams, hsince, beamBlocked⟩
  · have hfollowed := approachFollowed (now := now) hpc hmode
    have hlane := State.lane_beamMoved (s := s) (l := l) (g := approachGroup x) (b := .blocked) (now := now)
    refine ⟨_, exec_beamEvent hpin (beamGet_ne_blocked hclear) h, fun older c newer expiry hcredits holder hc => ?_,
      fun hnone hsome hmiddle => ?_, fun hnone hquiet => ?_⟩
    · have hcredits' : ((s.beamMoved l (approachGroup x) .blocked now).lane l).credits = older ++ c :: newer := by
        rw [hlane]
        exact hcredits
      obtain ⟨hbecomes, hregs⟩ := beamLane (hfollowed.trans (State.approach_used hcredits' holder hc))
      rw [hlane] at hbecomes
      exact ⟨hregs, hbecomes⟩
    · refine beamTailgate (hfollowed.trans (State.approach_tailgate ?_ ?_ ?_)) <;> rw [hlane]
      · exact hnone
      · exact hsome
      · exact (approachGroup_middle x _ _).trans hmiddle
    · obtain ⟨hbecomes, hregs⟩ := beamAlone (hfollowed.trans (State.approach_nothing (by rw [hlane]; exact hnone) (by
        rw [hlane, approachGroup_middle]
        exact hquiet)))
      exact ⟨hregs, hbecomes⟩
  · have hfollowed := farFollowed (now := now) hpc hmode
    have hlane := State.lane_beamMoved (s := s) (l := l) (g := farGroup x) (b := .blocked) (now := now)
    refine ⟨_, exec_beamEvent hpin (beamGet_ne_blocked hclear) h, fun hnone => ?_, fun hpassage => ?_⟩
    · exact beamIntrusion (hfollowed.trans (State.farReached_intrusion (by rw [hlane]; exact hnone)))
    · have hpassage' : ((s.beamMoved l (farGroup x) .blocked now).lane l).passage ≠ none := by
        rw [hlane]
        exact hpassage
      refine ⟨?_, fun older c newer remaining hcredits holder hc => ?_,
        fun older c newer expiry hcredits hnone holder hc => ?_⟩
      · rw [State.conclude_regs, hfollowed]
        exact State.farReached_regs hpassage'
      · obtain ⟨hbecomes, -⟩ := beamLane (hfollowed.trans (State.farReached_marked hpassage'
          (by rw [hlane]; exact hcredits) holder hc))
        rw [hlane] at hbecomes
        exact hbecomes
      · obtain ⟨hbecomes, -⟩ := beamLane (hfollowed.trans (State.farReached_used hpassage'
          (by rw [hlane]; exact hcredits) (by rw [hlane]; exact hnone) holder hc))
        rw [hlane] at hbecomes
        exact hbecomes
  · obtain ⟨hover, hcredits, hqueue, hmarks, hcloses⟩ := passageEnds (now := now) hpassage hall
    refine ⟨_, exec_beamEvent hpin (by rw [hblocked]; decide) h, hover,
      hcredits.trans (List.map_congr_left fun c _ => ?_), hqueue, hmarks, hcloses⟩
    cases hstate : c.state with
    | waiting expiry => exact Credit.withdraw_waiting hstate
    | inUse remaining far => exact Credit.withdraw_inUse hstate

end Sys2Proof.Machine
end

section
/-! The lane's timers run out, and what its indicator and its sounder show (07 R140, R141, R146, R149, R160 to R162). -/

namespace Sys2Proof.Machine

open Sys2Proof

section
variable {s : State} {l : LaneId}

/-- A step of what a lane's block does not show: its drive, limits, displays and tones. -/
theorem exec_unshownLane {c : Instr} {f : State → State} {x : Lane} {tb : Nat} (hpin : s.sys.resetPin = false)
    (hs : s.Settled) (hrow : exec c s = .next (s.event f)) (hf : f s = State.setLane { s with timeBase := tb } l x)
    (hx : x = { s.lane l with
      drive := x.drive, openLimit := x.openLimit, closedLimit := x.closedLimit, timedDisplay := x.timedDisplay
      tone := x.tone }) :
    exec c s = .next (State.setLane { s with timeBase := tb } l x) := by
  have hother : ∀ k, k ≠ l → State.lane (State.setLane { s with timeBase := tb } l x) k = s.lane k := fun k hk =>
    State.lane_setLane_ne _ _ hk
  have hself : State.lane (State.setLane { s with timeBase := tb } l x) l = x := State.lane_setLane_self _ _ _
  refine exec_of_quiet hpin hs hrow hf ⟨fun k => ?_, fun k => ?_, fun k => ?_, rfl⟩ rfl <;> by_cases hk : k = l
  · rw [hk, hself, hx]
    rfl
  · rw [hother k hk]
    rfl
  · rw [hk, hself, hx]
  · rw [hother k hk]
  · rw [hk, hself, hx]
  · rw [hother k hk]

theorem displayEnds {display : TimedDisplay} (hpin : s.sys.resetPin = false) (hs : s.Settled)
    (hdisplay : (s.lane l).timedDisplay = some display) (hdue : display.due ≤ s.nextTick) :
    exec (.timedDisplayEnd l) s = .next (State.setLane { s with timeBase := max s.timeBase display.due } l
      { s.lane l with timedDisplay := none }) := by
  refine exec_unshownLane hpin hs rfl ?_ rfl
  rw [hdisplay]
  exact State.onDue_of_reached _ hdue

theorem toneEnds {sounding : Sounding} (hpin : s.sys.resetPin = false) (hs : s.Settled)
    (htone : (s.lane l).tone = some sounding) (hdue : sounding.due ≤ s.nextTick) :
    exec (.toneEnd l) s = .next (State.setLane { s with timeBase := max s.timeBase sounding.due } l
      { s.lane l with tone := none }) := by
  refine exec_unshownLane hpin hs rfl ?_ rfl
  rw [htone]
  exact State.onDue_of_reached _ hdue

/-! ## The STUCK timer (R146) -/

theorem stuckTimerExpires {due : Int} (hpin : s.sys.resetPin = false) (hpassage : (s.lane l).passage = some ⟨some due⟩)
    (hdue : due ≤ s.instant) : let x := s.lane l
    ∃ t, exec (.stuckTimerExpiry l) s = .next t ∧ t = { s with lanes := t.lanes, regs := t.regs, mem := t.mem } ∧
      (t.lane l).stuck = raised x.stuck ∧
      alarmed s t l { x with passage := some ⟨none⟩ } { x with stuck := (t.lane l).stuck } := by
  intro x
  have hexec : exec (.stuckTimerExpiry l) s =
      .next (State.conclude s ((s.setLane l { x with passage := some ⟨none⟩ }).alarm l .stuck)) := by
    refine exec_concluded hpin rfl ?_
    rw [hpassage]
    exact if_pos hdue
  obtain ⟨lanes, m, hconclude, -⟩ :=
    State.conclude_exists s ((s.setLane l { x with passage := some ⟨none⟩ }).alarm l .stuck)
  have hlane := State.lane_setLane_self s l { x with passage := some ⟨none⟩ }
  obtain ⟨-, -, hstuck, -⟩ := alarmCounts_conclude (s := s) (a := .stuck) hlane
  refine ⟨_, hexec, ?_, hstuck, alarmed_conclude hlane (fun k hk => State.lane_setLane_ne _ _ hk) rfl rfl rfl
    ⟨rfl, rfl, hstuck, rfl⟩⟩
  rw [hconclude]
  rfl

/-! ## The expiry of a credit (R140) -/

variable {older newer : List Credit} {c : Credit} {expiry : Int}

theorem find?_expired (hc : c.state = .waiting expiry) {time : Int} (hdue : expiry ≤ time)
    (holder : ∀ k ∈ older, k.sequence ≠ c.sequence) :
    (older ++ c :: newer).find? (Credit.expired time c.sequence) = some c := by
  have hnone : ∀ k ∈ older, ¬ Credit.expired time c.sequence k = true := fun k hk hexpired => by
    unfold Credit.expired at hexpired
    split at hexpired
    · exact holder k hk (of_decide_eq_true (Bool.and_eq_true_iff.mp hexpired).1)
    · exact Bool.false_ne_true hexpired
  have hfirst : Credit.expired time c.sequence c = true := by
    unfold Credit.expired
    rw [hc]
    simp [hdue]
  rw [List.find?_append, List.find?_eq_none.mpr hnone, List.find?_cons_of_pos hfirst]
  rfl

theorem erase_split (holder : ∀ k ∈ older, k.sequence ≠ c.sequence) :
    (older ++ c :: newer).erase c = older ++ newer := by
  rw [List.erase_append_right _ fun hc => holder c hc rfl, List.erase_cons_head]

/-- The state as the credit has ended LAPSED, before the closing test. -/
def State.creditLapsed (s : State) (l : LaneId) (cs : List Credit) (c : Credit) : State :=
  State.endCredit (s.setLane l { s.lane l with credits := cs }) l .lapsed c

theorem exec_creditExpiry (hpin : s.sys.resetPin = false) (hcredits : (s.lane l).credits = older ++ c :: newer)
    (hc : c.state = .waiting expiry) (hdue : expiry ≤ s.instant) (holder : ∀ k ∈ older, k.sequence ≠ c.sequence) :
    exec (.creditExpiry l c.sequence) s =
      .next (State.conclude s ((s.creditLapsed l (older ++ newer) c).onLane l Lane.closingTest)) := by
  refine exec_concluded hpin rfl ?_
  rw [hcredits, find?_expired hc hdue holder]
  dsimp only
  rw [State.updLane, hcredits, erase_split holder]
  rfl

theorem State.lane_creditLapsed (cs : List Credit) :
    (s.creditLapsed l cs c).lane l = { s.lane l with credits := cs } := by
  rw [State.creditLapsed, State.endCredit_eq]
  exact State.lane_setLane_self _ _ _

theorem State.passageStep_creditLapsed (cs : List Credit) : s.PassageStep (s.creditLapsed l cs c) l :=
  (State.passageStep_setLane (x := { s.lane l with credits := cs }) rfl rfl).trans
    (State.passageStep_endCredits .lapsed [c])

theorem creditExpires (hpin : s.sys.resetPin = false) (hcredits : (s.lane l).credits = older ++ c :: newer)
    (hc : c.state = .waiting expiry) (hdue : expiry ≤ s.instant) (holder : ∀ k ∈ older, k.sequence ≠ c.sequence) :
    let x := s.lane l
    ∃ t, exec (.creditExpiry l c.sequence) s = .next t ∧
      t = { s with
        lanes := t.lanes
        screening := { s.screening with table := t.screening.table }
        journal := { s.journal with queue := t.journal.queue, writeDue := t.journal.writeDue }
        mem := t.mem } ∧
      s.OtherLanesKept t l ∧ s.MemoryKept t noByte ∧ (t.lane l).credits = older ++ newer ∧
      t.journal.queue = s.journal.queue ++
        [⟨Record.blank .lapsed l c.direction .none c.card s.now, .credit, .nobody⟩] ∧
      (∀ e k, findSighting s.screening.table c.card = some e → e.mark = .pending k c.sequence →
        findSighting t.screening.table c.card = some { e with
          mark := if s.params.regrantGrace = 0 then .none
            else .unused c.direction (s.instant + 1000 * s.params.regrantGrace) }) ∧
      (x.pc = .opened → older ++ newer = [] → x.passage = none → x.beams.middle = .clear →
        (t.lane l).pc = .closing ∧ (t.lane l).stroking = some .atClosed) := by
  intro x
  obtain ⟨u, hu⟩ : ∃ u, u = (s.creditLapsed l (older ++ newer) c).onLane l Lane.closingTest := ⟨_, rfl⟩
  have hexec := exec_creditExpiry hpin hcredits hc hdue holder
  rw [← hu] at hexec
  obtain ⟨hstate, hothers, -⟩ := (State.passageStep_creditLapsed (s := s) (l := l) (c := c) (older ++ newer)).trans
    State.passageStep_closingTest
  rw [← hu] at hstate hothers
  have hregs : u.regs = s.regs := by
    rw [hu, State.creditLapsed, State.endCredit_eq]
    rfl
  have hlane : u.lane l = Lane.closingTest s.params s.timeBase { x with credits := older ++ newer } := by
    rw [hu, State.onLane, State.lane_updLane_self, State.lane_creditLapsed, State.creditLapsed, State.endCredit_eq]
    rfl
  have hconcluded : (State.conclude s u).lane l = _ := State.conclude_concluded s u l
  rw [hlane] at hconcluded
  obtain ⟨lanes, m, hconclude, -⟩ := State.conclude_exists s u
  refine ⟨_, hexec, ?_, State.OtherLanesKept.conclude hothers, State.MemoryKept.conclude (.of_mem _ ?_), ?_, ?_,
    fun e k he hmark => ?_, fun hpc hempty hpassage hmiddle => ?_⟩
  · rw [hconclude, hstate, hregs]
  · rw [hstate]
  · exact (congrArg Lane.credits hconcluded :).trans (Lane.closingTest_kept _ _ _).1
  · rw [State.conclude_journal, hu, State.creditLapsed, State.endCredit_eq]
    rfl
  · rw [State.conclude_screening, hu]
    exact State.endCredits_pending rfl [c] (s.setLane l { s.lane l with credits := older ++ newer }) e
      (List.mem_singleton_self c) (fun y hy _ => List.mem_singleton.mp hy) he hmark
  · rw [hconcluded]
    exact Lane.closingTest_closes _ _ hpc hempty hpassage hmiddle

end

/-! ## The indicator (R160) -/

section
variable {x : Lane}

theorem any_isWaiting_iff {cs : List Credit} :
    cs.any Credit.isWaiting = true ↔ ∃ c ∈ cs, ∃ expiry, c.state = .waiting expiry := by
  refine List.any_eq_true.trans ⟨fun ⟨c, hc, h⟩ => ⟨c, hc, ?_⟩, fun ⟨c, hc, expiry, h⟩ =>
    ⟨c, hc, Credit.isWaiting_of_state h⟩⟩
  unfold Credit.isWaiting at h
  split at h
  next expiry hstate => exact ⟨expiry, hstate⟩
  next => exact absurd h Bool.false_ne_true

theorem Lane.indicator_shut (h : x.mode = .out ∨ x.pc = .fault) : x.indicator = .cross := if_pos h

theorem Lane.indicator_free (h : ¬ (x.mode = .out ∨ x.pc = .fault)) (hpc : x.pc = .free) : x.indicator = .arrow :=
  (if_neg h).trans (if_pos hpc)

theorem Lane.indicator_timed {display : TimedDisplay} (h : ¬ (x.mode = .out ∨ x.pc = .fault)) (hpc : x.pc ≠ .free)
    (hdisplay : x.timedDisplay = some display) : x.indicator = display.symbol := by
  rw [Lane.indicator, if_neg h, if_neg hpc, hdisplay]

theorem Lane.indicator_untimed (h : ¬ (x.mode = .out ∨ x.pc = .fault)) (hpc : x.pc ≠ .free)
    (hnone : x.timedDisplay = none) : x.indicator =
      if x.credits.any Credit.isWaiting then .arrow
      else if x.inProgress = true ∨ x.waitRequest = true then .wait else .dark := by
  rw [Lane.indicator, if_neg h, if_neg hpc, hnone]
  dsimp only
  by_cases hprogress : x.inProgress = true
  · rw [if_pos hprogress, if_pos (Or.inl hprogress)]
  · have hor : (x.inProgress = true ∨ x.waitRequest = true) ↔ x.waitRequest = true := or_iff_right hprogress
    rw [if_neg hprogress]
    simp only [hor]

end

/-! ## The sounder (R162) -/

section
variable {pitch start now : Nat}

theorem Sounding.sounds_iff (q : Sounding) :
    q.sounds now = true ↔ ∃ p ∈ q.tone.spans, 10000 * p.1 ≤ q.elapsed now ∧ q.elapsed now < 10000 * p.2 := by
  unfold Sounding.sounds
  rw [List.any_eq_true]
  refine exists_congr fun p => and_congr_right fun _ => ?_
  rw [Bool.and_eq_true, decide_eq_true_iff, decide_eq_true_iff]
  rfl

/-- The time since the tone began. -/
theorem Sounding.elapsed_since {tone : Tone} (length : Nat) (hlength : msec tone.length = length) :
    Sounding.elapsed ⟨tone, pitch, start + length⟩ now = now - start := by
  rw [Sounding.elapsed]
  dsimp only
  rw [hlength]
  exact Nat.add_sub_add_right now length start

theorem Sounding.sounds_accept :
    Sounding.sounds ⟨.accept, pitch, start + 1500000⟩ now = decide (now - start < 1500000) := by
  refine Bool.eq_iff_iff.mpr ?_
  rw [Sounding.sounds_iff, Sounding.elapsed_since 1500000 rfl, decide_eq_true_iff]
  simp [Tone.spans]

theorem Sounding.sounds_alarm :
    Sounding.sounds ⟨.alarm, pitch, start + 10000000⟩ now = decide (now - start < 10000000) := by
  refine Bool.eq_iff_iff.mpr ?_
  rw [Sounding.sounds_iff, Sounding.elapsed_since 10000000 rfl, decide_eq_true_iff]
  simp [Tone.spans]

/-- The three parts of REFUSE are the even fifths of its 400 ms. -/
theorem refuseParts (e : Nat) : (e < 800000 ∨ (1600000 ≤ e ∧ e < 2400000) ∨ (3200000 ≤ e ∧ e < 4000000)) ↔
    e < 4000000 ∧ e / 800000 % 2 = 0 := by omega

theorem Sounding.sounds_refuse : Sounding.sounds ⟨.refuse, pitch, start + 4000000⟩ now =
    decide (now - start < 4000000 ∧ (now - start) / 800000 % 2 = 0) := by
  refine Bool.eq_iff_iff.mpr ?_
  rw [Sounding.sounds_iff, Sounding.elapsed_since 4000000 rfl, decide_eq_true_iff, ← refuseParts]
  simp [Tone.spans]

end

/-- Settles O52. -/
theorem laneTimersRunOut : Obligations.LaneTimersRunOut := by
  refine ⟨fun s l hpin => ⟨fun older c newer expiry hcredits hc hdue holder _ =>
      creditExpires hpin hcredits hc hdue holder, fun due => stuckTimerExpires hpin,
      fun display hs => displayEnds hpin hs, fun sounding hs => toneEnds hpin hs⟩,
    fun x => ⟨Lane.indicator_shut, Lane.indicator_free, fun hopen hpc =>
      ⟨fun display => Lane.indicator_timed hopen hpc, fun hnone hwaiting => ?_, fun hnone hwaiting => ?_⟩⟩,
    fun pitch start now _ => ⟨Sounding.sounds_accept, Sounding.sounds_alarm, Sounding.sounds_refuse⟩⟩
  · rw [Lane.indicator_untimed hopen hpc hnone, if_pos (any_isWaiting_iff.mpr hwaiting)]
  · rw [Lane.indicator_untimed hopen hpc hnone, if_neg fun h => hwaiting (any_isWaiting_iff.mp h)]
    refine ⟨fun h => if_pos h, fun hprogress hrequest => if_neg ?_⟩
    rw [hprogress, hrequest]
    decide

end Sys2Proof.Machine
end

section
/-! Strokes and their ends (03 R63; 07 R137, R149, R151 to R154). -/

namespace Sys2Proof.Machine

open Sys2Proof

section
variable {s : State} {l : LaneId}

/-! ## Drive levels and limits (R151, R152) -/

theorem boostEnds {toward : Limit} {due timeout brakeMs : Nat} (hpin : s.sys.resetPin = false) (hs : s.Settled)
    (hdrive : (s.lane l).drive = .stroke toward (some due) timeout brakeMs) (hdue : due ≤ s.nextTick) :
    exec (.boostEnd l) s = .next (State.setLane { s with timeBase := max s.timeBase due } l
      { s.lane l with drive := .stroke toward none timeout brakeMs }) := by
  refine exec_unshownLane hpin hs rfl ?_ rfl
  rw [hdrive]
  exact State.onDue_of_reached _ hdue

theorem brakeEnds {limit : Limit} {due : Nat} (hpin : s.sys.resetPin = false) (hs : s.Settled)
    (hdrive : (s.lane l).drive = .brake limit due) (hdue : due ≤ s.nextTick) :
    exec (.brakeEnd l) s = .next (State.setLane { s with timeBase := max s.timeBase due } l
      { s.lane l with drive := .hold limit }) := by
  refine exec_unshownLane hpin hs rfl ?_ rfl
  rw [hdrive]
  exact State.onDue_of_reached _ hdue

theorem Lane.setLimit_drive (limit : Limit) (active : Bool) (x : Lane) : (x.setLimit limit active).drive = x.drive := by
  cases limit <;> rfl

theorem limitTaken {limit : Limit} {active : Bool} (hpin : s.sys.resetPin = false) (hs : s.Settled)
    (h : active = false ∨ (s.lane l).stroking ≠ some limit) :
    exec (.limitSwitchEvent l limit active) s = .next (s.setLane l ((s.lane l).setLimit limit active)) := by
  refine exec_unshownLane (tb := s.timeBase) hpin hs rfl ?_ (by cases limit <;> rfl)
  dsimp only
  rw [State.lane_updLane_self, Lane.setLimit_drive]
  cases hdrive : (s.lane l).drive with
  | stroke toward boost timeout brakeMs =>
    refine if_neg fun ⟨hactive, htoward⟩ => ?_
    rcases h with h | h
    · exact absurd (h.symm.trans hactive) Bool.false_ne_true
    · exact h (by rw [Lane.stroking, hdrive, htoward])
  | hold | brake | released => rfl

/-- The lane as its stroke has reached its limit. -/
def Lane.reaches (p : Parameters) (tb : Nat) (limit : Limit) (brakeMs : Nat) (x : Lane) : Lane :=
  Lane.strokeDone p tb limit { x.setLimit limit true with drive := brakeAt tb limit brakeMs }

theorem strokeReaches {toward : Limit} {boost : Option Nat} {timeout brakeMs : Nat} (hpin : s.sys.resetPin = false)
    (hdrive : (s.lane l).drive = .stroke toward boost timeout brakeMs) :
    ∃ t, exec (.limitSwitchEvent l toward true) s = .next t ∧ t = { s with lanes := t.lanes, mem := t.mem } ∧
      laneBecomes s t l ((s.lane l).reaches s.params s.timeBase toward brakeMs) := by
  refine exec_laneStep (tb := s.timeBase) hpin rfl ?_
  dsimp only
  rw [State.lane_updLane_self, Lane.setLimit_drive, hdrive]
  refine (if_pos ⟨rfl, rfl⟩).trans ?_
  rw [State.onLane, State.updLane, State.lane_updLane_self, State.updLane, State.setLane_setLane]
  rfl

theorem Lane.reaches_closed (p : Parameters) (tb brakeMs : Nat) (x : Lane) :
    x.reaches p tb .atClosed brakeMs = { x with
      closedLimit := true
      drive := (if brakeMs = 0 then .hold .atClosed else .brake .atClosed (tb + 10000 * brakeMs))
      pc := (if x.mode = .entry ∨ x.mode = .exit then .closed else .out)
      obstructionRun := 0 } := by
  have hmode : (if x.inServiceMode = true then PcState.closed else .out) =
      if x.mode = .entry ∨ x.mode = .exit then .closed else .out := by simp only [Lane.inServiceMode_iff]
  rw [← hmode]
  rfl

theorem Lane.reaches_open (p : Parameters) (tb brakeMs : Nat) {x : Lane}
    (h : x.pc = .free ∨ x.credits ≠ [] ∨ x.passage ≠ none ∨ x.beams.middle = .blocked) :
    x.reaches p tb .atOpen brakeMs = { x with
      openLimit := true
      drive := (if brakeMs = 0 then .hold .atOpen else .brake .atOpen (tb + 10000 * brakeMs))
      pc := (if x.pc = .free then .free else .opened) } := by
  by_cases hfree : x.pc = .free
  · rw [if_pos hfree, ← hfree]
    exact if_pos hfree
  · rw [if_neg hfree]
    refine (if_neg hfree).trans (if_neg fun ⟨_, hcredits, hpassage, hmiddle⟩ => ?_)
    rcases h with h | h | h | h
    · exact hfree h
    · exact h hcredits
    · exact h hpassage
    · exact absurd (h.symm.trans hmiddle) (by decide)

theorem Lane.reaches_open_closes (p : Parameters) (tb brakeMs : Nat) {x : Lane} (hpc : x.pc ≠ .free)
    (hcredits : x.credits = []) (hpassage : x.passage = none) (hmiddle : x.beams.middle = .clear) :
    let y := x.reaches p tb .atOpen brakeMs
    y.openLimit = true ∧ y.pc = .closing ∧ y.stroking = some .atClosed := by
  have hcloses : x.reaches p tb .atOpen brakeMs = Lane.startClosing p tb { x.setLimit .atOpen true with
      drive := brakeAt tb .atOpen brakeMs, pc := .opened } :=
    (if_neg hpc).trans (if_pos ⟨rfl, hcredits, hpassage, hmiddle⟩)
  rw [hcloses]
  exact ⟨rfl, rfl, rfl⟩

/-! ## FAULT (R154, R155) -/

/-- A cause that has been raised stands in attention. -/
theorem attention_raised (attention cause : Word) : (attention ||| cause) &&& cause = cause := by
  refine BitVec.eq_of_getLsbD_eq fun i _ => ?_
  rw [BitVec.getLsbD_and, BitVec.getLsbD_or]
  cases cause.getLsbD i <;> simp

/-- The state as the lane's leaves have been released, before it leaves service. -/
def State.released (s : State) (l : LaneId) : State := s.updLane l fun x => { x with drive := .released, pc := .fault }

theorem State.lane_released : (s.released l).lane l = { s.lane l with drive := .released, pc := .fault } :=
  State.lane_updLane_self _ _ _

/-- What a lane that has left service gets at FAULT: the cause, and the ALARM tone. -/
def Lane.faults (p : Parameters) (tb : Nat) (cause : FaultCause) (x : Lane) : Lane :=
  { x.sound p tb .alarm with faultCause := cause }

theorem State.enterFault_eq (cause : FaultCause) : s.enterFault l cause =
    State.raise (((s.released l).leaveService l).updLane l fun x => x.faults
      ((s.released l).leaveService l).params ((s.released l).leaveService l).timeBase cause) .lane := rfl

/-- What entering FAULT does to the state. -/
structure State.Faults (s u : State) (l : LaneId) (cause : FaultCause) : Prop where
  state : u = { s with
    lanes := u.lanes
    scanner := u.scanner
    engine := u.engine
    screening := u.screening
    journal := u.journal
    regs := { s.regs with attention := s.regs.attention ||| 0x0004#16 } }
  others : ∀ k, k ≠ l → u.lane k = s.lane k
  lane : ∃ y : Lane, Lane.LeavesService { s.lane l with drive := .released, pc := .fault } y ∧
    u.lane l = y.faults s.params s.timeBase cause
  aborted : abortedBy s u l

theorem State.enterFault_faults (cause : FaultCause) : s.Faults (s.enterFault l cause) l cause := by
  have hleaves := (s.released l).leaveService_leavesService l
  rw [State.enterFault_eq]
  generalize (s.released l).leaveService l = v at hleaves ⊢
  have hlane := hleaves.lane
  rw [State.lane_released] at hlane
  have hself : (State.raise (v.updLane l fun x => x.faults v.params v.timeBase cause) .lane).lane l =
    (v.lane l).faults v.params v.timeBase cause := State.lane_updLane_self (s := v) l _
  refine ⟨?_, fun k hk => ?_, ⟨v.lane l, hlane, ?_⟩, fun d hd hon hopen => ?_⟩
  · rw [hleaves.state]
    rfl
  · exact ((State.lane_updLane_ne (s := v) _ hk).trans (hleaves.others k hk)).trans (State.lane_updLane_ne _ _ hk)
  · rw [hself, hleaves.state]
    rfl
  · have hself' := State.lane_released (s := s) (l := l)
    have hends := hleaves.aborted d (by rw [hself']; exact hd) (by rw [hself']; exact hon) hopen
    rw [hself'] at hends
    have hbefore : endsNow s v l d (if d.writeSent then .uncertain else .aborted) (s.lane l).credits :=
      endsNow_of_before (s' := s.released l) rfl rfl rfl hends
    refine endsNow_same (t := v) ?_ ?_ rfl rfl hbefore <;> rw [hself] <;> rfl

variable {u : State} {cause : FaultCause}

/-- A lane that enters FAULT is in FAULT at the step's end. -/
theorem State.Faults.faulted_conclude {b : State} (h : s.Faults u l cause) : faulted (State.conclude b u) l cause := by
  obtain ⟨y, hy, hlane⟩ := h.lane
  have hconcluded : (State.conclude b u).lane l = _ := State.conclude_concluded b u l
  rw [hlane, hy.parts] at hconcluded
  rw [faulted, hconcluded, State.conclude_regs, h.state]
  exact ⟨rfl, rfl, rfl, rfl, rfl, rfl, ⟨_, _, rfl⟩, attention_raised _ _⟩

theorem State.Faults.aborted_conclude {v : State} (h : v.Faults u l cause)
    (hdialogue : (v.lane l).dialogue = (s.lane l).dialogue) (hfield : (v.lane l).field = (s.lane l).field)
    (hcredits : (v.lane l).credits = (s.lane l).credits) (hqueue : v.journal.queue = s.journal.queue)
    (htable : v.screening.table = s.screening.table) (hnow : v.now = s.now) :
    abortedBy s (State.conclude s u) l := fun d hd hon hopen => by
  have hends := h.aborted d (hdialogue.trans hd) (hfield.trans hon) hopen
  rw [hcredits] at hends
  exact endsNow_conclude (endsNow_of_before hqueue htable hnow hends)

theorem State.Faults.mode_conclude {v b : State} (h : v.Faults u l cause) :
    ((State.conclude b u).lane l).mode = (v.lane l).mode := by
  obtain ⟨y, hy, hlane⟩ := h.lane
  have hconcluded : (State.conclude b u).lane l = _ := State.conclude_concluded b u l
  rw [hlane, hy.parts] at hconcluded
  rw [hconcluded]
  rfl

/-! ## The end of a stroke's time (R154) -/

theorem strokeFails {toward : Limit} {boost : Option Nat} {timeout brakeMs : Nat} (hpin : s.sys.resetPin = false)
    (hdrive : (s.lane l).drive = .stroke toward boost timeout brakeMs) (hdue : timeout ≤ s.nextTick)
    (hgrant : ¬ grantInHand s l) : ∃ t, exec (.strokeTimeout l) s = .next t ∧
      t.timeBase = max s.timeBase timeout ∧ faulted t l .strokeTimeout ∧ (t.lane l).mode = (s.lane l).mode ∧
      abortedBy s t l ∧ s.OtherLanesKept t l := by
  have hexec : exec (.strokeTimeout l) s = .next (State.conclude s
      (State.enterFault { s with timeBase := max s.timeBase timeout } l .strokeTimeout)) := by
    refine exec_concluded hpin rfl ?_
    unfold State.strokeOver
    rw [hdrive]
    exact (State.onDue_of_reached _ hdue).trans (if_neg fun h => hgrant ((grantInHand_iff _ l).mp h))
  have hfaults := State.enterFault_faults (s := { s with timeBase := max s.timeBase timeout }) (l := l) .strokeTimeout
  refine ⟨_, hexec, ?_, hfaults.faulted_conclude, hfaults.mode_conclude,
    hfaults.aborted_conclude rfl rfl rfl rfl rfl rfl, State.OtherLanesKept.conclude hfaults.others⟩
  rw [State.DialogueStep.conclude_timeBase, hfaults.state]

theorem strokeWaits {toward : Limit} {boost : Option Nat} {timeout brakeMs : Nat} (hpin : s.sys.resetPin = false)
    (hdrive : (s.lane l).drive = .stroke toward boost timeout brakeMs) (hdue : timeout ≤ s.nextTick) (hs : s.Settled)
    (hgrant : grantInHand s l) : exec (.strokeTimeout l) s =
      .next (deferredRow { s with timeBase := max s.timeBase timeout } (.strokeTimeout l)) := by
  refine exec_of_lanes hpin hs rfl ?_ rfl rfl rfl rfl
  unfold State.strokeOver
  rw [hdrive]
  exact (State.onDue_of_reached _ hdue).trans (if_pos ((grantInHand_iff _ l).mpr hgrant))

/-! ## Overloads (R153) -/

theorem overloadIgnored (hpin : s.sys.resetPin = false) (hs : s.Settled)
    (h : (s.lane l).stroking ≠ some .atClosed) : exec (.leafOverload l) s = .next s :=
  exec_of_same hpin hs rfl (if_pos h)

/-- An obstruction is counted, with its alarm. -/
def State.obstructed (s : State) (l : LaneId) : State :=
  (s.updLane l fun x => { x with obstructionRun := (s.lane l).obstructionRun + 1 }).alarm l .obstruction

theorem State.obstruct_reverses (h : (s.lane l).obstructionRun < 2) :
    s.obstruct l = (s.obstructed l).onLane l Lane.startOpening := if_pos (by omega)

theorem State.obstruct_faults (h : 2 ≤ (s.lane l).obstructionRun) :
    s.obstruct l = (s.obstructed l).enterFault l .obstruction := if_neg (by omega)

theorem State.lane_obstructed : (s.obstructed l).lane l =
    { s.lane l with
      obstructionRun := (s.lane l).obstructionRun + 1
      obstruction := raised (s.lane l).obstruction
      rewritten := 14 :: (s.lane l).rewritten
      tone := some ⟨.alarm, s.params.tonePitch, s.timeBase + 10000000⟩ } := by
  rw [State.obstructed, State.lane_alarm, State.lane_updLane_self]
  rfl

theorem State.lane_obstructed_ne {k : LaneId} (hk : k ≠ l) : (s.obstructed l).lane k = s.lane k :=
  (State.lane_alarm_ne hk).trans (State.lane_updLane_ne _ _ hk)

theorem exec_overload (hpin : s.sys.resetPin = false) (hstroking : (s.lane l).stroking = some .atClosed)
    (h : ¬ (2 ≤ (s.lane l).obstructionRun ∧ s.granting l = true)) :
    exec (.leafOverload l) s = .next (State.conclude s (s.obstruct l)) :=
  exec_concluded hpin rfl ((if_neg (fun hother => hother hstroking)).trans (if_neg h))

theorem overloadReverses (hpin : s.sys.resetPin = false) (hstroking : (s.lane l).stroking = some .atClosed)
    (hrun : (s.lane l).obstructionRun < 2) : let x := s.lane l
    ∃ t, exec (.leafOverload l) s = .next t ∧
      t = { s with lanes := t.lanes, regs := t.regs, mem := t.mem } ∧ s.OtherLanesKept t l ∧
      s.MemoryKept t noByte ∧
      (t.lane l).obstructionRun = x.obstructionRun + 1 ∧ (t.lane l).obstruction = raised x.obstruction ∧
      (t.lane l).stamp = x.stamp + 1#16 ∧
      (t.lane l).pc = .opening ∧ (t.lane l).stroking = some .atOpen ∧
      t.regs = { s.regs with attention := s.regs.attention ||| 0x0004#16 } := by
  intro x
  have hexec := exec_overload hpin hstroking fun ⟨hlast, _⟩ => absurd hrun (Nat.not_lt.mpr hlast)
  rw [State.obstruct_reverses hrun] at hexec
  obtain ⟨w, hw⟩ : ∃ w, w = (s.obstructed l).onLane l Lane.startOpening := ⟨_, rfl⟩
  rw [← hw] at hexec
  have hlane : w.lane l = Lane.startOpening s.params s.timeBase ((s.obstructed l).lane l) := by
    rw [hw]
    exact State.lane_updLane_self _ _ _
  rw [State.lane_obstructed] at hlane
  have hothers : ∀ k, k ≠ l → w.lane k = s.lane k := fun k hk => by
    rw [hw]
    exact (State.lane_updLane_ne _ _ hk).trans (State.lane_obstructed_ne hk)
  have hconcluded : (State.conclude s w).lane l = _ := State.conclude_concluded s w l
  have hstamp : ((State.conclude s w).lane l).stamp = x.stamp + 1#16 := by
    rw [State.conclude_stamp_of_rewritten (by rw [hlane]; exact List.cons_ne_nil _ _), hlane]
    rfl
  obtain ⟨lanes, m, hconclude, -⟩ := State.conclude_exists s w
  rw [hlane] at hconcluded
  refine ⟨_, hexec, ?_, State.OtherLanesKept.conclude hothers, State.MemoryKept.conclude (.of_mem _ ?_), ?_, ?_, hstamp,
    ?_, ?_, ?_⟩
  · rw [hconclude, hw]
    rfl
  · rw [hw]
    rfl
  · rw [hconcluded]
    rfl
  · rw [hconcluded]
    rfl
  · rw [hconcluded]
    rfl
  · rw [hconcluded]
    rfl
  · rw [State.conclude_regs, hw]
    rfl

theorem overloadWaits (hpin : s.sys.resetPin = false) (hstroking : (s.lane l).stroking = some .atClosed)
    (hrun : 2 ≤ (s.lane l).obstructionRun) (hs : s.Settled) (hgrant : grantInHand s l) :
    exec (.leafOverload l) s = .next (deferredRow s (.leafOverload l)) :=
  exec_of_lanes hpin hs rfl ((if_neg (fun hother => hother hstroking)).trans
    (if_pos ⟨hrun, (grantInHand_iff s l).mpr hgrant⟩)) rfl rfl rfl rfl

theorem overloadFails (hpin : s.sys.resetPin = false) (hstroking : (s.lane l).stroking = some .atClosed)
    (hrun : 2 ≤ (s.lane l).obstructionRun) (hgrant : ¬ grantInHand s l) : let x := s.lane l
    ∃ t, exec (.leafOverload l) s = .next t ∧
      faulted t l .obstruction ∧ (t.lane l).obstruction = raised x.obstruction ∧
      (t.lane l).stamp = x.stamp + 1#16 ∧ abortedBy s t l ∧ s.OtherLanesKept t l := by
  intro x
  have hexec := exec_overload hpin hstroking fun ⟨_, h⟩ => hgrant ((grantInHand_iff s l).mp h)
  rw [State.obstruct_faults hrun] at hexec
  have hfaults := State.enterFault_faults (s := s.obstructed l) (l := l) .obstruction
  have hobstructed := State.lane_obstructed (s := s) (l := l)
  generalize (s.obstructed l).enterFault l .obstruction = u at hexec hfaults
  obtain ⟨y, hy, hlane⟩ := hfaults.lane
  rw [hobstructed] at hy
  have hrewritten : (u.lane l).rewritten ≠ [] := by
    rw [hlane]
    intro hnone
    have hsuffix := hy.kept
    rw [show y.rewritten = [] from hnone] at hsuffix
    exact absurd (List.suffix_nil.mp hsuffix) (List.cons_ne_nil _ _)
  have hconcluded : (State.conclude s u).lane l = _ := State.conclude_concluded s u l
  refine ⟨_, hexec, hfaults.faulted_conclude, ?_, ?_, hfaults.aborted_conclude ?_ ?_ ?_ rfl rfl rfl,
    State.OtherLanesKept.conclude fun k hk => (hfaults.others k hk).trans (State.lane_obstructed_ne hk)⟩
  · rw [hlane, hy.parts] at hconcluded
    rw [hconcluded]
    rfl
  · rw [State.conclude_stamp_of_rewritten hrewritten, hlane, hy.parts]
    rfl
  · rw [hobstructed]
  · rw [hobstructed]
  · rw [hobstructed]

end

/-- Settles O53. -/
theorem strokesRunToTheirLimit : Obligations.StrokesRunToTheirLimit := by
  intro s l hpin x
  refine ⟨fun toward due timeout brakeMs hs => boostEnds hpin hs, fun limit due hs => brakeEnds hpin hs,
    fun limit active hs h => ?_, fun hdrive hs => overloadIgnored hpin hs ?_,
    fun toward boost timeout brakeMs hdrive => ⟨?_, strokeFails hpin hdrive, strokeWaits hpin hdrive,
      fun htoward hs => overloadIgnored hpin hs ?_, fun htoward => overloadReverses hpin ?_,
      fun htoward => overloadWaits hpin ?_, fun htoward => overloadFails hpin ?_⟩⟩
  · have htaken := limitTaken hpin hs h
    cases limit <;> exact htaken
  · rw [Lane.stroking]
    rcases hdrive with hdrive | ⟨limit, hdrive⟩ | ⟨limit, due, hdrive⟩ <;> rw [hdrive] <;> nofun
  · obtain ⟨t, hexec, hframe, hbecomes, hothers, hmemory⟩ := strokeReaches hpin hdrive
    refine ⟨t, hexec, hframe, hothers, hmemory, fun htoward => ?_, fun htoward h => ?_,
      fun htoward hpc hcredits hpassage hmiddle => ?_⟩
    · subst htoward
      rw [Lane.reaches_closed] at hbecomes
      exact ⟨hbecomes, hothers, hmemory⟩
    · subst htoward
      rw [Lane.reaches_open _ _ _ h] at hbecomes
      exact ⟨hbecomes, hothers, hmemory⟩
    · subst htoward
      rw [show t.lane l = _ from hbecomes]
      exact Lane.reaches_open_closes _ _ _ hpc hcredits hpassage hmiddle
  all_goals
    rw [Lane.stroking, hdrive, htoward]
  nofun

end Sys2Proof.Machine
end

section
/-! The emergency input (07 R157, R158; 08 R165). -/

namespace Sys2Proof.Machine

open Sys2Proof

/-! ## A lane is set FREE -/

/-- What setting the mode FREE makes of a lane. -/
structure Lane.Freed (x y : Lane) : Prop where
  mode : y.mode = .free
  kept : y.gain = x.gain ∧ y.beams = x.beams ∧ y.baseline = x.baseline
  fault : x.pc = .fault → y.pc = .fault ∧ y.drive = x.drive
  leaves : x.pc ≠ .fault → x.mode ≠ .free →
    y.pc = .free ∧ y.field = .off ∧ y.credits = [] ∧ y.passage = none ∧
    (∀ d, x.dialogue = some d → x.field = .on → d.outcome = none →
      (∀ e, y.dialogue = some e → e.outcome = some (if d.writeSent then .uncertain else .aborted)) ∧
      (y.dialogue = none → y.lastResult = if d.writeSent then .uncertain else .aborted)) ∧
    (y.stroking = some .atOpen ∨ y.drive = .hold .atOpen ∨ ∃ due, y.drive = .brake .atOpen due)

theorem Lane.Freed.concluded {x y z : Lane} (h : x.Freed y) (hz : y.Concluded z) : x.Freed z := by
  rw [show z = _ from hz]
  exact ⟨h.mode, h.kept, h.fault, h.leaves⟩

/-- What setting lanes FREE leaves of the state. -/
def State.FreesLanes (s u : State) : Prop :=
  u = { s with
    lanes := u.lanes
    scanner := u.scanner
    engine := { s.engine with requests := u.engine.requests }
    screening := u.screening
    journal := u.journal }

theorem State.FreesLanes.trans {s u v : State} (h : s.FreesLanes u) (k : u.FreesLanes v) : s.FreesLanes v := by
  unfold State.FreesLanes at *
  rw [k, h]

theorem State.applyMode_freed (s : State) (l : LaneId) :
    s.FreesLanes (s.applyMode l .free) ∧ (∀ k, k ≠ l → (s.applyMode l .free).lane k = s.lane k) ∧
      (s.lane l).Freed ((s.applyMode l .free).lane l) := by
  by_cases hmode : (s.lane l).mode = .free
  · have hsame : s.applyMode l .free = s := if_pos hmode
    rw [hsame]
    exact ⟨rfl, fun _ _ => rfl, hmode, ⟨rfl, rfl, rfl⟩, fun h => ⟨h, rfl⟩, fun _ hnew => absurd hmode hnew⟩
  · by_cases hpc : (s.lane l).pc = .fault
    · rw [State.applyMode_fault hmode hpc, State.lane_setLane_self]
      exact ⟨rfl, fun k hk => State.lane_setLane_ne _ _ hk, rfl, ⟨rfl, rfl, rfl⟩, fun h => ⟨h, rfl⟩,
        fun hnot => absurd hpc hnot⟩
    · have hleaves := s.outOfService_leaves l .free Lane.enterFree_moves
      rw [State.applyMode_free hmode hpc]
      generalize s.outOfService l .free Lane.enterFree = u at hleaves ⊢
      obtain ⟨y, hy, hlane⟩ := hleaves.lane
      have hmoves := Lane.enterFree_moves s.params s.timeBase y
      obtain ⟨hfree, hopens⟩ := Lane.enterFree_opens s.params s.timeBase y
      rw [← hlane] at hmoves hfree hopens
      have hu : u.lane l = _ := hmoves
      rw [hy.parts] at hu
      refine ⟨?_, hleaves.others, ?_, ?_, fun hfault => absurd hfault hpc, fun _ _ =>
        ⟨hfree, ?_, ?_, ?_, fun d hd hon hopen => (hleaves.aborted d hd hon hopen).1, hopens⟩⟩
      · rw [State.FreesLanes, hleaves.state]
      all_goals rw [hu]
      exact ⟨rfl, rfl, rfl⟩

/-- Lanes are set FREE one after another. -/
def State.freeLanes (s : State) (ls : List LaneId) : State := ls.foldl (fun s l => s.applyMode l .free) s

theorem State.freeLanes_freed : ∀ (ls : List LaneId) (s : State), ls.Nodup →
    s.FreesLanes (s.freeLanes ls) ∧ (∀ k, k ∉ ls → (s.freeLanes ls).lane k = s.lane k) ∧
      ∀ l ∈ ls, (s.lane l).Freed ((s.freeLanes ls).lane l)
  | [], s, _ => ⟨rfl, fun _ _ => rfl, fun _ hl => absurd hl List.not_mem_nil⟩
  | l :: rest, s, hdistinct => by
    obtain ⟨hl, hrest⟩ := List.nodup_cons.mp hdistinct
    obtain ⟨hframe, hothers, hfreed⟩ := s.applyMode_freed l
    obtain ⟨ihframe, ihothers, ihfreed⟩ := State.freeLanes_freed rest (s.applyMode l .free) hrest
    refine ⟨hframe.trans ihframe, fun k hk => ?_, fun k hk => ?_⟩
    · have hkl : k ≠ l := fun h => hk (h ▸ List.mem_cons_self)
      exact (ihothers k fun h => hk (List.mem_cons_of_mem _ h)).trans (hothers k hkl)
    · by_cases hkl : k = l
      · subst hkl
        exact (ihothers k hl) ▸ hfreed
      · have hfreedLater := ihfreed k ((List.mem_cons.mp hk).resolve_left hkl)
        rwa [hothers k hkl] at hfreedLater

section
variable {s : State} {held : Nat}

/-- The state as the asserted input is taken, before the lanes are set FREE. -/
def State.emergencySet (s : State) (held : Nat) : State :=
  { s with
    timeBase := max s.timeBase (s.emergency.since + 10000 * held)
    emergency := ⟨true, true, max s.timeBase (s.emergency.since + 10000 * held)⟩ }

theorem State.freeEveryLane_eq :
    State.freeEveryLane { s with timeBase := max s.timeBase (s.emergency.since + 10000 * held) } =
      State.raise ((s.emergencySet held).freeLanes [.lane0, .lane1, .lane2, .lane3]) .lane := rfl

theorem exec_emergencyAsserted (hpin : s.sys.resetPin = false) (hheld : 20 ≤ held)
    (hdue : s.emergency.since + 10000 * held ≤ s.nextTick) (hoff : s.emergency.asserted = false)
    (hgrants : ∀ l, ¬ grantInHand s l) : exec (.emergencyAsserted held) s = .next (State.conclude s
      (State.raise ((s.emergencySet held).freeLanes [.lane0, .lane1, .lane2, .lane3]) .lane)) := by
  refine exec_concluded hpin rfl ((if_pos ⟨hheld, hoff⟩).trans ((State.onDue_of_reached _ hdue).trans ?_))
  refine (if_neg fun hany => ?_).trans State.freeEveryLane_eq
  obtain ⟨l, -, hcuts⟩ := List.any_eq_true.mp hany
  have hspares : s.modeCutsGrant l .free = false := State.modeCutsGrant_eq_false (hgrants l)
  exact Bool.false_ne_true (hspares.symm.trans hcuts)

theorem emergencyFrees (hpin : s.sys.resetPin = false) (hheld : 20 ≤ held)
    (hdue : s.emergency.since + 10000 * held ≤ s.nextTick) (hoff : s.emergency.asserted = false)
    (hgrants : ∀ l, ¬ grantInHand s l) :
    let now := max s.timeBase (s.emergency.since + 10000 * held)
    ∃ t, exec (.emergencyAsserted held) s = .next t ∧
      t.emergency = ⟨true, true, now⟩ ∧ t.regs.attention &&& 0x0004#16 = 0x0004#16 ∧ t.params = s.params ∧
      t.fare = s.fare ∧ t.orders = s.orders ∧ t.clock = s.clock ∧ t.timeBase = now ∧
      t.engine.service = s.engine.service ∧ t.engine.slots = s.engine.slots ∧
      ∀ l, (s.lane l).Freed (t.lane l) := by
  intro now
  have hexec := exec_emergencyAsserted hpin hheld hdue hoff hgrants
  obtain ⟨hframe, -, hfreed⟩ := State.freeLanes_freed [.lane0, .lane1, .lane2, .lane3] (s.emergencySet held) (by decide)
  generalize (s.emergencySet held).freeLanes [.lane0, .lane1, .lane2, .lane3] = u at hexec hframe hfreed
  refine ⟨_, hexec, ?_, ?_, ?_, ?_, ?_, ?_, ?_, ?_, ?_, fun l => ?_⟩
  · rw [State.conclude_emergency, hframe]
    rfl
  · rw [State.conclude_regs]
    exact attention_raised _ _
  · rw [State.conclude_params, hframe]
    rfl
  · rw [State.conclude_fare, hframe]
    rfl
  · rw [State.conclude_orders, hframe]
    rfl
  · rw [State.conclude_clock, hframe]
    rfl
  · rw [State.DialogueStep.conclude_timeBase, hframe]
    rfl
  · rw [State.conclude_engine, hframe]
    rfl
  · rw [State.conclude_engine, hframe]
    rfl
  · have hfreedNow : (s.lane l).Freed (u.lane l) := hfreed l (by cases l <;> decide)
    exact hfreedNow.concluded (State.conclude_concluded s (u.raise .lane) l)

theorem emergencyWaits {l : LaneId} (hpin : s.sys.resetPin = false) (hheld : 20 ≤ held)
    (hdue : s.emergency.since + 10000 * held ≤ s.nextTick) (hs : s.Settled) (hoff : s.emergency.asserted = false)
    (hgrant : grantInHand s l) (hmode : (s.lane l).mode ≠ .free) (hpc : (s.lane l).pc ≠ .fault) :
    exec (.emergencyAsserted held) s = .next (deferredRow
      { s with timeBase := max s.timeBase (s.emergency.since + 10000 * held) } (.emergencyAsserted held)) := by
  refine exec_of_lanes hpin hs rfl ((if_pos ⟨hheld, hoff⟩).trans ((State.onDue_of_reached _ hdue).trans ?_)) rfl rfl rfl
    rfl
  have hgranting : s.granting l = true := (grantInHand_iff s l).mpr hgrant
  have hcuts : s.modeCutsGrant l .free = true := by simp [State.modeCutsGrant, hmode, hpc, hgranting]
  exact if_pos (List.any_eq_true.mpr ⟨l, by cases l <;> decide, hcuts⟩)

/-! ## The release -/

theorem exec_emergencyReleased (hpin : s.sys.resetPin = false) (hheld : 20 ≤ held)
    (hdue : s.emergency.since + 10000 * held ≤ s.nextTick) (hon : s.emergency.asserted = true) :
    let now := max s.timeBase (s.emergency.since + 10000 * held)
    ∃ t, exec (.emergencyReleased held) s = .next t ∧
      t = { s with
        timeBase := now
        emergency := ⟨false, true, now⟩
        lanes := t.lanes
        regs := { s.regs with attention := s.regs.attention ||| 0x0004#16 }
        mem := t.mem } ∧
      s.LanesKept t ∧ s.MemoryKept t noByte := by
  intro now
  have hexec : exec (.emergencyReleased held) s = .next (State.conclude s
      (State.raise { s with timeBase := now, emergency := ⟨false, true, now⟩ } .lane)) := by
    refine exec_concluded hpin rfl ((if_pos ⟨hheld, .inl hon⟩).trans ((State.onDue_of_reached _ hdue).trans ?_))
    exact if_pos hon
  obtain ⟨lanes, m, hconclude, -⟩ := State.conclude_exists s
    (State.raise { s with timeBase := now, emergency := ⟨false, true, now⟩ } .lane)
  refine ⟨_, hexec, ?_, State.LanesKept.conclude rfl, State.MemoryKept.conclude (.of_mem _ rfl)⟩
  rw [hconclude]
  rfl

/-- A first reading of released shows nothing (R157). -/
theorem exec_emergencyReleased_first (hpin : s.sys.resetPin = false) (hheld : 20 ≤ held)
    (hdue : s.emergency.since + 10000 * held ≤ s.nextTick) (hs : s.Settled) (hoff : s.emergency.asserted = false)
    (hseen : s.emergency.seen = false) :
    let now := max s.timeBase (s.emergency.since + 10000 * held)
    exec (.emergencyReleased held) s = .next { s with timeBase := now, emergency := ⟨false, true, now⟩ } := by
  intro now
  refine exec_of_quiet hpin hs rfl ((if_pos ⟨hheld, .inr hseen⟩).trans ((State.onDue_of_reached _ hdue).trans ?_))
    ⟨fun k => ?_, fun _ => rfl, fun _ => rfl, rfl⟩ rfl
  · exact if_neg (by rw [hoff]; exact Bool.false_ne_true)
  · have hflags : laneFlags (s.lane k) ⟨false, true, now⟩ = laneFlags (s.lane k) s.emergency := by
      rw [laneFlags, laneFlags, hoff]
    change shownFields (s.lane k) ⟨false, true, now⟩ = _
    rw [shownFields, shownFields, hflags]

end

/-- Settles O54. -/
theorem emergencyFreesEveryLane : Obligations.EmergencyFreesEveryLane := by
  intro s held hpin hheld hdue now
  refine ⟨fun hoff hgrants => ?_, fun l hs hoff => emergencyWaits hpin hheld hdue hs hoff,
    exec_emergencyReleased hpin hheld hdue, fun hoff hs => ⟨exec_emergencyReleased_first hpin hheld hdue hs hoff,
      fun hseen => exec_of_same hpin hs rfl (if_neg fun ⟨_, h⟩ => ?_)⟩⟩
  · obtain ⟨t, hexec, hemergency, hattention, hparams, hfare, horders, hclock, htime, hservice, hslots, hfreed⟩ :=
      emergencyFrees hpin hheld hdue hoff hgrants
    refine ⟨t, hexec, hemergency, hattention, hparams, hfare, horders, hclock, htime, hservice, hslots, fun l => ?_⟩
    obtain ⟨hmode, ⟨hgain, hbeams, hbaseline⟩, hfault, hleaves⟩ := hfreed l
    exact ⟨hmode, hgain, hbeams, hbaseline, hfault, hleaves⟩
  · rw [hoff, hseen] at h
    rcases h with h | h <;> exact absurd h (by decide)

end Sys2Proof.Machine
end

section
/-! The expiries of a sighting entry (06 R123, R129, R130, R132). -/

namespace Sys2Proof.Machine

open Sys2Proof

section
variable {s : State} {card : CardNumber} {e : Sighting}

/-- A change that leaves the card's entry leaves the table. -/
theorem changeSighting_same {f : Sighting → Sighting} {t : List Sighting} (hdistinct : (t.map Sighting.card).Nodup)
    (he : findSighting t card = some e) (hf : f e = e) : changeSighting t card f = t := by
  refine (List.map_congr_left fun x hx => ?_).trans (List.map_id t)
  by_cases hcard : x.card = card
  · have hfound := findSighting_of_mem hdistinct hx
    rw [hcard, he] at hfound
    obtain rfl := Option.some.inj hfound
    rw [if_pos hcard, hf]
    rfl
  · exact if_neg hcard

/-- A change of the card's entry alone. -/
theorem entryChanges {c : Instr} {g : State → State} {f : Sighting → Sighting} (hpin : s.sys.resetPin = false)
    (hs : s.Settled) (htable : s.TableLegal) (he : findSighting s.screening.table card = some e)
    (hrow : exec c s = .next (s.event g)) (hg : g s = s.changeEntry card f) :
    ∃ t, exec c s = .next t ∧ t = { s with screening := { s.screening with table := t.screening.table } } ∧
      (∀ k, k ≠ card → findSighting t.screening.table k = findSighting s.screening.table k) ∧
      findSighting t.screening.table card = some { f e with card := e.card } ∧ (f e = e → t = s) := by
  refine ⟨_, exec_of_lanes hpin hs hrow hg rfl rfl rfl rfl, rfl, fun k hk => findSighting_changeSighting_ne f hk _, ?_,
    fun hsame => ?_⟩
  · exact (findSighting_changeSighting_self card f _).trans (congrArg _ he)
  · rw [State.changeEntry, changeSighting_same htable.2 he hsame]
    rfl

/-- An UNUSED mark whose grace has run out becomes NONE (R129). -/
def State.expireUnused (s : State) (e : Sighting) : Sighting :=
  match e.mark with
  | .unused _ _ => if s.markExpired e.mark then { e with mark := .none } else e
  | _ => e

theorem State.expireUsed_over {dir : Direction} {time : Int} (hmark : e.mark = .used dir time)
    (h : time + 1000 * s.params.passbackInterval ≤ s.instant) : s.expireUsed e = { e with mark := .none } := by
  unfold State.expireUsed State.markExpired
  rw [hmark]
  exact if_pos (decide_eq_true h)

theorem State.expireUsed_kept (h : ∀ dir time, e.mark = .used dir time →
    s.instant < time + 1000 * s.params.passbackInterval) : s.expireUsed e = e := by
  unfold State.expireUsed State.markExpired
  cases hmark : e.mark with
  | used dir time => exact if_neg (by simpa using h dir time hmark)
  | none | pending | unused => rfl

theorem State.expireUnused_over {dir : Direction} {until_ : Int} (hmark : e.mark = .unused dir until_)
    (h : until_ ≤ s.instant) : s.expireUnused e = { e with mark := .none } := by
  unfold State.expireUnused State.markExpired
  rw [hmark]
  exact if_pos (decide_eq_true h)

theorem State.expireUnused_kept (h : ∀ dir until_, e.mark = .unused dir until_ → s.instant < until_) :
    s.expireUnused e = e := by
  unfold State.expireUnused State.markExpired
  cases hmark : e.mark with
  | unused dir until_ => exact if_neg (by simpa using h dir until_ hmark)
  | none | pending | used => rfl

/-! ## The uncertainty part (R123, R130) -/

theorem State.endedPart_over {u : Uncertainty} (hu : e.uncertainty = some u)
    (h : u.created + 1000 * s.params.uncertaintyLife ≤ s.instant) :
    s.endedPart e = some ⟨resolvedRecord e.card u u.lane .unresolved s.now false, .part, .nobody⟩ := by
  rw [State.endedPart_eq]
  dsimp only
  rw [hu]
  exact if_pos h

theorem State.endedPart_kept (h : ∀ u, e.uncertainty = some u →
    s.instant < u.created + 1000 * s.params.uncertaintyLife) : s.endedPart e = none := by
  rw [State.endedPart_eq]
  dsimp only
  cases hu : e.uncertainty with
  | none => rfl
  | some u => exact if_neg (Int.not_le.mpr (h u hu))

theorem exec_uncertaintyExpiry (hpin : s.sys.resetPin = false) (hs : s.Settled)
    (he : findSighting s.screening.table card = some e) :
    exec (.uncertaintyExpiry card) s = .next (if s.forgets card then s else s.expirePart e) := by
  have heffect : (if s.forgets card then s else s.expirePart e) = { s with
      screening := (if s.forgets card then s else s.expirePart e).screening
      journal := { s.journal with
        queue := (if s.forgets card then s else s.expirePart e).journal.queue
        writeDue := (if s.forgets card then s else s.expirePart e).journal.writeDue } } := by
    split
    · rfl
    · rw [State.expirePart_eq]
  refine exec_of_lanes hpin hs rfl ?_ ?_ ?_ ?_ ?_
  · rw [he]
  all_goals
    rw [heffect]
  rfl

theorem forgets_iff : s.forgets card = true ↔ ∃ o, s.orders.service = some o ∧ o.stage = .forgetting card := by
  unfold State.forgets
  cases s.orders.service with
  | none => simp
  | some o => simp

end

/-- Settles O55. -/
theorem marksAndPartsExpire : Obligations.MarksAndPartsExpire := by
  intro s card e hpin hs htable he
  have hcard : e.card = card := findSighting_card he
  refine ⟨?_, ?_, ?_⟩
  · obtain ⟨t, hexec, hframe, hothers, hself, hsame⟩ :=
      entryChanges (c := .passbackExpiry card) hpin hs htable he rfl rfl
    refine ⟨t, hexec, hframe, hothers, fun dir time hmark hover => ?_, fun hnot => hsame ?_,
      fun dir time hmark hearly => hsame ?_⟩
    · rw [hself, State.expireUsed_over hmark hover]
    · exact State.expireUsed_kept fun dir time hmark => absurd hmark (hnot dir time)
    · refine State.expireUsed_kept fun dir' time' hmark' => ?_
      obtain ⟨-, rfl⟩ := CreditMark.used.inj (hmark.symm.trans hmark')
      exact hearly
  · obtain ⟨t, hexec, hframe, hothers, hself, hsame⟩ := entryChanges (c := .regrantGraceExpiry card)
      (f := s.expireUnused) hpin hs htable he rfl rfl
    refine ⟨t, hexec, hframe, hothers, fun dir until_ hmark hover => ?_, fun hnot => hsame ?_,
      fun dir until_ hmark hearly => hsame ?_⟩
    · rw [hself, State.expireUnused_over hmark hover]
    · exact State.expireUnused_kept fun dir until_ hmark => absurd hmark (hnot dir until_)
    · refine State.expireUnused_kept fun dir' until' hmark' => ?_
      obtain ⟨-, rfl⟩ := CreditMark.unused.inj (hmark.symm.trans hmark')
      exact hearly
  · have hexec := exec_uncertaintyExpiry hpin hs he
    by_cases hforgets : s.forgets card = true
    · obtain ⟨o, ho, hstage⟩ := forgets_iff.mp hforgets
      rw [if_pos hforgets] at hexec
      exact ⟨s, hexec, rfl, fun _ _ => rfl, fun _ _ _ => rfl, fun u _ _ hnot => absurd hstage (hnot o ho), fun _ => rfl,
        fun _ _ _ => rfl⟩
    · rw [if_neg hforgets] at hexec
      have hkept : (∀ u, e.uncertainty = some u → s.instant < u.created + 1000 * s.params.uncertaintyLife) →
          s.expirePart e = s := fun h => State.expirePart_of_none (State.endedPart_kept h)
      refine ⟨_, hexec, ?_, fun k hk => ?_, fun o ho hstage => absurd (forgets_iff.mpr ⟨o, ho, hstage⟩) hforgets,
        fun u hu hover _ => ⟨?_, ?_⟩, fun hnone => hkept fun u hu => absurd (hnone.symm.trans hu) nofun,
        fun u hu hearly => hkept fun u' hu' => ?_⟩
      · rw [State.expirePart_eq]
      · rw [State.expirePart_find, hcard]
        simp [Ne.symm hk]
      · rw [State.expirePart_find, he, State.endedPart_over hu hover, Option.map_some, if_pos ⟨hcard, rfl⟩]
      · rw [State.expirePart_eq, State.endedPart_over hu hover, hcard]
        rfl
      · obtain rfl := Option.some.inj (hu.symm.trans hu')
        exact hearly

end Sys2Proof.Machine
end

section
/-! What the six steps of a start-up leave of each block (10 R205, R206). -/

namespace Sys2Proof.Machine

open Sys2Proof

/-! ## Step 4: the board -/

/-- The examination of the board changes the memory, the slots and ATTENTION. -/
def State.BoardStep (s t : State) : Prop :=
  t = { s with mem := t.mem, orders := { s.orders with slots := t.orders.slots }, regs := t.regs }

theorem State.BoardStep.trans {s t u : State} (h : s.BoardStep t) (k : t.BoardStep u) : s.BoardStep u := by
  unfold State.BoardStep at *
  rw [k, h]

section
variable (s : State) (kind : StartKind) (k : Fin 8)

theorem State.zeroSlotStaging_boardStep : s.BoardStep (s.zeroSlotStaging k) := by
  unfold State.zeroSlotStaging
  dsimp only
  split <;> rfl

theorem State.writeMem_boardStep (a : Nat) (bs : List Byte) : s.BoardStep (s.writeMem a bs) := rfl

theorem State.refuseSlot_boardStep : s.BoardStep (s.refuseSlot k) := by
  have hraise : ∀ u : State, u.BoardStep (u.raise .order) := fun _ => rfl
  have hslot : ∀ u : State, u.BoardStep (u.setSlot k .refused) := fun _ => rfl
  unfold State.refuseSlot
  exact ((((s.writeMem_boardStep _ _).trans (State.writeMem_boardStep _ _ _)).trans
    (State.writeMem_boardStep _ _ _)).trans (State.writeMem_boardStep _ _ _)).trans ((hslot _).trans (hraise _))

theorem State.examineSlot_boardStep : s.BoardStep (State.examineSlot kind s k) := by
  obtain ⟨-, h⟩ | ⟨-, ⟨v, h⟩ | h⟩ := State.examineSlot_cases kind s k <;> rw [h]
  · exact (s.zeroSlotStaging_boardStep k).trans (State.refuseSlot_boardStep _ k)
  · rfl
  · exact State.BoardStep.trans (t := s.setSlot k .empty) rfl (State.writeMem_boardStep _ _ _)

end

theorem State.examineSlots_boardStep (kind : StartKind) : ∀ (ks : List (Fin 8)) (s : State),
    s.BoardStep (ks.foldl (State.examineSlot kind) s)
  | [], _ => rfl
  | k :: rest, s => (s.examineSlot_boardStep kind k).trans (State.examineSlots_boardStep kind rest _)

/-! ## The six steps -/

/-- The steps up to the board's examination change the memory, the port and the part state. -/
def State.SetupStep (s t : State) : Prop :=
  t = { s with mem := t.mem, port := t.port, sys := { s.sys with partState := t.sys.partState } }

theorem State.SetupStep.trans {s t u : State} (h : s.SetupStep t) (k : t.SetupStep u) : s.SetupStep u := by
  unfold State.SetupStep at *
  rw [k, h]

theorem State.SamePort.setupStep {s t : State} (h : s.SamePort t) : s.SetupStep t := by
  unfold State.SamePort at h
  rw [h]
  rfl

section
variable (s : State) (kind : StartKind) (inputs : StartInputs)

theorem State.writeMem_setupStep (a : Nat) (bs : List Byte) : s.SetupStep (s.writeMem a bs) := rfl

theorem State.setPartState_setupStep (p : PartState) : s.SetupStep (s.setPartState p) :=
  State.SetupStep.trans (t := { s with sys := { s.sys with partState := p } }) rfl (State.writeMem_setupStep _ _ _)

theorem State.writeHeader_setupStep : s.SetupStep s.writeHeader :=
  (s.writeMem_setupStep _ _).trans (State.writeMem_setupStep _ _ _)

theorem State.starting_setupStep (strap : PortWidth) :
    (s.resetBlocks kind strap).SetupStep (s.starting kind strap) := by
  unfold State.starting
  exact ((State.setPartState_setupStep _ _).trans (State.serveReads_same _ _).setupStep).trans
    (State.setPort_same _ _).setupStep

/-- Up to the board's examination only memory, port and part state follow the first step. -/
theorem State.beforeBoard_setupStep : (s.resetBlocks kind inputs.strap).SetupStep (s.beforeBoard kind inputs) := by
  refine .trans (.trans ?_ (State.setPartState_setupStep _ _)) (State.startReads_same _ _).setupStep
  refine .trans (.trans ?_ (State.startReads_same _ _).setupStep) (State.writeHeader_setupStep _)
  exact s.starting_setupStep kind inputs.strap

theorem State.beforeBoard_same : s.beforeBoard kind inputs = { s.resetBlocks kind inputs.strap with
    mem := (s.beforeBoard kind inputs).mem
    port := (s.beforeBoard kind inputs).port
    sys := { (s.resetBlocks kind inputs.strap).sys with partState := (s.beforeBoard kind inputs).sys.partState } } :=
  s.beforeBoard_setupStep kind inputs

/-- What a start-up's six steps leave of each block. -/
theorem State.startSteps_blocks : s.startSteps kind inputs = { s.resetBlocks kind inputs.strap with
    mem := (s.startSteps kind inputs).mem
    port := (s.beforeBoard kind inputs).port
    regs := (s.startSteps kind inputs).regs
    orders := { State.reset.orders with slots := (s.startSteps kind inputs).orders.slots }
    sys := { (s.resetBlocks kind inputs.strap).sys with partState := .running } } := by
  have hboard := State.examineSlots_boardStep kind (List.finRange 8) (s.beforeBoard kind inputs)
  have hbefore := s.beforeBoard_same kind inputs
  rw [State.startSteps_eq]
  generalize (List.finRange 8).foldl (State.examineSlot kind) (s.beforeBoard kind inputs) = u at hboard ⊢
  generalize s.beforeBoard kind inputs = v at hboard hbefore ⊢
  unfold State.BoardStep at hboard
  rw [hboard, hbefore]
  rfl

theorem State.setPort_waiting_nil {s : State} (h : s.port.waiting = []) :
    (s.setPort fun p => { p with waiting := [] }) = s := by
  unfold State.setPort
  rw [← h]

/-- A whole start-up whose steps leave no access waiting is its six steps. -/
theorem State.startUp_of_served {s : State} (h : (s.startSteps kind inputs).port.waiting = []) :
    s.startUp kind inputs = s.startSteps kind inputs := by
  unfold State.startUp
  dsimp only
  rw [h, State.setPort_waiting_nil h]
  rfl

/-- With no access waiting a whole start-up is its six steps. -/
theorem State.startUp_eq {s : State} (h : s.port.waiting = []) :
    s.startUp kind inputs = s.startSteps kind inputs :=
  State.startUp_of_served kind inputs (State.startSteps_waiting kind inputs h)

theorem State.starting_accessed (strap : PortWidth) : (s.resetBlocks kind strap).Accessed (s.starting kind strap) := by
  unfold State.starting
  exact ((State.setPartState_accessed _ _).trans (State.serveReads_same _ _).accessed).trans
    (State.setPort_accessed _ _)

end

/-! ## The port in a start-up (R191, R192) -/

/-- The width is that, and no byte is latched for a word's low half. -/
def Port.Unlatched (p : Port) (width : PortWidth) : Prop := p.width = width ∧ p.byteLatch = none

section
variable {s : State} {width : PortWidth}

theorem State.narrowRead_unlatched (a : BitVec 18) (h : s.port.Unlatched width) :
    (s.narrowRead a).1.port.Unlatched width := by
  unfold State.narrowRead
  dsimp only
  split <;> exact ⟨h.1, rfl⟩

theorem State.portRead_unlatched (r : PortRead) (h : s.port.Unlatched width) : (s.portRead r).port.Unlatched width := by
  unfold State.portRead
  split
  case h_4 => exact State.narrowRead_unlatched _ (State.narrowRead_unlatched _ h)
  case h_5 => exact State.narrowRead_unlatched _ h
  all_goals exact ⟨h.1, rfl⟩

theorem State.startReads_unlatched : ∀ (rs : List MemoryRead) {s : State}, s.port.Unlatched width →
    (s.startReads rs).port.Unlatched width
  | [], _, h => h
  | r :: rest, s, h => by
    unfold State.startReads
    refine State.startReads_unlatched rest ?_
    split
    · exact State.portRead_unlatched _ h
    · exact h

theorem State.starting_unlatched (kind : StartKind) (strap : PortWidth) (h : s.port.waiting = []) :
    (s.starting kind strap).port.Unlatched strap := by
  simp [State.starting, h, leadingReads, State.serveReads, Port.Unlatched, State.setPort, State.resetBlocks,
    State.reset]

theorem State.beforeBoard_unlatched (kind : StartKind) (inputs : StartInputs) (h : s.port.waiting = []) :
    (s.beforeBoard kind inputs).port.Unlatched inputs.strap := by
  have hstarting := State.starting_unlatched kind inputs.strap h
  unfold State.beforeBoard
  refine State.startReads_unlatched _ ?_
  rw [State.setPartState_port, State.writeHeader_port]
  exact State.startReads_unlatched _ hstarting

/-- With no read begun in the start-up no high byte is kept. -/
theorem State.beforeBoard_readLatch (kind : StartKind) (inputs : StartInputs) (h : s.port.waiting = [])
    (hstarting : inputs.starting = []) (hsetup : inputs.setup = []) :
    (s.beforeBoard kind inputs).port.readLatch = none := by
  rw [State.beforeBoard, hstarting, hsetup]
  simp [State.starting, h, leadingReads, State.serveReads, State.startReads, State.setPort, State.resetBlocks,
    State.reset]

end

/-! ## The rows of the start-ups -/

/-- A command that starts the part up, the state that its six steps begin with, and their kind. -/
inductive StartsFrom (inputs : StartInputs) (s : State) : Instr → State → StartKind → Prop
  | powerOn (contents : List (Nat × BitVec 8)) (h : ∀ e ∈ contents, e.1 < 262144) :
    StartsFrom inputs s (.powerOn inputs contents)
      { s with mem := Memory.writeCells [] contents, port := { s.port with waiting := [], dataOut := [] } } .powerOn
  | resetPin (cut : Nat) : StartsFrom inputs s (.resetPinRelease inputs cut) (s.cutRecord cut) .restart
  | restart (w : RegWrite) (cut : Nat) (hpin : s.sys.resetPin = false) (hbit : restartBit w = true) :
    StartsFrom inputs s (.restart w inputs cut) (s.clearLatches.cutRecord cut) .restart

section
variable {inputs : StartInputs} {s b : State} {c : Instr} {kind : StartKind}

theorem StartsFrom.runs (h : StartsFrom inputs s c b kind) (hwaiting : s.port.waiting = []) :
    Machine.exec c s = .next (b.startSteps kind inputs) := by
  cases h with
  | powerOn contents hin =>
    rw [← State.startUp_eq .powerOn inputs (s := { s with
      mem := Memory.writeCells [] contents, port := { s.port with waiting := [], dataOut := [] } }) rfl]
    change execPowerOn inputs contents s = _
    rw [execPowerOn, outsideMemory_eq_none.mpr hin]
  | resetPin cut =>
    have hkept : (s.cutRecord cut).port.waiting = [] := by rw [State.cutRecord_port, hwaiting]
    rw [← State.startUp_eq .restart inputs hkept]
    rfl
  | restart w cut hpin hbit =>
    change execRestart w inputs cut s = _
    rw [execRestart, State.access, hpin, if_neg Bool.false_ne_true, State.writeControl]
    exact congrArg Host.Outcome.next (if_pos ((getLsbD_regBits_zero w).trans hbit))

theorem StartsFrom.waiting (h : StartsFrom inputs s c b kind) (hwaiting : s.port.waiting = []) :
    b.port.waiting = [] := by
  cases h with
  | powerOn contents hin => rfl
  | resetPin cut => rw [State.cutRecord_port, hwaiting]
  | restart w cut hpin hbit =>
    rw [State.cutRecord_port]
    exact hwaiting

theorem StartsFrom.lane (h : StartsFrom inputs s c b kind) (l : LaneId) : b.lane l = s.lane l := by
  cases h with
  | powerOn contents hin => rfl
  | resetPin cut =>
    rw [State.cutRecord_eq]
    rfl
  | restart w cut hpin hbit =>
    rw [State.cutRecord_eq]
    rfl

theorem StartsFrom.restartCount (h : StartsFrom inputs s c b kind) : b.sys.restartCount = s.sys.restartCount := by
  cases h with
  | powerOn contents hin => rfl
  | resetPin cut => rw [State.cutRecord_eq]
  | restart w cut hpin hbit =>
    rw [State.cutRecord_eq]
    rfl

theorem startsFrom_of (h : (∃ contents, c = .powerOn inputs contents ∧ ∀ e ∈ contents, e.1 < 262144) ∨
    (∃ cut, c = .resetPinRelease inputs cut) ∨
    (∃ w cut, c = .restart w inputs cut ∧ s.sys.resetPin = false ∧ restartBit w = true)) :
    ∃ b kind, StartsFrom inputs s c b kind ∧ (kind = .powerOn ↔ ∃ contents, c = .powerOn inputs contents) := by
  rcases h with ⟨contents, rfl, hin⟩ | ⟨cut, rfl⟩ | ⟨w, cut, rfl, hpin, hbit⟩
  · exact ⟨_, _, .powerOn contents hin, fun _ => ⟨contents, rfl⟩, fun _ => rfl⟩
  · exact ⟨_, _, .resetPin cut, nofun, nofun⟩
  · exact ⟨_, _, .restart w cut hpin hbit, nofun, nofun⟩

end

end Sys2Proof.Machine
end

section
/-! A start-up resets every block, and serves the accesses that waited for it (10 R191, R205, R206). -/

namespace Sys2Proof.Machine

open Sys2Proof

section
variable {inputs : StartInputs} {s b : State} {c : Instr} {kind : StartKind}

/-! ## Every block -/

theorem State.startSteps_partState (s : State) (kind : StartKind) (inputs : StartInputs) :
    (s.startSteps kind inputs).sys = { (s.resetBlocks kind inputs.strap).sys with partState := .running } := by
  rw [State.startSteps_blocks]

theorem State.startSteps_lanes (s : State) (kind : StartKind) (inputs : StartInputs) :
    (s.startSteps kind inputs).lanes = (s.resetBlocks kind inputs.strap).lanes := by
  rw [State.startSteps_blocks]

theorem State.startSteps_lane (s : State) (kind : StartKind) (inputs : StartInputs) (l : LaneId) :
    (s.startSteps kind inputs).lane l =
      { Lane.reset with openLimit := (s.lane l).openLimit, closedLimit := (s.lane l).closedLimit } :=
  (State.lane_congr (s.startSteps_lanes kind inputs) l).trans (s.resetBlocks_lane kind inputs.strap l)

theorem clock_raised (w : Word) : (0x0020#16 ||| w) &&& 0x0020#16 = 0x0020#16 := by
  rw [BitVec.or_comm]
  exact attention_raised w _

theorem startUpResets (h : StartsFrom inputs s c b kind)
    (hpowerOn : kind = .powerOn ↔ ∃ contents, c = .powerOn inputs contents) (hwaiting : s.port.waiting = []) :
    ∃ t, exec c s = .next t ∧
      t.clock = State.reset.clock ∧ t.params = Parameters.default ∧ t.scanner = ⟨none, [], none⟩ ∧
      t.emergency = ⟨false, false, 0⟩ ∧ t.engine.slots = State.reset.engine.slots ∧ t.engine.requests = [] ∧
      t.engine.service = none ∧ t.fare = State.reset.fare ∧ t.screening = ⟨[], none, none⟩ ∧
      t.journal = State.reset.journal ∧ t.orders.held = State.reset.orders.held ∧
      t.orders.ready = State.reset.orders.ready ∧ t.orders.lastTaken = 7 ∧ t.orders.service = none ∧
      t.orders.watchEvents = [] ∧ t.orders.tallyEvents = 0 ∧ t.deferred = [] ∧
      t.port.width = inputs.strap ∧ t.port.byteLatch = none ∧ t.port.waiting = [] ∧
      (inputs.starting = [] → inputs.setup = [] → t.port.readLatch = none) ∧
      t.regs.mask = 0#16 ∧ t.regs.attention &&& 0x0020#16 = 0x0020#16 ∧ t.sys.partState = .running ∧
      t.sys.lastHeld = 0 ∧ t.sys.resetPin = false ∧
      (∀ contents, c = .powerOn inputs contents → t.sys.restartCount = 0#16) ∧
      ((∀ contents, c ≠ .powerOn inputs contents) → t.sys.restartCount = s.sys.restartCount + 1#16) ∧
      ∀ l, t.lane l =
        { Lane.reset with openLimit := (s.lane l).openLimit, closedLimit := (s.lane l).closedLimit } := by
  have hbwaiting := h.waiting hwaiting
  obtain ⟨hwidth, hlatch⟩ := State.beforeBoard_unlatched kind inputs hbwaiting
  have hregs := b.startSteps_regs kind inputs
  have hlane := b.startSteps_lane kind inputs
  have hsys := b.startSteps_partState kind inputs
  have hport := State.startSteps_waiting kind inputs hbwaiting
  refine ⟨_, h.runs hwaiting, ?_⟩
  have hblocks := b.startSteps_blocks kind inputs
  have hreadLatch := State.beforeBoard_readLatch (s := b) kind inputs hbwaiting
  generalize b.startSteps kind inputs = t at hblocks hregs hlane hsys hport ⊢
  generalize (b.beforeBoard kind inputs).port = p at hblocks hwidth hlatch hreadLatch
  have htport : t.port = p := by rw [hblocks]
  have hcount : kind = .powerOn ∧ t.sys.restartCount = 0#16 ∨
      kind = .restart ∧ t.sys.restartCount = s.sys.restartCount + 1#16 := by
    rw [hsys, ← h.restartCount]
    clear hblocks hregs hlane hsys hport h hpowerOn
    cases kind with
    | powerOn => exact .inl ⟨rfl, rfl⟩
    | restart => exact .inr ⟨rfl, rfl⟩
  refine ⟨?_, ?_, ?_, ?_, ?_, ?_, ?_, ?_, ?_, ?_, ?_, ?_, ?_, ?_, ?_, ?_, ?_, ?_, ?_, hport, ?_, ?_, ?_, ?_, ?_, ?_,
    fun contents hc => ?_, fun hnot => ?_, fun l => ?_⟩
  case refine_18 => rw [htport, hwidth]
  case refine_19 => rw [htport, hlatch]
  case refine_20 => rwa [htport]
  case refine_21 => rw [hregs]
  case refine_22 =>
    rw [hregs]
    exact clock_raised _
  case refine_26 =>
    rcases hcount with ⟨-, hcount⟩ | ⟨hkind, -⟩
    · exact hcount
    · exact absurd (hkind.symm.trans (hpowerOn.mpr ⟨contents, hc⟩)) nofun
  case refine_27 =>
    rcases hcount with ⟨hkind, -⟩ | ⟨-, hcount⟩
    · obtain ⟨contents, hc⟩ := hpowerOn.mp hkind
      exact absurd hc (hnot contents)
    · exact hcount
  case refine_28 => rw [hlane, h.lane]
  case refine_23 => rw [hsys]
  case refine_24 =>
    rw [hsys]
    rfl
  case refine_25 =>
    rw [hsys]
    rfl
  case refine_11 => rw [hblocks]
  case refine_12 => rw [hblocks]
  all_goals
    rw [hblocks]
    rfl

/-! ## Accesses that a start-up serves (R191) -/

theorem State.startSteps_port (b : State) (kind : StartKind) (inputs : StartInputs) :
    (b.startSteps kind inputs).port = (b.beforeBoard kind inputs).port := by
  rw [State.startSteps_blocks]

theorem State.portRead_word {u : State} (wa : BitVec 17) (h : u.port.width = .bits16) : u.portRead (.word wa) =
    u.clearLatches.drive [u.portByte (2 * wa.toNat), u.portByte (2 * wa.toNat + 1)] := by
  simp only [State.portRead, h]

/-- The part state's word is read on a port of sixteen bits. -/
theorem portRead_partState {u : State} (p : PartState) {m : List Host.Cell} (hwf : Memory.wf m = true)
    (hmem : u.mem = Memory.writeBytes m 0 (leBytes 2 p.code)) (hwidth : u.port.width = .bits16) :
    (u.portRead (.word 0#17)).port.dataOut = [BitVec.ofNat 8 p.code, 0#8] := by
  have hread := State.portRead_word 0#17 hwidth
  obtain ⟨hlow, hhigh⟩ := Memory.read_writeWord (a := 0) (BitVec.ofNat 16 p.code) hwf (by decide)
  have hcode : (BitVec.ofNat 16 p.code).toNat = p.code := by cases p <;> rfl
  rw [hcode] at hlow hhigh
  rw [hread]
  change [Memory.read u.mem 0, Memory.read u.mem 1] = _
  rw [hmem, hlow, show (1 : Nat) = 0 + 1 from rfl, hhigh]
  cases p <;> rfl

/-- A read that waits is served once STARTING is written. -/
theorem startingRead (hmem : b.MemoryLegal) (hstrap : inputs.strap = .bits16)
    (hwaiting : b.port.waiting = [.read (.word 0#17)]) (hstarting : inputs.starting = []) (hsetup : inputs.setup = []) :
    (b.startSteps kind inputs).port.dataOut = [1#8, 0#8] ∧ (b.startSteps kind inputs).port.waiting = [] := by
  have hport : (b.beforeBoard kind inputs).port = (b.starting kind inputs.strap).port := by
    rw [State.beforeBoard, hstarting, hsetup]
    simp [State.startReads]
  have hbegun : (b.starting kind inputs.strap).port =
      { (((b.resetBlocks kind inputs.strap).setPartState .starting).portRead (.word 0#17)).port with
        waiting := [] } := by
    simp [State.starting, hwaiting, leadingReads, State.serveReads, State.setPort]
  rw [State.startSteps_port, hport, hbegun]
  exact ⟨portRead_partState .starting hmem rfl hstrap, rfl⟩

/-- A read begun once SETUP is written is served then. -/
theorem setupRead (hmem : b.MemoryLegal) (hstrap : inputs.strap = .bits16) (hwaiting : b.port.waiting = [])
    (hsetup : inputs.setup = [.word 0#17]) : (b.startSteps kind inputs).port.dataOut = [2#8, 0#8] := by
  obtain ⟨u, hu⟩ : ∃ u, u = ((b.starting kind inputs.strap).startReads inputs.starting).writeHeader := ⟨_, rfl⟩
  have hbefore : b.beforeBoard kind inputs = (u.setPartState .setup).startReads [.word 0#17] := by
    rw [hu, ← hsetup]
    rfl
  have hempty : (b.starting kind inputs.strap).port.waiting = [] := by simp [State.starting, hwaiting, leadingReads]
  have huport : u.port.waiting = [] := by
    rw [hu, State.writeHeader_port]
    exact State.startReads_waiting _ _ hempty
  have hread : (u.setPartState .setup).startReads [.word 0#17] = (u.setPartState .setup).portRead (.word 0#17) := by
    simp [State.startReads, huport, memoryAccess]
  have hwf : Memory.wf u.mem = true := by
    rw [hu]
    refine (State.writeHeader_accessed _).memory ((State.startReads_same _ _).accessed.memory ?_)
    exact (b.starting_accessed kind inputs.strap).memory hmem
  have hwidth : u.port.width = .bits16 := by
    rw [hu, State.writeHeader_port, ← hstrap]
    exact (State.startReads_unlatched _ (State.starting_unlatched kind inputs.strap hwaiting)).1
  rw [State.startSteps_port, hbefore, hread]
  exact portRead_partState .setup hwf rfl hwidth

/-- A read begun once STARTING is written is served then. -/
theorem startingReadBegun (hmem : b.MemoryLegal) (hstrap : inputs.strap = .bits16) (hwaiting : b.port.waiting = [])
    (hstarting : inputs.starting = [.word 0#17]) (hsetup : inputs.setup = []) :
    (b.startSteps kind inputs).port.dataOut = [1#8, 0#8] := by
  have hbegun : b.starting kind inputs.strap = (b.resetBlocks kind inputs.strap).setPartState .starting := by
    have hnone : ((b.resetBlocks kind inputs.strap).setPartState .starting).port.waiting = [] := hwaiting
    unfold State.starting
    dsimp only
    rw [hnone]
    exact State.setPort_waiting_nil hnone
  have hport : (b.beforeBoard kind inputs).port =
      ((b.starting kind inputs.strap).startReads [.word 0#17]).port := by
    rw [State.beforeBoard, hstarting, hsetup]
    simp [State.startReads]
  have hread : (b.starting kind inputs.strap).startReads [.word 0#17] =
      (b.starting kind inputs.strap).portRead (.word 0#17) := by
    rw [hbegun]
    simp [State.startReads, hwaiting, memoryAccess]
  rw [State.startSteps_port, hport, hread, hbegun]
  exact portRead_partState .starting hmem rfl hstrap

/-! ## Accesses that wait for RUNNING -/

/-- While an access waits for RUNNING the reads begun in the start-up wait behind it. -/
theorem State.startReads_queued : ∀ (rs : List MemoryRead) (s : State), s.port.waiting ≠ [] →
    (s.startReads rs).port = { s.port with waiting := s.port.waiting ++ (rs.map memoryAccess).map .read }
  | [], s, _ => by
    rw [List.map_nil, List.map_nil, List.append_nil]
    rfl
  | r :: rest, s, h => by
    have hqueued : s.startReads (r :: rest) = (s.setPort fun p =>
        { p with waiting := p.waiting ++ [.read (memoryAccess r)] }).startReads rest := by
      simp [State.startReads, h]
    rw [hqueued, State.startReads_queued rest _ (by simp [State.setPort])]
    simp [State.setPort]

/-- Reads that are served leave all but the port, and what waits there. -/
theorem State.serveWaiting_reads : ∀ (rs : List PortRead) (s : State),
    s.SamePort (s.serveWaiting (rs.map .read)) ∧ (s.serveWaiting (rs.map .read)).port.waiting = s.port.waiting
  | [], s => ⟨.refl s, rfl⟩
  | r :: rest, s => by
    obtain ⟨hsame, hwaiting⟩ := State.serveWaiting_reads rest (s.portRead r)
    exact ⟨(State.portRead_same s r).trans hsame, hwaiting.trans (State.portRead_waiting s r)⟩

/-- The accesses that wait for RUNNING stand first after the steps. -/
theorem State.startSteps_queued {waiting : List PortAccess} (hwaiting : b.port.waiting = waiting)
    (hlead : leadingReads waiting = ([], waiting)) (hsome : waiting ≠ []) :
    (b.startSteps kind inputs).port.waiting =
      waiting ++ ((inputs.starting ++ inputs.setup).map memoryAccess).map .read ∧
    (b.startSteps kind inputs).port.width = inputs.strap := by
  obtain ⟨u, hu⟩ : ∃ u, u = b.starting kind inputs.strap := ⟨_, rfl⟩
  have hport : u.port = { (b.resetBlocks kind inputs.strap).port with waiting := waiting } := by
    rw [hu]
    simp [State.starting, hwaiting, hlead, State.serveReads, State.setPort]
  have huwaiting : u.port.waiting = waiting := by rw [hport]
  have hfirst := State.startReads_queued inputs.starting u (by rwa [huwaiting])
  have hsecond := State.startReads_queued inputs.setup
    ((u.startReads inputs.starting).writeHeader.setPartState .setup) (by
      rw [State.setPartState_port, State.writeHeader_port, hfirst, huwaiting]
      exact List.append_ne_nil_of_left_ne_nil hsome _)
  rw [State.setPartState_port, State.writeHeader_port, hfirst] at hsecond
  rw [State.startSteps_port, State.beforeBoard, ← hu, hsecond, huwaiting, hport]
  exact ⟨by rw [List.append_assoc, ← List.map_append, ← List.map_append], rfl⟩

/-- The waiting accesses are served once RUNNING is written. -/
def State.served (t : State) (waiting : List PortAccess) : State :=
  (t.setPort fun p => { p with waiting := [] }).serveWaiting waiting

/-- A write to the mask, and the reads behind it. -/
theorem maskServed {t : State} {v : Word} (rs : List PortRead) (hmask : t.regs.mask = 0#16) :
    (t.served (.mask (.word v) :: rs.map .read)).regs.mask = v &&& 0x003F#16 ∧
      (t.served (.mask (.word v) :: rs.map .read)).port.waiting = [] := by
  obtain ⟨u, hu⟩ : ∃ u, u = (t.setPort fun p => { p with waiting := [] }).writeMask (.word v) := ⟨_, rfl⟩
  have hserved : t.served (.mask (.word v) :: rs.map .read) = u.serveWaiting (rs.map .read) := by
    rw [hu]
    rfl
  obtain ⟨hsame, hkept⟩ := State.serveWaiting_reads rs u
  have hwritten : u.regs.mask = v &&& 0x003F#16 := by
    rw [hu]
    change ((t.regs.mask &&& ~~~0xFFFF#16) ||| v) &&& causeBits = _
    rw [hmask]
    simp [causeBits]
  rw [hserved]
  refine ⟨?_, hkept.trans ?_⟩
  · rw [hsame]
    exact hwritten
  · rw [hu]
    rfl

/-- After the steps nothing in the free region is held (R194). -/
theorem heldAt_free {u : State} {a : Nat} (hheld : u.orders.held = State.reset.orders.held) (ha : 0x300 ≤ a) :
    u.heldAt a = false := by
  unfold State.heldAt
  rw [hheld]
  have hplaces : (State.reset.orders.held.places.any fun p => p.any fun r => r.contains a) = false := rfl
  rw [hplaces, Bool.false_or]
  refine Bool.eq_false_iff.mpr fun hany => ?_
  obtain ⟨k, -, hk⟩ := List.any_eq_true.mp hany
  obtain ⟨-, hcontains⟩ := Bool.and_eq_true_iff.mp hk
  have hin : slotBase k ≤ a ∧ a < slotBase k + 2 := by simpa [Area.contains] using hcontains
  unfold slotBase at hin
  omega

/-- A word that is written and then read, both while they wait. -/
theorem writeAndReadServed {t : State} {wa : BitVec 17} {v : Word} (hwf : t.MemoryLegal)
    (hwidth : t.port.width = .bits16) (hheld : t.orders.held = State.reset.orders.held)
    (hfree : 0x300 ≤ 2 * wa.toNat) : let u := t.served [.write (.word wa v), .read (.word wa)]
    Memory.readNat u.mem (2 * wa.toNat) 2 = v.toNat ∧ u.port.dataOut = [v.setWidth 8, (v >>> 8).setWidth 8] ∧
      u.port.waiting = [] := by
  intro u
  obtain ⟨x, hx⟩ : ∃ x, x = t.setPort fun p => { p with waiting := [] } := ⟨_, rfl⟩
  have hxwidth : x.port.width = .bits16 := by
    rw [hx]
    exact hwidth
  have hxmem : Memory.wf x.mem = true := by
    rw [hx]
    exact hwf
  have hxheld : x.orders.held = State.reset.orders.held := by
    rw [hx]
    exact hheld
  have hxwaiting : x.port.waiting = [] := by
    rw [hx]
    rfl
  have hrange : 2 * wa.toNat + 2 ≤ 0x40000 := by
    have := wa.isLt
    omega
  have hzero : ¬ zeroWord (2 * wa.toNat) := by
    unfold zeroWord
    omega
  have hwritten : x.portWrite (.word wa v) = x.written (2 * wa.toNat) (leBytes 2 v.toNat) (2 * wa.toNat) :=
    (State.portWrite_word wa v hxwidth).trans (State.served_word v hzero (heldAt_free hxheld hfree)
      (heldAt_free hxheld (by omega)))
  have hfinal : u = (x.written (2 * wa.toNat) (leBytes 2 v.toNat) (2 * wa.toNat)).portRead (.word wa) := by
    rw [← hwritten, hx]
    rfl
  have hwmem := x.written_mem (2 * wa.toNat) (leBytes 2 v.toNat) (2 * wa.toNat)
  have hwport : (x.written (2 * wa.toNat) (leBytes 2 v.toNat) (2 * wa.toNat)).port = Port.emptied x.port := by
    rw [State.written_eq]
  generalize x.written (2 * wa.toNat) (leBytes 2 v.toNat) (2 * wa.toNat) = w at hfinal hwmem hwport
  obtain ⟨hlow, hhigh⟩ := Memory.read_writeWord v hxmem hrange
  have hread : w.portRead (.word wa) = _ := State.portRead_word wa (by rw [hwport]; exact hxwidth)
  have hzeroLow : zeroAt (2 * wa.toNat) = false := Bool.eq_false_iff.mpr fun h => hzero (zeroAt_iff.mp h)
  have hzeroHigh : zeroAt (2 * wa.toNat + 1) = false := Bool.eq_false_iff.mpr fun h => by
    have hword := zeroAt_iff.mp h
    unfold zeroWord at hword
    omega
  refine ⟨?_, ?_, ?_⟩
  · rw [hfinal, State.portRead_same, hwmem, Memory.readNat_writeBytes 2 v.toNat hxmem hrange]
    exact Nat.mod_eq_of_lt v.isLt
  · rw [hfinal, hread]
    change [w.portByte (2 * wa.toNat), w.portByte (2 * wa.toNat + 1)] = _
    rw [State.portByte, State.portByte, hzeroLow, hzeroHigh, hwmem]
    exact congr (congrArg List.cons hlow) (congrArg (fun y => [y]) hhigh)
  · rw [hfinal, State.portRead_waiting, hwport]
    exact hxwaiting

theorem State.startUp_served {waiting : List PortAccess} (h : (b.startSteps kind inputs).port.waiting = waiting) :
    b.startUp kind inputs = (b.startSteps kind inputs).served waiting := by
  unfold State.startUp
  dsimp only
  rw [h]
  rfl

theorem waitingMask {v : Word} (hwaiting : b.port.waiting = [.mask (.word v)]) :
    (b.startUp kind inputs).regs.mask = v &&& 0x003F#16 ∧ (b.startUp kind inputs).port.waiting = [] := by
  obtain ⟨hqueued, -⟩ := State.startSteps_queued (kind := kind) (inputs := inputs) hwaiting rfl (List.cons_ne_nil _ _)
  have hmask : (b.startSteps kind inputs).regs.mask = 0#16 := by rw [State.startSteps_regs]
  rw [State.startUp_served hqueued]
  exact maskServed _ hmask

theorem waitingWriteAndRead {wa : BitVec 17} {v : Word} (hmem : b.MemoryLegal) (hstrap : inputs.strap = .bits16)
    (hfree : 0x300 ≤ 2 * wa.toNat) (hstarting : inputs.starting = []) (hsetup : inputs.setup = [])
    (hwaiting : b.port.waiting = [.write (.word wa v), .read (.word wa)]) : let u := b.startUp kind inputs
    Memory.readNat u.mem (2 * wa.toNat) 2 = v.toNat ∧ u.port.dataOut = [v.setWidth 8, (v >>> 8).setWidth 8] ∧
      u.port.waiting = [] := by
  obtain ⟨hqueued, hwidth⟩ := State.startSteps_queued (kind := kind) (inputs := inputs) hwaiting rfl
    (List.cons_ne_nil _ _)
  rw [hstarting, hsetup] at hqueued
  have hheld : (b.startSteps kind inputs).orders.held = State.reset.orders.held := by rw [State.startSteps_blocks]
  have hwf : (b.startSteps kind inputs).MemoryLegal := (b.startSteps_accessed kind inputs).memory hmem
  have hserved := State.startUp_served hqueued
  generalize b.startUp kind inputs = u at hserved ⊢
  generalize b.startSteps kind inputs = t at hserved hwf hwidth hheld
  subst hserved
  exact writeAndReadServed hwf (hwidth.trans hstrap) hheld hfree

end

/-- Settles O4. -/
theorem startUpResetsEveryBlock : Obligations.StartUpResetsEveryBlock := by
  refine ⟨fun c inputs s hwaiting h => ?_, fun inputs cut s hmem hstrap => ⟨fun hwaiting hstarting hsetup => ?_,
    fun hwaiting hsetup => ?_, fun hwaiting hpin hstarting hsetup => ?_, fun v hwaiting => ?_,
    fun wa v hfree hstarting hsetup hwaiting => ?_⟩⟩
  · obtain ⟨b, kind, hstarts, hpowerOn⟩ := startsFrom_of h
    exact startUpResets hstarts hpowerOn hwaiting
  all_goals have hcutMem : (s.cutRecord cut).MemoryLegal := State.cutRecord_wf cut hmem
  · obtain ⟨hdata, hserved⟩ := startingRead (kind := .restart) hcutMem hstrap
      (by rw [State.cutRecord_port, hwaiting]) hstarting hsetup
    refine ⟨_, rfl, ?_⟩
    rw [State.startUp_of_served _ _ hserved]
    exact ⟨hdata, hserved⟩
  · have hcut : (s.cutRecord cut).port.waiting = [] := by rw [State.cutRecord_port, hwaiting]
    refine ⟨_, (StartsFrom.resetPin cut).runs hwaiting, setupRead hcutMem hstrap hcut hsetup,
      State.startSteps_waiting _ _ hcut⟩
  · have hcut : (s.clearLatches.cutRecord cut).port.waiting = [] := by
      rw [State.cutRecord_port]
      exact hwaiting
    exact ⟨_, (StartsFrom.restart (.word 1#16) cut hpin rfl).runs hwaiting,
      startingReadBegun (State.cutRecord_wf cut hmem) hstrap hcut hstarting hsetup⟩
  · exact ⟨_, rfl, waitingMask (by rw [State.cutRecord_port, hwaiting])⟩
  · exact ⟨_, rfl, waitingWriteAndRead hcutMem hstrap hfree hstarting hsetup (by rw [State.cutRecord_port, hwaiting])⟩

end Sys2Proof.Machine
end

section
/-! The order board after a start-up (10 R205 step 4, R206; 04 R71). -/

namespace Sys2Proof.Machine

open Sys2Proof

/-! ## One slot -/

section
variable {s : State} {k : Fin 8} {kind : StartKind}

theorem SlotState.ofCode?_kept {w : Nat} (h : w < 5) : ∃ v, SlotState.ofCode? w = some v ∧ v.code = w := by
  match w, h with
  | 0, _ => exact ⟨.empty, rfl, rfl⟩
  | 1, _ => exact ⟨.posted, rfl, rfl⟩
  | 2, _ => exact ⟨.taken, rfl, rfl⟩
  | 3, _ => exact ⟨.done, rfl, rfl⟩
  | 4, _ => exact ⟨.refused, rfl, rfl⟩

theorem SlotState.ofCode?_none {w : Nat} (h : 5 ≤ w) : SlotState.ofCode? w = none := by
  obtain ⟨n, rfl⟩ := Nat.exists_eq_add_of_le' h
  rfl

/-- A restart keeps the state that a slot's word holds, but TAKEN. -/
theorem State.examineSlot_kept (h : stateWord s.mem k < 5) (hnot : stateWord s.mem k ≠ 2) :
    ∃ v : SlotState, v.code = stateWord s.mem k ∧ State.examineSlot .restart s k = s.setSlot k v := by
  obtain ⟨v, hv, hcode⟩ := SlotState.ofCode?_kept h
  refine ⟨v, hcode, ?_⟩
  unfold State.examineSlot
  unfold stateWord at hv
  rw [hv]
  cases v with
  | taken => exact absurd hcode.symm hnot
  | empty | posted | done | refused => rfl

/-- A word that holds no state is written EMPTY, and so is any that a power-on does not refuse. -/
theorem State.examineSlot_emptied (h : kind = .restart ∧ 5 ≤ stateWord s.mem k ∨
    kind = .powerOn ∧ stateWord s.mem k ≠ 1 ∧ stateWord s.mem k ≠ 2) : State.examineSlot kind s k =
      (s.setSlot k .empty).writeMem (slotBase k) (leBytes 2 SlotState.empty.code) := by
  unfold State.examineSlot
  rcases h with ⟨rfl, hbig⟩ | ⟨rfl, hposted, htaken⟩
  · have hnone := SlotState.ofCode?_none hbig
    unfold stateWord at hnone
    rw [hnone]
  · unfold stateWord at hposted htaken
    cases hv : SlotState.ofCode? (Memory.readNat s.mem (slotBase k) 2) with
    | none => rfl
    | some v =>
      have hcode : v.code = Memory.readNat s.mem (slotBase k) 2 := by
        by_cases hsmall : Memory.readNat s.mem (slotBase k) 2 < 5
        · obtain ⟨v', hv', hcode⟩ := SlotState.ofCode?_kept hsmall
          obtain rfl := Option.some.inj (hv.symm.trans hv')
          exact hcode
        · exact absurd (hv.symm.trans (SlotState.ofCode?_none (Nat.le_of_not_lt hsmall))) nofun
      cases v with
      | posted => exact absurd hcode.symm hposted
      | taken => exact absurd hcode.symm htaken
      | empty | done | refused => rfl

theorem State.examineSlot_refused (h : refusesWord kind (stateWord s.mem k) = true) :
    State.examineSlot kind s k = (s.zeroSlotStaging k).refuseSlot k := by
  rcases State.examineSlot_cases kind s k with ⟨-, hrefused⟩ | ⟨hkept, -⟩
  · exact hrefused
  · exact absurd (h.symm.trans hkept) (Bool.false_ne_true ∘ Eq.symm)

theorem slotBase_bounds (k : Fin 8) : 0x100 ≤ slotBase k ∧ slotBase k + 64 ≤ 0x300 := by
  have := k.isLt
  unfold slotBase
  omega

/-! ## A slot that is refused -/

/-- The bytes of a slot that has been refused RESTART. -/
theorem State.refuseSlot_bytes (hwf : s.MemoryLegal) :
    stateWord (s.refuseSlot k).mem k = 4 ∧ Memory.read (s.refuseSlot k).mem (slotBase k + 3) = 24#8 ∧
      Memory.readNat (s.refuseSlot k).mem (slotBase k + 6) 2 = Memory.readNat s.mem (slotBase k + 4) 2 := by
  obtain ⟨hlow, hhigh⟩ := slotBase_bounds k
  obtain ⟨m1, hm1⟩ : ∃ m, m = Memory.writeBytes s.mem (slotBase k + 48) (List.replicate 16 0#8) := ⟨_, rfl⟩
  obtain ⟨m2, hm2⟩ : ∃ m, m = Memory.writeBytes m1 (slotBase k + 3) (leBytes 1 OrderCode.restart.code) := ⟨_, rfl⟩
  obtain ⟨m3, hm3⟩ : ∃ m, m = Memory.writeBytes m2 (slotBase k + 6) (Memory.readBytes m2 (slotBase k + 4) 2) :=
    ⟨_, rfl⟩
  have hmem : (s.refuseSlot k).mem = Memory.writeBytes m3 (slotBase k) (leBytes 2 SlotState.refused.code) := by
    simp only [State.refuseSlot, State.raise_mem, State.setSlot_mem, State.writeMem_mem, ← hm1, ← hm2, ← hm3]
  have hwf1 : Memory.wf m1 = true := hm1 ▸ Memory.wf_writeBytes _ _ _ hwf
  have hwf2 : Memory.wf m2 = true := hm2 ▸ Memory.wf_writeBytes _ _ _ hwf1
  have hwf3 : Memory.wf m3 = true := hm3 ▸ Memory.wf_writeBytes _ _ _ hwf2
  have hlength : (Memory.readBytes m2 (slotBase k + 4) 2).length = 2 := Memory.length_readBytes _ _ _
  rw [hmem]
  refine ⟨Memory.readNat_writeBytes 2 4 hwf3 (by omega), ?_, ?_⟩
  · rw [Memory.read_writeBytes_outside _ _ _ _ (by rw [length_leBytes]; omega), hm3,
      Memory.read_writeBytes_outside _ _ _ _ (by omega), hm2]
    exact Memory.read_writeBytes_inside (leBytes 1 OrderCode.restart.code) m1 (slotBase k + 3) 0 (by decide) hwf1
      (by rw [length_leBytes]; exact (by omega : slotBase k + 3 + 1 ≤ 0x40000))
  · rw [Memory.readNat_writeBytes_disjoint (.inl (by rw [length_leBytes]; omega)), Memory.readNat, hm3]
    have hplaced := Memory.readBytes_writeBytes (Memory.readBytes m2 (slotBase k + 4) 2) m2 (slotBase k + 6) hwf2
      (by omega)
    rw [hlength] at hplaced
    rw [hplaced, hm2, Memory.readBytes_writeBytes_disjoint (.inl (Nat.le_of_eq (by rw [length_leBytes]))), hm1,
      Memory.readBytes_writeBytes_disjoint (.inr (by omega))]
    rfl

theorem State.refuseSlot_slots : (s.refuseSlot k).orders.slots = s.orders.slots.set k .refused := by
  simp only [State.refuseSlot, State.raise_orders, State.setSlot_orders, State.writeMem_orders]

end

/-! ## The staging area of a refused slot -/

section
variable {s t u : State} {k j : Fin 8} {kind : StartKind} {a : Nat}

theorem stagingBytes_iff {m : List Host.Cell} : stagingBytes m k a ↔
    ((Memory.read m (slotBase k + 2)).toNat = 6 ∧ (slotStaging m k).inFree = true) ∧
      bytesFrom (slotStaging m k).base 16 a := by
  rw [Area.inFree_iff]
  constructor
  · rintro ⟨hcode, hlow, hhigh, hbytes⟩
    exact ⟨⟨congrArg BitVec.toNat hcode, hlow, hhigh⟩, hbytes⟩
  · rintro ⟨⟨hcode, hlow, hhigh⟩, hbytes⟩
    exact ⟨BitVec.eq_of_toNat_eq hcode, hlow, hhigh, hbytes⟩

theorem State.zeroSlotStaging_read (h : ¬ stagingBytes s.mem k a) :
    Memory.read (s.zeroSlotStaging k).mem a = Memory.read s.mem a := by
  rw [stagingBytes_iff] at h
  unfold State.zeroSlotStaging
  dsimp only
  split
  next hfree => exact Memory.read_writeBytes_of_not fun hbytes => h ⟨hfree, hbytes⟩
  next => rfl

theorem State.zeroSlotStaging_zero (hwf : s.MemoryLegal) (h : stagingBytes s.mem k a) :
    Memory.read (s.zeroSlotStaging k).mem a = 0#8 := by
  obtain ⟨hfree, hlow, hhigh⟩ := stagingBytes_iff.mp h
  obtain ⟨-, hsize⟩ := Area.inFree_iff.mp hfree.2
  obtain ⟨i, rfl⟩ := Nat.exists_eq_add_of_le hlow
  unfold State.zeroSlotStaging
  dsimp only
  rw [if_pos hfree]
  have hi : i < (List.replicate 16 0#8).length := by
    rw [List.length_replicate]
    omega
  exact (Memory.read_writeBytes_inside _ _ _ i hi hwf hsize).trans (List.getElem_replicate hi)

theorem State.zeroSlotStaging_wf (hwf : s.MemoryLegal) : (s.zeroSlotStaging k).MemoryLegal := by
  unfold State.zeroSlotStaging
  dsimp only
  split
  · exact Memory.wf_writeBytes _ _ _ hwf
  · exact hwf

@[simp] theorem State.zeroSlotStaging_orders : (s.zeroSlotStaging k).orders = s.orders := by
  unfold State.zeroSlotStaging
  dsimp only
  split <;> rfl

theorem not_bytesFrom_slot_of_free (h : 0x300 ≤ a) : ¬ bytesFrom (slotBase k) 64 a := by
  obtain ⟨-, hhigh⟩ := slotBase_bounds k
  unfold bytesFrom
  omega

/-- In the free region the examination of a slot writes its staging area only, and only when it refuses the slot. -/
theorem State.examineSlot_free (ha : 0x300 ≤ a)
    (h : refusesWord kind (stateWord s.mem k) = true → ¬ stagingBytes s.mem k a) :
    Memory.read (State.examineSlot kind s k).mem a = Memory.read s.mem a := by
  have hslot : ¬ bytesFrom (slotBase k) 64 a := not_bytesFrom_slot_of_free ha
  obtain ⟨hrefused, hk⟩ | ⟨-, ⟨v, hk⟩ | hk⟩ := State.examineSlot_cases kind s k <;> rw [hk]
  · exact (State.refuseSlot_read _ hslot).trans (State.zeroSlotStaging_read (h hrefused))
  · rfl
  · refine Memory.read_writeBytes_of_not fun hbytes => hslot ?_
    rw [length_leBytes] at hbytes
    unfold bytesFrom at *
    omega

/-- What it writes there is zero. -/
theorem State.examineSlot_zero (hwf : s.MemoryLegal) (ha : 0x300 ≤ a)
    (h : Memory.read s.mem a = 0#8 ∨ refusesWord kind (stateWord s.mem k) = true ∧ stagingBytes s.mem k a) :
    Memory.read (State.examineSlot kind s k).mem a = 0#8 := by
  by_cases hstaged : refusesWord kind (stateWord s.mem k) = true ∧ stagingBytes s.mem k a
  · rw [State.examineSlot_refused hstaged.1, State.refuseSlot_read _ (not_bytesFrom_slot_of_free ha)]
    exact State.zeroSlotStaging_zero hwf hstaged.2
  · rw [State.examineSlot_free ha fun hrefused hbytes => hstaged ⟨hrefused, hbytes⟩]
    exact h.resolve_right hstaged

/-! ## What the examination leaves of a slot -/

/-- A slot after a start-up of that kind over a memory (R205 step 4, R206). -/
structure Examined (kind : StartKind) (m : List Host.Cell) (t : State) (k : Fin 8) : Prop where
  refused : refusesWord kind (stateWord m k) = true → t.orders.slots[k] = .refused ∧ stateWord t.mem k = 4 ∧
    Memory.read t.mem (slotBase k + 3) = 24#8 ∧
    Memory.readNat t.mem (slotBase k + 6) 2 = Memory.readNat m (slotBase k + 4) 2 ∧
    ∀ a, stagingBytes m k a → Memory.read t.mem a = 0#8
  kept : kind = .restart → stateWord m k ≠ 2 → stateWord m k < 5 →
    t.orders.slots[k].code = stateWord m k ∧ stateWord t.mem k = stateWord m k
  emptied : kind = .restart ∧ 5 ≤ stateWord m k ∨ kind = .powerOn ∧ stateWord m k ≠ 1 ∧ stateWord m k ≠ 2 →
    t.orders.slots[k] = .empty ∧ stateWord t.mem k = 0

/-- Two memories read alike over a slot. -/
def SameSlot (m m' : List Host.Cell) (k : Fin 8) : Prop :=
  ∀ a, bytesFrom (slotBase k) 64 a → Memory.read m' a = Memory.read m a

theorem SameBoard.sameSlot {m m' : List Host.Cell} (h : SameBoard m m') (k : Fin 8) : SameSlot m m' k :=
  fun a ⟨hlow, hhigh⟩ => by
    obtain ⟨hfirst, hlast⟩ := slotBase_bounds k
    exact h a (by omega) (by omega)

theorem SameSlot.readNat {m m' : List Host.Cell} (h : SameSlot m m' k) {i n : Nat} (hn : i + n ≤ 64) :
    Memory.readNat m' (slotBase k + i) n = Memory.readNat m (slotBase k + i) n :=
  Memory.readNat_congr n _ fun a ⟨hlow, hhigh⟩ => h a ⟨by omega, by omega⟩

theorem SameSlot.read {m m' : List Host.Cell} (h : SameSlot m m' k) {i : Nat} (hi : i < 64) :
    Memory.read m' (slotBase k + i) = Memory.read m (slotBase k + i) := h _ ⟨by omega, by omega⟩

theorem SameSlot.stateWord {m m' : List Host.Cell} (h : SameSlot m m' k) : stateWord m' k = stateWord m k :=
  h.readNat (i := 0) (by omega)

theorem SameSlot.stagingBytes_iff {m m' : List Host.Cell} (h : SameSlot m m' k) :
    stagingBytes m' k a ↔ stagingBytes m k a := by
  unfold stagingBytes
  rw [h.read (by omega), h.readNat (by omega)]

/-- Only the slot's own bytes say what the examination makes of it. -/
theorem Examined.of_sameSlot {m m' : List Host.Cell} (hsame : SameSlot m m' k) (h : Examined kind m' t k) :
    Examined kind m t k := by
  obtain ⟨hrefused, hkept, hemptied⟩ := h
  rw [hsame.stateWord] at hrefused hkept hemptied
  refine ⟨fun hword => ?_, hkept, hemptied⟩
  obtain ⟨hslot, hword', hcode, hserial, hzero⟩ := hrefused hword
  exact ⟨hslot, hword', hcode, hserial.trans (hsame.readNat (by omega)),
    fun a ha => hzero a (hsame.stagingBytes_iff.mpr ha)⟩

/-- A later step leaves that slot, and zeros of the free region. -/
structure State.LeavesSlot (t u : State) (k : Fin 8) : Prop where
  slot : u.orders.slots[k] = t.orders.slots[k]
  bytes : SameSlot t.mem u.mem k
  zeros : ∀ a, 0x300 ≤ a → Memory.read t.mem a = 0#8 → Memory.read u.mem a = 0#8

theorem Examined.leaves {m : List Host.Cell} (h : Examined kind m t k) (hleaves : t.LeavesSlot u k) :
    Examined kind m u k := by
  obtain ⟨hslot, hbytes, hzeros⟩ := hleaves
  obtain ⟨hrefused, hkept, hemptied⟩ := h
  rw [← hslot, ← hbytes.stateWord] at hkept hemptied
  refine ⟨fun hword => ?_, hkept, hemptied⟩
  obtain ⟨hrefusedSlot, hword', hcode, hserial, hzero⟩ := hrefused hword
  refine ⟨hslot.trans hrefusedSlot, hbytes.stateWord.trans hword', (hbytes.read (by omega)).trans hcode,
    (hbytes.readNat (by omega)).trans hserial, fun a ha => ?_⟩
  obtain ⟨-, hlow, -, hfirst, -⟩ := id ha
  exact hzeros a (Nat.le_trans hlow hfirst) (hzero a ha)

/-! ## The examination of one slot -/

theorem State.examineSlot_slots (kind : StartKind) (s : State) (k : Fin 8) :
    ∃ v, (State.examineSlot kind s k).orders.slots = s.orders.slots.set k v := by
  obtain ⟨-, h⟩ | ⟨-, ⟨v, h⟩ | h⟩ := State.examineSlot_cases kind s k <;> rw [h]
  · exact ⟨_, State.refuseSlot_slots.trans (by rw [State.zeroSlotStaging_orders])⟩
  · exact ⟨v, rfl⟩
  · exact ⟨_, rfl⟩

theorem State.examineSlot_leavesSlot (hwf : s.MemoryLegal) (h : k ≠ j) :
    s.LeavesSlot (State.examineSlot kind s j) k := by
  have hne : k.val ≠ j.val := Fin.val_ne_of_ne h
  refine ⟨?_, fun a ⟨hlow, hhigh⟩ => ?_, fun a ha hzero => State.examineSlot_zero hwf ha (.inl hzero)⟩
  · obtain ⟨v, hv⟩ := State.examineSlot_slots kind s j
    rw [hv]
    exact Vector.getElem_set_ne _ _ (Ne.symm hne)
  · obtain ⟨hfirst, hlast⟩ := slotBase_bounds k
    refine State.examineSlot_read kind s (by omega) (by omega) ?_
    unfold bytesFrom slotBase at *
    omega

theorem State.examineSlot_wf (hwf : s.MemoryLegal) : (State.examineSlot kind s k).MemoryLegal :=
  (State.examineSlot_accessed s kind k).memory hwf

theorem refusesWord_iff {w : Nat} : refusesWord kind w = true ↔ w = 2 ∨ kind = .powerOn ∧ w = 1 := by
  simp [refusesWord]

/-- The examination of a slot. -/
theorem State.examineSlot_examined (hwf : s.MemoryLegal) : Examined kind s.mem (State.examineSlot kind s k) k := by
  refine ⟨fun hrefused => ?_, fun hrestart hnot hsmall => ?_, fun hword => ?_⟩
  · have hzeros : ∀ a, stagingBytes s.mem k a → Memory.read (State.examineSlot kind s k).mem a = 0#8 := fun a ha => by
      obtain ⟨-, hlow, -, hfirst, -⟩ := id ha
      exact State.examineSlot_zero hwf (Nat.le_trans hlow hfirst) (.inr ⟨hrefused, ha⟩)
    have hsame : SameSlot s.mem (s.zeroSlotStaging k).mem k := (s.zeroSlotStaging_sameBoard k).sameSlot k
    obtain ⟨hstate, hcode, hserial⟩ := State.refuseSlot_bytes (k := k) (State.zeroSlotStaging_wf (k := k) hwf)
    rw [State.examineSlot_refused hrefused] at hzeros ⊢
    refine ⟨?_, hstate, hcode, hserial.trans (hsame.readNat (by omega)), hzeros⟩
    rw [State.refuseSlot_slots]
    exact Vector.getElem_set_self _
  · subst hrestart
    obtain ⟨v, hcode, hv⟩ := State.examineSlot_kept hsmall hnot
    rw [hv]
    exact ⟨(congrArg SlotState.code (Vector.getElem_set_self _)).trans hcode, rfl⟩
  · obtain ⟨hlow, hhigh⟩ := slotBase_bounds k
    rw [State.examineSlot_emptied hword]
    exact ⟨Vector.getElem_set_self _, Memory.readNat_writeBytes 2 0 hwf (by omega)⟩

/-! ## The examination of the board -/

theorem State.examineSlots_leaves {m : List Host.Cell} : ∀ (ks : List (Fin 8)) {s : State}, s.MemoryLegal → k ∉ ks →
    Examined kind m s k → Examined kind m (ks.foldl (State.examineSlot kind) s) k
  | [], _, _, _, h => h
  | j :: rest, s, hwf, hk, h => by
    have hne : k ≠ j := List.ne_of_not_mem_cons hk
    exact State.examineSlots_leaves rest (State.examineSlot_wf hwf) (List.not_mem_of_not_mem_cons hk)
      (h.leaves (State.examineSlot_leavesSlot hwf hne))

theorem State.examineSlots_examined : ∀ (ks : List (Fin 8)) {s : State}, s.MemoryLegal → ks.Nodup → k ∈ ks →
    Examined kind s.mem (ks.foldl (State.examineSlot kind) s) k
  | [], _, _, _, hk => absurd hk List.not_mem_nil
  | j :: rest, s, hwf, hnodup, hk => by
    obtain ⟨hj, hrest⟩ := List.nodup_cons.mp hnodup
    have hwf' : (State.examineSlot kind s j).MemoryLegal := State.examineSlot_wf hwf
    rw [List.foldl_cons]
    rcases List.mem_cons.mp hk with hhead | hmem
    · rw [hhead]
      exact State.examineSlots_leaves rest hwf' hj (State.examineSlot_examined hwf)
    · exact (State.examineSlots_examined rest hwf' hrest hmem).of_sameSlot
        (State.examineSlot_leavesSlot hwf (ne_of_mem_of_not_mem hmem hj)).bytes

/-- The free region after the examination. -/
theorem State.examineSlots_free (ha : 0x300 ≤ a) : ∀ (ks : List (Fin 8)) {s : State}, s.MemoryLegal → ks.Nodup →
    (∀ k ∈ ks, refusesWord kind (stateWord s.mem k) = true → ¬ stagingBytes s.mem k a) →
    Memory.read (ks.foldl (State.examineSlot kind) s).mem a = Memory.read s.mem a
  | [], _, _, _, _ => rfl
  | j :: rest, s, hwf, hnodup, h => by
    obtain ⟨hj, hrest⟩ := List.nodup_cons.mp hnodup
    refine (State.examineSlots_free ha rest (State.examineSlot_wf hwf) hrest fun k hk => ?_).trans
      (State.examineSlot_free ha (h j List.mem_cons_self))
    have hsame := (State.examineSlot_leavesSlot (kind := kind) hwf (ne_of_mem_of_not_mem hk hj)).bytes
    rw [hsame.stateWord, hsame.stagingBytes_iff]
    exact h k (List.mem_cons_of_mem _ hk)

/-! ## The six steps -/

theorem State.setPartState_leavesSlot (p : PartState) : t.LeavesSlot (t.setPartState p) k :=
  ⟨rfl, (t.setPartState_sameBoard p).sameSlot k, fun a ha hzero => by
    refine (Memory.read_writeBytes_outside _ _ _ _ (.inr ?_)).trans hzero
    rw [length_leBytes]
    omega⟩

theorem State.setPartState_free (p : PartState) (ha : 0x300 ≤ a) :
    Memory.read (t.setPartState p).mem a = Memory.read t.mem a := by
  refine Memory.read_writeBytes_outside _ _ _ _ (.inr ?_)
  rw [length_leBytes]
  omega

theorem State.writeHeader_free (ha : 0x300 ≤ a) : Memory.read s.writeHeader.mem a = Memory.read s.mem a := by
  simp only [State.writeHeader, State.writeMem_mem]
  refine (Memory.read_writeBytes_outside _ _ _ _ (.inr ?_)).trans (Memory.read_writeBytes_outside _ _ _ _ (.inr ?_))
  all_goals
    simp [length_leBytes]
    omega

/-- The steps before the board's examination write below the free region. -/
theorem State.beforeBoard_free (inputs : StartInputs) (ha : 0x300 ≤ a) :
    Memory.read (s.beforeBoard kind inputs).mem a = Memory.read s.mem a := by
  have hstarting : Memory.read (s.starting kind inputs.strap).mem a = Memory.read s.mem a := by
    simpa [State.starting] using State.setPartState_free (t := s.resetBlocks kind inputs.strap) .starting ha
  rw [State.beforeBoard, State.startReads_mem, State.setPartState_free _ ha, State.writeHeader_free ha,
    State.startReads_mem, hstarting]

theorem State.beforeBoard_wf (inputs : StartInputs) (hwf : s.MemoryLegal) :
    (s.beforeBoard kind inputs).MemoryLegal := by
  refine (State.startReads_same _ _).accessed.memory ((State.setPartState_accessed _ _).memory ?_)
  refine (State.writeHeader_accessed _).memory ((State.startReads_same _ _).accessed.memory ?_)
  exact (s.starting_accessed kind inputs.strap).memory hwf

theorem State.startSteps_examined (inputs : StartInputs) (hwf : s.MemoryLegal) :
    Examined kind s.mem (s.startSteps kind inputs) k := by
  rw [State.startSteps_eq]
  exact ((State.examineSlots_examined _ (State.beforeBoard_wf inputs hwf) (List.nodup_finRange 8)
    (List.mem_finRange k)).of_sameSlot ((s.beforeBoard_sameBoard kind inputs).sameSlot k)).leaves
      (State.setPartState_leavesSlot .running)

theorem State.startSteps_free (inputs : StartInputs) (hwf : s.MemoryLegal) (ha : 0x300 ≤ a)
    (h : ∀ k, refusesWord kind (stateWord s.mem k) = true → ¬ stagingBytes s.mem k a) :
    Memory.read (s.startSteps kind inputs).mem a = Memory.read s.mem a := by
  have hboard := s.beforeBoard_sameBoard kind inputs
  rw [State.startSteps_eq, State.setPartState_free _ ha]
  refine (State.examineSlots_free ha _ (State.beforeBoard_wf inputs hwf) (List.nodup_finRange 8) fun k _ => ?_).trans
    (State.beforeBoard_free inputs ha)
  rw [hboard.stateWord, (hboard.sameSlot k).stagingBytes_iff]
  exact h k

/-- A start-up that refused a slot has raised ORDER. -/
theorem State.startSteps_order (inputs : StartInputs) (h : refusesWord kind (stateWord s.mem k) = true) :
    (s.startSteps kind inputs).regs.attention &&& 0x0001#16 = 0x0001#16 := by
  have hany : refusesAny kind s.mem = true := List.any_eq_true.mpr ⟨k, List.mem_finRange k, h⟩
  rw [State.startSteps_regs, hany]
  rfl

end

/-- The board and the free region from a start-up's six steps. -/
structure BoardRestarted (s t : State) : Prop where
  slots : ∀ k, Examined .restart s.mem t k
  order : ∀ k, stateWord s.mem k = 2 → t.regs.attention &&& 0x0001#16 = 0x0001#16
  free : ∀ a, 0x300 ≤ a → ¬ recordBytes s a → (∀ k, stateWord s.mem k = 2 → ¬ stagingBytes s.mem k a) →
    Memory.read t.mem a = Memory.read s.mem a

/-- A restart over a board and a free region as they were, but for the words of a record cut short. -/
theorem startSteps_boardRestarted {s b : State} (inputs : StartInputs) (hwf : b.MemoryLegal)
    (hboard : SameBoard s.mem b.mem) (hfree : ∀ a, ¬ recordBytes s a → Memory.read b.mem a = Memory.read s.mem a) :
    BoardRestarted s (b.startSteps .restart inputs) := by
  refine ⟨fun k => (State.startSteps_examined inputs hwf).of_sameSlot (hboard.sameSlot k), fun k hword => ?_,
    fun a ha hrecord hstaging => ?_⟩
  · refine State.startSteps_order (k := k) inputs (refusesWord_iff.mpr (.inl ?_))
    rwa [hboard.stateWord]
  · refine (State.startSteps_free inputs hwf ha fun k hrefused => ?_).trans (hfree a hrecord)
    rw [hboard.stateWord, refusesWord_iff] at hrefused
    rw [(hboard.sameSlot k).stagingBytes_iff]
    exact hstaging k (hrefused.resolve_right nofun)

/-- Settles O5. -/
theorem restartBringsBoardToKnownState : Obligations.RestartBringsBoardToKnownState := by
  intro c inputs s hwaiting hwf hring hstart
  obtain ⟨t, ht, hslots, horder, hfree⟩ : ∃ t, exec c s = .next t ∧ BoardRestarted s t := by
    rcases hstart with ⟨cut, rfl⟩ | ⟨w, cut, rfl, hpin, hbit⟩
    · exact ⟨_, (StartsFrom.resetPin cut).runs hwaiting, startSteps_boardRestarted inputs (State.cutRecord_wf cut hwf)
        (State.cutRecord_sameBoard cut hring) fun a ha => State.cutRecord_outside cut ha⟩
    · exact ⟨_, (StartsFrom.restart w cut hpin hbit).runs hwaiting,
        startSteps_boardRestarted inputs (State.cutRecord_wf (s := s.clearLatches) cut hwf)
          (State.cutRecord_sameBoard (s := s.clearLatches) cut hring)
          fun a ha => State.cutRecord_outside (s := s.clearLatches) cut ha⟩
  refine ⟨t, ht, fun k => ?_, hfree⟩
  obtain ⟨hrefused, hkept, hemptied⟩ := hslots k
  refine ⟨fun hword => ?_, hkept rfl, fun hbig => hemptied (.inl ⟨rfl, hbig⟩)⟩
  obtain ⟨hslot, hstate, hcode, hserial, hzeros⟩ := hrefused (refusesWord_iff.mpr (.inl hword))
  exact ⟨hslot, hstate, hcode, hserial, horder k hword, hzeros⟩

/-- Settles O6. -/
theorem powerOnBringsBoardToKnownState : Obligations.PowerOnBringsBoardToKnownState := by
  intro inputs contents s hin
  have hwf : Memory.wf (Memory.writeCells [] contents) = true := Memory.wf_writeCells contents [] rfl
  obtain ⟨b, hb, hmem⟩ : ∃ b : State, exec (.powerOn inputs contents) s = .next (b.startSteps .powerOn inputs) ∧
      b.mem = Memory.writeCells [] contents := by
    refine ⟨{ s with mem := Memory.writeCells [] contents, port := { s.port with waiting := [], dataOut := [] } },
      ?_, rfl⟩
    rw [← State.startUp_eq .powerOn inputs rfl]
    change execPowerOn inputs contents s = _
    rw [execPowerOn, outsideMemory_eq_none.mpr hin]
  refine ⟨_, hb, fun k => ?_⟩
  rw [← hmem] at hwf ⊢
  obtain ⟨hrefused, -, hemptied⟩ := State.startSteps_examined (kind := .powerOn) (k := k) inputs hwf
  refine ⟨fun hword => ?_, fun hword => hemptied (.inr ⟨rfl, hword⟩)⟩
  have hword' : refusesWord .powerOn (stateWord b.mem k) = true :=
    refusesWord_iff.mpr (hword.elim (fun h => .inr ⟨rfl, h⟩) .inl)
  obtain ⟨hslot, hstate, hcode, -, hzeros⟩ := hrefused hword'
  exact ⟨hslot, hstate, hcode, State.startSteps_order inputs hword', hzeros⟩

end Sys2Proof.Machine
end

section
/-! What a lane's status block shows (10 R189). -/

namespace Sys2Proof.Machine

open Sys2Proof

/-! ## Bytes as numbers -/

theorem leNat_inj : ∀ {xs ys : List Byte}, xs.length = ys.length → leNat xs = leNat ys → xs = ys
  | [], [], _, _ => rfl
  | x :: xs, y :: ys, hlength, h => by
    have hx := x.isLt
    have hy := y.isLt
    rw [leNat, leNat] at h
    have hhead : x = y := BitVec.eq_of_toNat_eq (by omega)
    rw [hhead, leNat_inj (Nat.succ.inj hlength) (by omega)]

theorem Memory.readBytes_eq_leBytes {m : List Host.Cell} {a n v : Nat} :
    Memory.readBytes m a n = leBytes n v ↔ Memory.readNat m a n = v % 256 ^ n := by
  rw [← leNat_leBytes_mod, Memory.readNat]
  exact ⟨congrArg leNat, leNat_inj (by rw [Memory.length_readBytes, length_leBytes])⟩

/-! ## A block's fields -/

/-- The bytes from a base on hold those fields. -/
def holdsFields (m : List Host.Cell) (base : Nat) (fields : List (Nat × List Byte)) : Prop :=
  ∀ f ∈ fields, Memory.readBytes m (base + f.1) f.2.length = f.2

/-- The block of a lane holds its values and its stamp. -/
def blockShows (m : List Host.Cell) (l : LaneId) (x : Lane) (e : Emergency) : Prop :=
  holdsFields m (statusBase l) (shownFields x e) ∧
    Memory.readBytes m (statusBase l + 16) 2 = leBytes 2 x.stamp.toNat

theorem LaneMode.code_mod (v : LaneMode) : v.code % 256 ^ 1 = v.code := by cases v <;> rfl

theorem PcState.code_mod (v : PcState) : v.code % 256 ^ 1 = v.code := by cases v <;> rfl

theorem FieldState.code_mod (v : FieldState) : v.code % 256 ^ 1 = v.code := by cases v <;> rfl

theorem ResultCode.code_mod (v : ResultCode) : v.code % 256 ^ 1 = v.code := by cases v <;> rfl

theorem FaultCause.code_mod (v : FaultCause) : v.code % 256 ^ 1 = v.code := by cases v <;> rfl

theorem laneFlags_mod (x : Lane) (e : Emergency) : laneFlags x e % 256 ^ 1 =
    (if x.degraded then 1 else 0) + (if x.journalFull then 2 else 0) + (if e.asserted then 4 else 0) := by
  unfold laneFlags
  generalize x.degraded = degraded
  generalize x.journalFull = full
  generalize e.asserted = asserted
  revert degraded full asserted
  decide

theorem shows_iff {s : State} {l : LaneId} : shows s l ↔ blockShows s.mem l (s.lane l) s.emergency := by
  have hstamp : (s.lane l).stamp.toNat % 256 ^ 2 = (s.lane l).stamp.toNat := Nat.mod_eq_of_lt (BitVec.isLt _)
  simp only [shows, blockShows, holdsFields, shownFields, statusBase, List.forall_mem_cons, length_leBytes,
    Memory.readBytes_eq_leBytes, LaneMode.code_mod, PcState.code_mod, FieldState.code_mod, ResultCode.code_mod,
    FaultCause.code_mod, laneFlags_mod, and_assoc, Nat.add_zero, hstamp, List.not_mem_nil, false_imp_iff,
    implies_true, true_and] <;> rfl

/-! ## Writing the fields that changed -/

/-- The fields stand apart, in rising order. -/
def fieldsApart (fields : List (Nat × List Byte)) : Prop := fields.Pairwise fun f g => f.1 + f.2.length ≤ g.1

theorem shownFields_apart (x : Lane) (e : Emergency) : fieldsApart (shownFields x e) := by
  simp [fieldsApart, shownFields, length_leBytes]

/-- Where the fields stand and how long they are. -/
def fieldPlaces (fields : List (Nat × List Byte)) : List (Nat × Nat) := fields.map fun f => (f.1, f.2.length)

theorem shownFields_places (x y : Lane) (e e' : Emergency) :
    fieldPlaces (shownFields x e) = fieldPlaces (shownFields y e') := by
  simp [fieldPlaces, shownFields, length_leBytes]

theorem holdsFields_congr {m m' : List Host.Cell} {base : Nat} {fields : List (Nat × List Byte)}
    (h : ∀ f ∈ fields, ∀ a, bytesFrom (base + f.1) f.2.length a → Memory.read m' a = Memory.read m a)
    (hm : holdsFields m base fields) : holdsFields m' base fields :=
  fun f hf => (Memory.readBytes_congr _ _ (h f hf)).trans (hm f hf)

/-- Where a block held the old fields it holds the new ones once those that changed are written. -/
theorem publishFields_holds {base : Nat} {rewritten : List Nat} : ∀ {olds news : List (Nat × List Byte)}
    {m : List Host.Cell}, fieldPlaces olds = fieldPlaces news → fieldsApart news → Memory.wf m = true →
    (∀ f ∈ news, base + f.1 + f.2.length ≤ 0x40000) → holdsFields m base olds →
    holdsFields (publishFields m base rewritten olds news) base news
  | _, [], _, _, _, _, _, _ => fun _ hf => absurd hf List.not_mem_nil
  | [], _ :: _, _, hplaces, _, _, _, _ => absurd hplaces nofun
  | (o', old) :: olds, (o, new) :: news, m, hplaces, hapart, hwf, hsize, hm => by
    obtain ⟨hplace, hrest⟩ := List.cons.inj hplaces
    obtain ⟨rfl, hlength⟩ : o' = o ∧ old.length = new.length := Prod.mk.inj hplace
    obtain ⟨hfirst, hapart'⟩ := List.pairwise_cons.mp hapart
    obtain ⟨m', hm'⟩ : ∃ m', m' = if old = new ∧ o' ∉ rewritten then m else Memory.writeBytes m (base + o') new :=
      ⟨_, rfl⟩
    have hnew : Memory.readBytes m' (base + o') new.length = new := by
      rw [hm']
      split
      next hsame =>
        rw [← hsame.1]
        exact hm _ List.mem_cons_self
      next => exact Memory.readBytes_writeBytes new m (base + o') hwf (hsize _ List.mem_cons_self)
    have hwf' : Memory.wf m' = true := by
      rw [hm']
      split
      · exact hwf
      · exact Memory.wf_writeBytes _ _ _ hwf
    have holds : holdsFields m' base olds := by
      refine holdsFields_congr (fun f hf a ha => ?_) fun f hf => hm f (List.mem_cons_of_mem _ hf)
      have hmem : (f.1, f.2.length) ∈ fieldPlaces news := by
        have hplaces' : fieldPlaces olds = fieldPlaces news := hrest
        exact hplaces' ▸ List.mem_map_of_mem hf
      obtain ⟨g, hg, hplace'⟩ := List.mem_map.mp hmem
      obtain ⟨hoffset, -⟩ := Prod.mk.inj hplace'
      have hle := hfirst g hg
      rw [hm']
      split
      · rfl
      · refine Memory.read_writeBytes_outside _ _ _ _ (.inr ?_)
        unfold bytesFrom at ha
        dsimp only at hle
        omega
    have hnews : holdsFields (publishFields m' base rewritten olds news) base news :=
      publishFields_holds hrest hapart' hwf' (fun f hf => hsize f (List.mem_cons_of_mem _ hf)) holds
    rw [publishFields, ← hm']
    refine List.forall_mem_cons.mpr ⟨?_, hnews⟩
    refine (Memory.readBytes_congr _ _ fun a ha => ?_).trans hnew
    refine publishFields_outside olds news m' base rewritten a fun f hf => ?_
    have hle := hfirst f hf
    unfold bytesFrom at ha
    dsimp only at hle ha
    omega

end Sys2Proof.Machine
end

section
/-! The end of an event writes what the lanes show, and the readiness summary (10 R189, R201). -/

namespace Sys2Proof.Machine

open Sys2Proof

/-! ## Writes outside a block -/

section
variable {b s : State} {k l : LaneId} {m m' : List Host.Cell} {x : Lane} {e : Emergency}

/-- A block's values are bytes of that block. -/
theorem blockShows_congr (h : ∀ a, bytesFrom (statusBase l) 32 a → Memory.read m' a = Memory.read m a)
    (hm : blockShows m l x e) : blockShows m' l x e := by
  obtain ⟨hfields, hstamp⟩ := hm
  refine ⟨holdsFields_congr (fun f hf a ⟨hlow, hhigh⟩ => h a ?_) hfields,
    (Memory.readBytes_congr _ _ fun a ⟨hlow, hhigh⟩ => h a ?_).trans hstamp⟩
  · have hle := shownFields_bound x e f hf
    unfold bytesFrom
    omega
  · unfold bytesFrom
    omega

theorem shownByte_of_block {a : Nat} (h : bytesFrom (statusBase l) 32 a) : shownByte a := by
  obtain ⟨hlow, hhigh⟩ := statusBase_bounds l
  unfold bytesFrom at h
  unfold shownByte
  omega

/-- A lane's publication writes bytes of its own block only. -/
theorem State.publishLane_outside {a : Nat} (h : ¬ bytesFrom (statusBase l) 32 a) :
    Memory.read (State.publishLane b s l).mem a = Memory.read s.mem a := by
  unfold bytesFrom at h
  unfold State.publishLane
  dsimp only
  split
  · rfl
  · refine (Memory.read_writeBytes_outside _ _ _ _ ?_).trans (publishFields_outside _ _ _ _ _ _ fun f hf => ?_)
    · rw [length_leBytes]
      omega
    · have hle := shownFields_bound _ _ f hf
      omega

theorem blocks_apart (h : k ≠ l) {a : Nat} (ha : bytesFrom (statusBase k) 32 a) : ¬ bytesFrom (statusBase l) 32 a := by
  have hne : k.toNat ≠ l.toNat := by
    revert h
    cases k <;> cases l <;> decide
  unfold bytesFrom statusBase at *
  omega

theorem State.publishLane_blockShows_ne (h : k ≠ l) (hm : blockShows s.mem k x e) :
    blockShows (State.publishLane b s l).mem k x e :=
  blockShows_congr (fun _ ha => State.publishLane_outside (blocks_apart h ha)) hm

/-! ## Publishing the lanes -/

theorem State.publishLane_emergency : (State.publishLane b s l).emergency = s.emergency := by
  rw [State.publishLane_same b s l]

/-- The block shows what the lane showed before the event, with the stamp that the lane still has. -/
def showsBefore (b s : State) (l : LaneId) : Prop :=
  blockShows s.mem l (b.lane l) b.emergency ∧ (s.lane l).stamp = (b.lane l).stamp

/-- A block that showed the lane before the event shows it after its publication. -/
theorem State.publishLane_shows (hwf : s.MemoryLegal) (h : showsBefore b s l) : shows (State.publishLane b s l) l := by
  obtain ⟨⟨hfields, hbytes⟩, hstamp⟩ := h
  obtain ⟨-, hend⟩ := statusBase_bounds l
  rw [shows_iff, State.publishLane_emergency]
  unfold State.publishLane
  dsimp only
  split
  next hsame =>
    obtain ⟨hsame, -⟩ := hsame
    refine ⟨hsame ▸ hfields, ?_⟩
    rw [hstamp]
    exact hbytes
  next =>
    have hpublished := publishFields_holds (rewritten := (s.lane l).rewritten) (m := s.mem)
      (shownFields_places (b.lane l) (s.lane l) b.emergency s.emergency) (shownFields_apart _ _) hwf (fun f hf => by
        have hle := shownFields_bound _ _ f hf
        omega) hfields
    have hwf' := publishFields_wf (shownFields (b.lane l) b.emergency) (shownFields (s.lane l) s.emergency) s.mem
      (statusBase l) (s.lane l).rewritten hwf
    have hlane : ∀ m y, State.lane { s.setLane l y with mem := m } l = y := fun _ y => State.lane_setLane_self s l y
    rw [hlane]
    constructor
    · refine holdsFields_congr (fun f hf a ha => Memory.read_writeBytes_outside _ _ _ _ (.inl ?_)) hpublished
      have hle := shownFields_bound _ _ f hf
      unfold bytesFrom at ha
      omega
    · refine Memory.readBytes_eq_leBytes.mpr (Memory.readNat_writeBytes 2 _ hwf' (by omega))

theorem State.publishLane_showsBefore_ne (h : k ≠ l) (hb : showsBefore b s k) :
    showsBefore b (State.publishLane b s l) k := by
  obtain ⟨hblock, hstamp⟩ := hb
  refine ⟨State.publishLane_blockShows_ne h hblock, ?_⟩
  rw [State.publishLane_other b s h]
  exact hstamp

theorem State.publishLane_shows_ne (h : k ≠ l) (hs : shows s k) : shows (State.publishLane b s l) k := by
  rw [shows_iff] at *
  rw [State.publishLane_other b s h, State.publishLane_emergency]
  exact State.publishLane_blockShows_ne h hs

end

theorem State.publishLanes_shows_of_notMem {b : State} {k : LaneId} : ∀ (ls : List LaneId) {s : State}, k ∉ ls →
    shows s k → shows (ls.foldl (State.publishLane b) s) k
  | [], _, _, h => h
  | _ :: rest, _, hk, h => State.publishLanes_shows_of_notMem rest (List.not_mem_of_not_mem_cons hk)
      (State.publishLane_shows_ne (List.ne_of_not_mem_cons hk) h)

/-- Every lane that is published is shown. -/
theorem State.publishLanes_shows {b : State} {k : LaneId} : ∀ (ls : List LaneId) {s : State}, s.MemoryLegal →
    ls.Nodup → showsBefore b s k → k ∈ ls → shows (ls.foldl (State.publishLane b) s) k
  | [], _, _, _, _, hk => absurd hk List.not_mem_nil
  | l :: rest, s, hwf, hnodup, h, hk => by
    obtain ⟨hl, hrest⟩ := List.nodup_cons.mp hnodup
    by_cases hkl : k = l
    · rw [List.foldl_cons, hkl]
      exact State.publishLanes_shows_of_notMem rest hl (State.publishLane_shows hwf (hkl ▸ h))
    · exact State.publishLanes_shows rest (State.publishLane_wf b s l hwf) hrest
        (State.publishLane_showsBefore_ne hkl h) ((List.mem_cons.mp hk).resolve_left hkl)

theorem State.publishLanes_read {b : State} {a : Nat} (ha : a < 0x40) : ∀ (ls : List LaneId) (s : State),
    Memory.read (ls.foldl (State.publishLane b) s).mem a = Memory.read s.mem a
  | [], _ => rfl
  | l :: rest, s =>
    (State.publishLanes_read ha rest _).trans (State.publishLane_read b s l a (.inl ha))

theorem State.publishLanes_wf {b : State} : ∀ (ls : List LaneId) {s : State}, s.MemoryLegal →
    (ls.foldl (State.publishLane b) s).MemoryLegal
  | [], _, h => h
  | l :: rest, s, h => State.publishLanes_wf rest (State.publishLane_wf b s l h)

theorem State.publishLanes_same (b : State) : ∀ (ls : List LaneId) (s : State),
    s.SameBut (ls.foldl (State.publishLane b) s)
  | [], s => .refl s
  | l :: rest, s => (State.publishLane_same b s l).trans (State.publishLanes_same b rest _)

theorem State.conclude_eq_publishLanes (b s : State) : State.conclude b s =
    State.publishReadiness b (LaneId.all.foldl (State.publishLane b) s.settleJournalFull) := rfl

theorem LaneId.mem_all (l : LaneId) : l ∈ LaneId.all := by cases l <;> decide

/-! ## The readiness summary -/

theorem Readiness.summary_mod (r : Readiness) : r.summary % 256 ^ 2 = r.summary := by
  obtain ⟨clock, fare, deny, key, journal⟩ := r
  revert clock fare deny key journal
  decide

section
variable {b s : State}

theorem State.publishReadiness_summary (hwf : s.MemoryLegal)
    (h : Memory.readNat s.mem 0x02 2 = b.orders.ready.summary) :
    Memory.readNat (State.publishReadiness b s).mem 0x02 2 = s.orders.ready.summary := by
  unfold State.publishReadiness
  split
  next hsame => rw [h, hsame]
  next => exact (Memory.readNat_writeBytes (a := 0x02) 2 _ hwf (by decide)).trans (Readiness.summary_mod _)

theorem State.publishReadiness_shows {l : LaneId} (h : shows s l) : shows (State.publishReadiness b s) l := by
  rw [shows_iff] at *
  rw [State.publishReadiness_lane, show (State.publishReadiness b s).emergency = s.emergency by
    rw [State.publishReadiness_same b s]]
  refine blockShows_congr (fun a ⟨hlow, _⟩ => State.publishReadiness_read ?_) h
  obtain ⟨hbase, -⟩ := statusBase_bounds l
  omega

/-! ## The end of an event -/

theorem State.settleJournalFull_stamp (l : LaneId) : (s.settleJournalFull.lane l).stamp = (s.lane l).stamp := by
  rw [State.settleJournalFull_lane]

theorem State.conclude_shows {l : LaneId} (hwf : s.MemoryLegal) (h : showsBefore b s l) :
    shows (State.conclude b s) l := by
  rw [State.conclude_eq_publishLanes]
  refine State.publishReadiness_shows (State.publishLanes_shows LaneId.all ?_ (by decide) ?_ (LaneId.mem_all l))
  · rw [State.MemoryLegal, State.settleJournalFull_mem]
    exact hwf
  · rw [showsBefore, State.settleJournalFull_mem, State.settleJournalFull_stamp]
    exact h

theorem State.conclude_summary (hwf : s.MemoryLegal) (h : Memory.readNat s.mem 0x02 2 = b.orders.ready.summary) :
    Memory.readNat (State.conclude b s).mem 0x02 2 = (State.conclude b s).orders.ready.summary := by
  have horders : (LaneId.all.foldl (State.publishLane b) s.settleJournalFull).orders = s.orders := by
    rw [State.publishLanes_same b LaneId.all, State.settleJournalFull_same]
  rw [State.conclude_orders, State.conclude_eq_publishLanes, ← horders]
  refine State.publishReadiness_summary (State.publishLanes_wf _ ?_) ?_
  · rw [State.MemoryLegal, State.settleJournalFull_mem]
    exact hwf
  · refine (Memory.readNat_congr _ _ fun a ⟨_, hhigh⟩ => State.publishLanes_read (by omega) _ _).trans ?_
    rw [State.settleJournalFull_mem]
    exact h

end

/-! ## What a step leaves shown -/

/-- What the gate computer is shown is right, and what the part writes of its own accord lies in the free region. -/
structure State.Shown (s : State) : Prop where
  memory : s.MemoryLegal
  free : s.WritesFree
  lanes : ∀ l, shows s l
  ready : Memory.readNat s.mem 0x02 2 = s.orders.ready.summary

/-- Each lane's stamp advances by some of that many events, and by one at least when a shown value changed. -/
def State.Advances (n : Nat) (s t : State) : Prop := ∀ l, ∃ events, events ≤ n ∧
  (t.lane l).stamp = (s.lane l).stamp + BitVec.ofNat 16 events ∧
  (shownFields (t.lane l) t.emergency ≠ shownFields (s.lane l) s.emergency → 0 < events)

section
variable {s t u : State} {n m : Nat}

theorem State.Advances.of_same (hlanes : t.lanes = s.lanes) (hemergency : t.emergency = s.emergency) :
    s.Advances n t := fun l => by
  refine ⟨0, Nat.zero_le n, ?_, fun h => absurd ?_ h⟩
  · rw [State.lane_congr hlanes, BitVec.add_zero]
  · rw [State.lane_congr hlanes, hemergency]

theorem State.Advances.trans (h : s.Advances n t) (k : t.Advances m u) : s.Advances (n + m) u := fun l => by
  obtain ⟨i, hi, hstamp, hchanged⟩ := h l
  obtain ⟨j, hj, hstamp', hchanged'⟩ := k l
  refine ⟨i + j, Nat.add_le_add hi hj, ?_, fun hne => ?_⟩
  · rw [hstamp', hstamp, BitVec.ofNat_add, BitVec.add_assoc]
  · by_cases hfirst : shownFields (t.lane l) t.emergency = shownFields (s.lane l) s.emergency
    · exact Nat.add_pos_right i (hchanged' fun h => hne (h.trans hfirst))
    · exact Nat.add_pos_left (hchanged hfirst) j

theorem State.Advances.mono (hle : n ≤ m) (h : s.Advances n t) : s.Advances m t := fun l => by
  obtain ⟨i, hi, hrest⟩ := h l
  exact ⟨i, Nat.le_trans hi hle, hrest⟩

/-- The end of an event's effect. -/
theorem State.Effect.concluded (h : s.Effect t) (hs : s.Shown) :
    (State.conclude s t).Shown ∧ s.Advances 1 (State.conclude s t) := by
  obtain ⟨hfree, hbytes⟩ := h.shown hs.free
  have hwf := h.memory hs.memory
  refine ⟨⟨State.conclude_wf s t hwf, ?_, fun l => State.conclude_shows hwf ⟨?_, (h.lanes l).stamp⟩,
    State.conclude_summary hwf ?_⟩, fun l => ?_⟩
  · rw [State.WritesFree, ringInFree, State.conclude_journal, State.conclude_orders]
    exact hfree
  · exact blockShows_congr (fun a ha => hbytes a (shownByte_of_block ha)) (shows_iff.mp (hs.lanes l))
  · refine (Memory.readNat_congr _ _ fun a ⟨hlow, hhigh⟩ => hbytes a ?_).trans hs.ready
    unfold shownByte
    omega
  · obtain ⟨stamp, hlane⟩ := State.conclude_lane s t l
    have hfields : shownFields ((State.conclude s t).lane l) (State.conclude s t).emergency = shownFields
        { t.lane l with journalFull := if 4 ≤ t.journal.openRoom then false else (t.lane l).journalFull }
        t.emergency := by
      rw [hlane, State.conclude_emergency]
      rfl
    rw [State.conclude_stamp, (h.lanes l).stamp, hfields]
    generalize shownFields _ t.emergency = fields
    split
    next hsame => exact ⟨0, Nat.zero_le 1, (BitVec.add_zero _).symm, fun hne => absurd hsame.1.symm hne⟩
    next => exact ⟨1, Nat.le_refl 1, rfl, fun _ => Nat.one_pos⟩

theorem State.event_shown {f : State → State} (h : s.Effect (f s)) (hs : s.Shown) :
    (s.event f).Shown ∧ s.Advances 1 (s.event f) := by
  cases hpin : s.sys.resetPin with
  | true =>
    rw [State.event_pin hpin]
    exact ⟨hs, .of_same rfl rfl⟩
  | false =>
    rw [State.event_eq hpin]
    exact h.concluded hs

end

end Sys2Proof.Machine
end

section
/-! The steps that leave what the gate computer is shown, and those that write records (10 R190 to R195; 11 R177). -/

namespace Sys2Proof.Machine

open Sys2Proof

/-! ## Steps that show nothing new -/

/-- A step that leaves the shown bytes and what they show. -/
structure State.LeavesShown (s t : State) : Prop where
  bytes : ∀ a, shownByte a → Memory.read t.mem a = Memory.read s.mem a
  lanes : t.lanes = s.lanes
  emergency : t.emergency = s.emergency
  ready : t.orders.ready = s.orders.ready

theorem State.LeavesShown.refl (s : State) : s.LeavesShown s := ⟨fun _ _ => rfl, rfl, rfl, rfl⟩

theorem State.LeavesShown.trans {s t u : State} (h : s.LeavesShown t) (k : t.LeavesShown u) : s.LeavesShown u :=
  ⟨fun a ha => (k.bytes a ha).trans (h.bytes a ha), k.lanes.trans h.lanes, k.emergency.trans h.emergency,
    k.ready.trans h.ready⟩

section
variable {s t : State}

theorem State.LeavesShown.shows {l : LaneId} (h : s.LeavesShown t) (hs : shows s l) : shows t l := by
  rw [shows_iff] at *
  rw [State.lane_congr h.lanes, h.emergency]
  exact blockShows_congr (fun a ha => h.bytes a (shownByte_of_block ha)) hs

theorem State.LeavesShown.summary (h : s.LeavesShown t) (hs : Memory.readNat s.mem 0x02 2 = s.orders.ready.summary) :
    Memory.readNat t.mem 0x02 2 = t.orders.ready.summary := by
  rw [h.ready]
  refine (Memory.readNat_congr _ _ fun a ⟨hlow, hhigh⟩ => h.bytes a ?_).trans hs
  unfold shownByte
  omega

theorem State.SamePort.leavesShown (h : s.SamePort t) : s.LeavesShown t := by
  unfold State.SamePort at h
  rw [h]
  exact ⟨fun _ _ => rfl, rfl, rfl, rfl⟩

theorem State.setPort_leavesShown (f : Port → Port) : s.LeavesShown (s.setPort f) := (s.setPort_same f).leavesShown

theorem State.writeMem_leavesShown {a : Nat} {bs : List Byte} (h : ∀ b, bytesFrom a bs.length b → ¬ shownByte b) :
    s.LeavesShown (s.writeMem a bs) :=
  ⟨fun _ hb => Memory.read_writeBytes_of_not fun hin => h _ hin hb, rfl, rfl, rfl⟩

theorem State.watch_leavesShown (a : Nat) : s.LeavesShown (s.watch a) := by
  rw [State.watch_eq]
  exact ⟨fun _ _ => rfl, rfl, rfl, rfl⟩

theorem State.recordHeld_leavesShown (a : Nat) : s.LeavesShown (s.recordHeld a) := by
  refine ⟨fun b hb => Memory.read_writeBytes_of_not fun hin => ?_, rfl, rfl, rfl⟩
  rw [length_leBytes] at hin
  unfold bytesFrom at hin
  unfold shownByte at hb
  omega

/-! ## Accesses at the port -/

/-- A shown word is shown whole. -/
theorem not_shownByte_of_word {a b : Nat} (h : ¬ shownByte (2 * (a / 2))) (hb : b / 2 = a / 2) : ¬ shownByte b := by
  unfold shownByte at *
  omega

theorem State.serveWord_leavesShown {a : Nat} (v : Word) (heven : a % 2 = 0) (h : ¬ shownByte (2 * (a / 2))) :
    s.LeavesShown (s.serveWord a v) := by
  unfold State.serveWord
  split
  · exact .refl s
  · split
    · exact State.recordHeld_leavesShown a
    · refine (State.writeMem_leavesShown fun b hin => not_shownByte_of_word h ?_).trans (State.watch_leavesShown a)
      rw [length_leBytes] at hin
      unfold bytesFrom at hin
      omega

theorem State.serveByte_leavesShown {a : Nat} (v : Byte) (h : ¬ shownByte (2 * (a / 2))) :
    s.LeavesShown (s.serveByte a v) := by
  unfold State.serveByte
  split
  · exact .refl s
  · split
    · exact State.recordHeld_leavesShown a
    · refine (State.writeMem_leavesShown fun b hin => not_shownByte_of_word h ?_).trans (State.watch_leavesShown _)
      unfold bytesFrom at hin
      rw [List.length_singleton] at hin
      omega

theorem State.narrowWrite_leavesShown {a : BitVec 18} (v : Byte) (h : ¬ shownByte (2 * (a.toNat / 2))) :
    s.LeavesShown (s.narrowWrite a v) := by
  unfold State.narrowWrite
  dsimp only
  split
  · exact State.setPort_leavesShown _
  · refine (State.setPort_leavesShown (s := s) _).trans (State.serveWord_leavesShown _ (by omega) ?_)
    rwa [show (a.toNat - 1) / 2 = a.toNat / 2 by omega]

/-- A write of the gate computer that spares the shown bytes. -/
theorem State.portWrite_leavesShown {w : PortWrite} (h : sparesShownBytes (.gcMemoryWrite w)) :
    s.LeavesShown (s.portWrite w) := by
  obtain ⟨hword, hbyte⟩ := h
  unfold State.portWrite
  split
  next wa v _ =>
    refine (State.setPort_leavesShown (s := s) _).trans (State.serveWord_leavesShown v (by omega) ?_)
    rw [show 2 * wa.toNat / 2 = wa.toNat by omega]
    exact hword wa v rfl
  next a v _ => exact (State.setPort_leavesShown (s := s) _).trans (State.serveByte_leavesShown v (hbyte a v rfl))
  next wa v _ =>
    have hspared := hword wa v rfl
    have hbound := wa.isLt
    refine (State.narrowWrite_leavesShown _ ?_).trans (State.narrowWrite_leavesShown _ ?_)
    · rw [lowAddress, BitVec.toNat_ofNat, show 2 * (2 * wa.toNat % 2 ^ 18 / 2) = 2 * wa.toNat by omega]
      exact hspared
    · rw [highAddress, BitVec.toNat_ofNat, show 2 * ((2 * wa.toNat + 1) % 2 ^ 18 / 2) = 2 * wa.toNat by omega]
      exact hspared
  next a v _ => exact State.narrowWrite_leavesShown v (hbyte a v rfl)

/-- An access is served, or waits for the reset pin. -/
theorem State.access_leavesShown {access : PortAccess} {f : State → State} (h : s.LeavesShown (f s)) :
    s.LeavesShown (s.access access f) := by
  unfold State.access
  split
  · exact State.setPort_leavesShown _
  · exact h

/-- A record that is cut short is written in the ring. -/
theorem State.cutRecord_leavesShown (cut : Nat) (hring : ringInFree s) : s.LeavesShown (s.cutRecord cut) := by
  refine ⟨fun a ha => State.cutRecord_outside cut fun ⟨_, r, hr, hlow, _⟩ => ?_, ?_, ?_, ?_⟩
  · obtain ⟨hbase, -, -⟩ := hring r hr
    unfold shownByte at ha
    omega
  all_goals rw [State.cutRecord_eq]

theorem State.LeavesShown.advances {n : Nat} (h : s.LeavesShown t) : s.Advances n t := .of_same h.lanes h.emergency

/-! ## The write of a record -/

theorem State.onDue_deferred {due : Nat} {f : State → State} (h : ∀ u : State, (f u).deferred = u.deferred) :
    (s.onDue due f).deferred = s.deferred := by
  unfold State.onDue
  split
  · exact h _
  · rfl

theorem State.finishRelease_deferred (s : State) (l : LaneId) : (s.finishRelease l).deferred = s.deferred := by
  cases hd : (s.lane l).dialogue with
  | none => rw [State.finishRelease_of_none hd]
  | some d =>
    rw [State.finishRelease_eq hd]
    rfl

theorem State.grant_deferred (s : State) (l : LaneId) (sequence : Word) :
    (s.grant l sequence).deferred = s.deferred := by
  cases hd : (s.lane l).dialogue with
  | none => rw [State.grant, hd]
  | some d =>
    rw [State.grant_eq sequence hd]
    rfl

theorem State.finishForget_deferred (s : State) : s.finishForget.deferred = s.deferred := by
  unfold State.finishForget
  split
  · rfl
  · split <;> rfl

theorem State.afterRecord_deferred (s : State) (w : Waiter) (sequence : Word) :
    (s.afterRecord w sequence).deferred = s.deferred := by
  cases w with
  | grant l => exact s.grant_deferred l sequence
  | release l => exact s.finishRelease_deferred l
  | order => exact s.finishForget_deferred
  | nobody => rfl
  | screen => rfl

theorem State.notifyTests_deferred (s : State) (r : Ring) (first : Bool) :
    (s.notifyTests r first).deferred = s.deferred := by
  have hstart : ∀ (u : State) (delay : Nat), (u.startNotify delay).deferred = u.deferred := fun u delay => by
    unfold State.startNotify
    split <;> rfl
  have hraise : ∀ (c : Prop) [Decidable c] (u : State),
      (if c then u.raise .journal else u).deferred = u.deferred := fun c _ u => by
    split <;> rfl
  unfold State.notifyTests
  dsimp only
  rw [hraise]
  split
  · exact hstart s r.delay
  · rfl

theorem State.placeRecord_deferred (s : State) (r : Ring) (record : Record) :
    (s.placeRecord r record).deferred = s.deferred := by
  simp only [State.placeRecord, State.writeMem_deferred]

theorem State.useReservation_deferred (s : State) (h : Holder) : (s.useReservation h).deferred = s.deferred := by
  cases h <;> rfl

theorem State.writeFront_deferred (s : State) : s.writeFront.deferred = s.deferred := by
  unfold State.writeFront
  split
  next q rest r _ _ =>
    have hplaced : ((s.placeRecord r q.record).useReservation q.holder).deferred = s.deferred := by
      rw [State.useReservation_deferred, State.placeRecord_deferred]
    dsimp only
    generalize (s.placeRecord r q.record).useReservation q.holder = u at hplaced ⊢
    rw [State.afterRecord_deferred, State.notifyTests_deferred]
    exact hplaced
  next => rfl

theorem State.event_writeDueFront_deferred (s : State) : (s.event State.writeDueFront).deferred = s.deferred := by
  cases hpin : s.sys.resetPin with
  | true => rw [State.event_pin hpin]
  | false =>
    rw [State.event_eq hpin, State.conclude_deferred, State.writeDueFront]
    split
    · rfl
    · exact State.onDue_deferred State.writeFront_deferred

/-- Each row that waited for a grant is an event. -/
theorem State.takeRows_shown : ∀ (rows : List Deferred) {s : State}, s.Shown →
    (rows.foldl (fun s row => s.event fun s => s.takeDeferred row) s).Shown ∧
      s.Advances rows.length (rows.foldl (fun s row => s.event fun s => s.takeDeferred row) s)
  | [], _, hs => ⟨hs, .of_same rfl rfl⟩
  | row :: rest, s, hs => by
    obtain ⟨hshown, hadvances⟩ := State.event_shown (f := fun s => s.takeDeferred row) (s.takeDeferred_effect row) hs
    obtain ⟨hrest, hrestAdvances⟩ := State.takeRows_shown rest hshown
    rw [List.foldl_cons, List.length_cons, Nat.add_comm]
    exact ⟨hrest, hadvances.trans hrestAdvances⟩

theorem State.settleDeferred_shown (hs : s.Shown) :
    s.settleDeferred.Shown ∧ s.Advances s.deferred.length s.settleDeferred := by
  obtain ⟨hwf, hfree, hlanes, hready⟩ := hs
  have hnone : State.Shown { s with deferred := [] } := ⟨hwf, hfree, hlanes, hready⟩
  exact State.takeRows_shown s.deferred hnone

/-- The row of a record's write, and the rows that waited for it. -/
theorem execJournalRecordWrite_shown (hs : s.Shown) (ht : execJournalRecordWrite s = .next t) :
    t.Shown ∧ s.Advances (1 + s.deferred.length) t := by
  obtain rfl := Host.Outcome.next.inj ((execJournalRecordWrite_eq s).symm.trans ht)
  obtain ⟨hshown, hadvances⟩ := State.event_shown s.writeDueFront_effect hs
  split
  · have hdeferred := s.event_writeDueFront_deferred
    obtain ⟨hsettled, hrest⟩ := State.settleDeferred_shown hshown
    rw [hdeferred] at hrest
    exact ⟨hsettled, hadvances.trans hrest⟩
  · exact ⟨hshown, hadvances.mono (Nat.le_add_right 1 _)⟩

end

end Sys2Proof.Machine
end

section
/-! What a start-up shows, and the status blocks after every command (10 R189, R201, R205). -/

namespace Sys2Proof.Machine

open Sys2Proof

/-! ## Bytes of a longer write -/

/-- Bytes within others. -/
theorem Memory.readBytes_within {m : List Host.Cell} {a i n size : Nat} (h : i + n ≤ size) :
    Memory.readBytes m (a + i) n = ((Memory.readBytes m a size).drop i).take n := by
  have hlength : (Memory.readBytes m a size).length = size := Memory.length_readBytes m size a
  refine List.ext_getElem ?_ fun j hj hj' => ?_
  · rw [Memory.length_readBytes, List.length_take, List.length_drop, hlength]
    omega
  · rw [List.getElem_take, List.getElem_drop, Memory.readBytes_getElem, Memory.readBytes_getElem, Nat.add_assoc]

/-! ## The header and the blocks of a start-up (R205 step 3) -/

/-- The bytes of a lane's block in a start-up. -/
def startBlock : List Byte := [0#8, 0#8, 0#8, 0#8, 0#8, 16#8] ++ List.replicate 26 0#8

/-- The blocks of the four lanes. -/
def startBlocks : List Byte := startBlock ++ startBlock ++ startBlock ++ startBlock

theorem startBlocks_fields (l : LaneId) : ∀ f ∈ shownFields Lane.reset State.reset.emergency,
    f.2 = (startBlocks.drop (32 * l.toNat + f.1)).take f.2.length := by
  cases l <;> decide

theorem startBlocks_stamp (l : LaneId) : leBytes 2 0 = (startBlocks.drop (32 * l.toNat + 16)).take 2 := by
  cases l <;> decide

/-- A lane after a start-up shows what Lane.reset shows. -/
theorem startBlocks_show {m : List Host.Cell} {l : LaneId} {x : Lane} {e : Emergency}
    (hm : Memory.readBytes m 0x40 128 = startBlocks)
    (hfields : shownFields x e = shownFields Lane.reset State.reset.emergency) (hstamp : x.stamp = 0#16) :
    blockShows m l x e := by
  have hl : l.toNat < 4 := by cases l <;> decide
  constructor
  · rw [hfields]
    intro f hf
    have hle := shownFields_bound _ _ f hf
    rw [statusBase, Nat.add_assoc, Memory.readBytes_within (size := 128) (by omega), hm]
    exact (startBlocks_fields l f hf).symm
  · rw [statusBase, Nat.add_assoc, Memory.readBytes_within (size := 128) (by omega), hm, hstamp]
    exact (startBlocks_stamp l).symm

section
variable {s : State} {kind : StartKind} {inputs : StartInputs}

/-- The header begins with the readiness summary of a part that is not ready. -/
theorem State.writeHeader_summary (hwf : s.MemoryLegal) : Memory.readNat s.writeHeader.mem 0x02 2 = 0 := by
  obtain ⟨rest, hrest⟩ : ∃ rest, leBytes 2 0 ++ leBytes 2 s.sys.restartCount.toNat ++ List.replicate 8 0#8 ++
      leBytes 2 s.clock.stamp.toNat ++ List.replicate 48 0#8 = leBytes 2 0 ++ rest :=
    ⟨_, by rw [List.append_assoc, List.append_assoc, List.append_assoc]⟩
  simp only [State.writeHeader, State.writeMem_mem]
  rw [Memory.readNat_writeBytes_disjoint (.inr (by decide)), hrest, Memory.writeBytes_append,
    Memory.readNat_writeBytes_disjoint (.inr (Nat.le_of_eq (by rw [length_leBytes])))]
  exact Memory.readNat_writeBytes (a := 0x02) 2 0 hwf (by decide)

theorem State.writeHeader_blocks (hwf : s.MemoryLegal) :
    Memory.readBytes s.writeHeader.mem 0x40 128 = startBlocks := by
  have hsize : 0x40 + startBlocks.length ≤ 0x40000 := (show startBlocks.length = 128 from rfl) ▸ (by decide)
  simp only [State.writeHeader, State.writeMem_mem]
  exact Memory.readBytes_writeBytes startBlocks _ 0x40 (Memory.wf_writeBytes _ _ _ hwf) hsize

/-! ## The later steps -/

theorem State.setPartState_low {a : Nat} (p : PartState) (ha : 2 ≤ a) :
    Memory.read (s.setPartState p).mem a = Memory.read s.mem a :=
  Memory.read_writeBytes_outside _ _ _ _ (.inr (by rwa [length_leBytes]))

/-- The examination of a slot writes from the order board on. -/
theorem State.examineSlot_low {a : Nat} (k : Fin 8) (ha : a < 0x100) :
    Memory.read (State.examineSlot kind s k).mem a = Memory.read s.mem a := by
  obtain ⟨hlow, -⟩ := slotBase_bounds k
  obtain ⟨-, hk⟩ | ⟨-, ⟨v, hk⟩ | hk⟩ := State.examineSlot_cases kind s k <;> rw [hk]
  · refine (State.refuseSlot_read _ fun ⟨hfirst, _⟩ => ?_).trans (State.zeroSlotStaging_read ?_)
    · rintro ⟨-, hfree, -, hfirst, -⟩
      omega
    · omega
  · rfl
  · exact Memory.read_writeBytes_outside _ _ _ _ (.inl (Nat.lt_of_lt_of_le ha hlow))

theorem State.examineSlots_low {a : Nat} (ha : a < 0x100) : ∀ (ks : List (Fin 8)) (s : State),
    Memory.read (ks.foldl (State.examineSlot kind) s).mem a = Memory.read s.mem a
  | [], _ => rfl
  | k :: rest, _ => (State.examineSlots_low ha rest _).trans (State.examineSlot_low k ha)

/-- What is shown after the steps of a start-up is what the third step wrote. -/
theorem State.startSteps_low (b : State) (kind : StartKind) (inputs : StartInputs) {a : Nat} (hlow : 2 ≤ a)
    (hhigh : a < 0x100) : Memory.read (b.startSteps kind inputs).mem a =
      Memory.read ((b.starting kind inputs.strap).startReads inputs.starting).writeHeader.mem a := by
  rw [State.startSteps_eq, State.setPartState_low _ hlow, State.examineSlots_low hhigh, State.beforeBoard,
    State.startReads_mem, State.setPartState_low _ hlow]

/-- What is shown after the steps of a start-up. -/
theorem State.startSteps_shown {b : State} (hwf : b.MemoryLegal) :
    (∀ l, shows (b.startSteps kind inputs) l) ∧
      Memory.readNat (b.startSteps kind inputs).mem 0x02 2 = (b.startSteps kind inputs).orders.ready.summary ∧
      ∀ l, ((b.startSteps kind inputs).lane l).stamp = 0#16 := by
  have hlow := fun a => b.startSteps_low kind inputs (a := a)
  have hlane := b.startSteps_lane kind inputs
  have hemergency : (b.startSteps kind inputs).emergency = State.reset.emergency := by rw [State.startSteps_blocks]; rfl
  have hready : (b.startSteps kind inputs).orders.ready = State.reset.orders.ready := by rw [State.startSteps_blocks]
  have hbegun : ((b.starting kind inputs.strap).startReads inputs.starting).MemoryLegal :=
    (State.startReads_same _ _).accessed.memory ((b.starting_accessed kind inputs.strap).memory hwf)
  generalize b.startSteps kind inputs = t at *
  generalize (b.starting kind inputs.strap).startReads inputs.starting = u at *
  have hstamp : ∀ l, (t.lane l).stamp = 0#16 := fun l => by rw [hlane]; rfl
  refine ⟨fun l => shows_iff.mpr (startBlocks_show ?_ ?_ (hstamp l)), ?_, hstamp⟩
  · exact (Memory.readBytes_congr _ _ fun a ⟨hfirst, hlast⟩ => hlow a (by omega) (by omega)).trans
      (State.writeHeader_blocks hbegun)
  · rw [hlane, hemergency]
    rfl
  · refine (Memory.readNat_congr _ _ fun a ⟨hfirst, hlast⟩ => hlow a hfirst ?_).trans
      ((State.writeHeader_summary hbegun).trans ?_)
    · rw [hready]
      rfl
    · omega

end

/-! ## Every command -/

/-- What a command leaves shown. -/
structure StepShows (c : Instr) (s t : State) : Prop where
  lanes : ∀ l, shows t l
  ready : Memory.readNat t.mem 0x02 2 = t.orders.ready.summary
  started : startsUp c = true → (s.sys.resetPin = true → ∀ w inputs cut, c ≠ .restart w inputs cut) →
    ∀ l, (t.lane l).stamp = 0#16
  advances : startsUp c = false → s.Advances (if c = .journalRecordWrite then 1 + s.deferred.length else 1) t

section
variable {c : Instr} {s t b : State} {inputs : StartInputs} {kind : StartKind}

/-- A row that leaves what is shown. -/
theorem State.LeavesShown.stepShows (h : s.LeavesShown t) (hs : s.Shown)
    (hstart : startsUp c = true → s.sys.resetPin = true ∧ ∃ w inputs cut, c = .restart w inputs cut) :
    StepShows c s t := by
  refine ⟨fun l => h.shows (hs.lanes l), h.summary hs.ready, fun hstarts hpin => ?_, fun _ => h.advances⟩
  obtain ⟨hasserted, w, inputs, cut, hc⟩ := hstart hstarts
  exact absurd hc (hpin hasserted w inputs cut)

/-- A start-up with no access waiting. -/
theorem StartsFrom.stepShows (h : StartsFrom inputs s c b kind) (hwf : b.MemoryLegal) (hstart : startsUp c = true)
    (hwaiting : s.port.waiting = []) (ht : exec c s = .next t) : StepShows c s t := by
  obtain rfl := Host.Outcome.next.inj ((h.runs hwaiting).symm.trans ht)
  obtain ⟨hlanes, hready, hstamps⟩ := State.startSteps_shown (kind := kind) (inputs := inputs) hwf
  exact ⟨hlanes, hready, fun _ _ => hstamps, fun hnot => absurd (hstart.symm.trans hnot) nofun⟩

/-- The rows of the blocks' events. -/
theorem EventRow.stepShows (h : EventRow (exec c)) (hs : s.Shown) (hport : portOrStartRow c = false)
    (hrecord : c ≠ .journalRecordWrite) (ht : exec c s = .next t) : StepShows c s t := by
  obtain ⟨f, hrow, heffect⟩ := h
  obtain rfl := Host.Outcome.next.inj ((hrow s).symm.trans ht)
  obtain ⟨⟨-, -, hlanes, hready⟩, hadvances⟩ := State.event_shown (heffect s) hs
  refine ⟨hlanes, hready, fun hstart => ?_, fun _ => ?_⟩
  · cases c <;> contradiction
  · rwa [if_neg hrecord]

theorem exec_restart_stepShows {w : RegWrite} {cut : Nat} (hs : s.Shown) (hwaiting : s.port.waiting = [])
    (ht : exec (.restart w inputs cut) s = .next t) : StepShows (.restart w inputs cut) s t := by
  have hrow : exec (.restart w inputs cut) s =
    .next (s.access (.control w inputs cut) fun s => s.writeControl w inputs cut) := rfl
  by_cases hstart : s.sys.resetPin = false ∧ restartBit w = true
  · obtain ⟨hpin, hbit⟩ := hstart
    exact (StartsFrom.restart w cut hpin hbit).stepShows (State.cutRecord_wf (s := s.clearLatches) cut hs.memory) hbit
      hwaiting ht
  · obtain rfl := Host.Outcome.next.inj (hrow.symm.trans ht)
    have hleaves : s.LeavesShown (s.access (.control w inputs cut) fun s => s.writeControl w inputs cut) := by
      cases hpin : s.sys.resetPin with
      | true =>
        rw [State.access, if_pos hpin]
        exact State.setPort_leavesShown _
      | false =>
        have hbit : ¬ (regBits w).getLsbD 0 = true := by
          rw [getLsbD_regBits_zero]
          exact fun hbit => hstart ⟨hpin, hbit⟩
        rw [State.access_released _ _ hpin, State.writeControl, if_neg hbit]
        exact State.setPort_leavesShown _
    refine hleaves.stepShows hs fun hbit => ⟨?_, w, inputs, cut, rfl⟩
    exact (Bool.eq_false_or_eq_true _).resolve_right fun hpin => hstart ⟨hpin, hbit⟩

theorem exec_powerOn_stepShows {contents : List (Nat × BitVec 8)} (hwaiting : s.port.waiting = [])
    (ht : exec (.powerOn inputs contents) s = .next t) : StepShows (.powerOn inputs contents) s t := by
  cases hin : outsideMemory contents with
  | some a =>
    have hfault : exec (.powerOn inputs contents) s = .fault (.noSuchAddress a) := by
      change execPowerOn inputs contents s = _
      rw [execPowerOn, hin]
    exact absurd (hfault.symm.trans ht) nofun
  | none =>
    exact (StartsFrom.powerOn contents (outsideMemory_eq_none.mp hin)).stepShows
      (Memory.wf_writeCells contents [] rfl) rfl hwaiting ht

theorem exec_resetPinAsserted_stepShows {cut : Nat} (hs : s.Shown) (ht : exec (.resetPinAsserted cut) s = .next t) :
    StepShows (.resetPinAsserted cut) s t := by
  obtain rfl := Host.Outcome.next.inj ht
  refine State.LeavesShown.stepShows ?_ hs nofun
  unfold State.running
  split
  · exact .refl s
  · obtain ⟨hbytes, hlanes, hemergency, hready⟩ := State.cutRecord_leavesShown cut hs.free.1
    exact ⟨hbytes, hlanes, hemergency, hready⟩

/-- Every command leaves the blocks and the summary right. -/
theorem exec_stepShows (hs : s.Shown) (hwaiting : s.port.waiting = []) (hspares : sparesShownBytes c)
    (ht : exec c s = .next t) : StepShows c s t := by
  have hevent : portOrStartRow c = false → c ≠ .journalRecordWrite → (∀ cut, c ≠ .resetPinAsserted cut) →
      StepShows c s t := fun hport hrecord hpin =>
    (exec_eventRow c hport hrecord hpin).stepShows hs hport hrecord ht
  have haccess : ∀ (access : PortAccess) (f : State → State), s.LeavesShown (f s) → startsUp c = false →
      exec c s = .next (s.access access f) → StepShows c s t := fun access f hf hstart hrow => by
    obtain rfl := Host.Outcome.next.inj (hrow.symm.trans ht)
    exact (State.access_leavesShown hf).stepShows hs fun h => absurd (h.symm.trans hstart) nofun
  cases c with
  | powerOn inputs contents => exact exec_powerOn_stepShows hwaiting ht
  | resetPinRelease inputs cut =>
    exact (StartsFrom.resetPin cut).stepShows (State.cutRecord_wf cut hs.memory) rfl hwaiting ht
  | restart write inputs cut => exact exec_restart_stepShows hs hwaiting ht
  | attentionWrite write =>
    exact haccess (.attention write) _ ⟨fun _ _ => rfl, rfl, rfl, rfl⟩ rfl rfl
  | attentionMaskWrite write => exact haccess (.mask write) _ ⟨fun _ _ => rfl, rfl, rfl, rfl⟩ rfl rfl
  | unusedRegisterWrite address write =>
    by_cases haddress : address < 6
    · have hrow : exec (.unusedRegisterWrite address write) s = .next s := congrArg _ (if_pos haddress)
      obtain rfl := Host.Outcome.next.inj (hrow.symm.trans ht)
      exact (State.LeavesShown.refl s).stepShows hs nofun
    · exact haccess .unused _ (State.setPort_leavesShown _) rfl (congrArg _ (if_neg haddress))
  | gcMemoryWrite write => exact haccess (.write write) _ (State.portWrite_leavesShown hspares) rfl rfl
  | gcMemoryRead read => exact haccess (.read read) _ (s.portRead_same read).leavesShown rfl rfl
  | journalRecordWrite =>
    obtain ⟨⟨-, -, hlanes, hready⟩, hadvances⟩ := execJournalRecordWrite_shown hs ht
    exact ⟨hlanes, hready, nofun, fun _ => hadvances⟩
  | resetPinAsserted cut => exact exec_resetPinAsserted_stepShows hs ht
  | _ => exact hevent rfl nofun nofun

end

/-- Settles O56. -/
theorem statusBlocksShowTheLanes : Obligations.StatusBlocksShowTheLanes := by
  intro c s t hwf hlanes hready hwaiting hring hstaging hspares ht
  obtain ⟨hlanes', hready', hstarted, hadvances⟩ := exec_stepShows ⟨hwf, ⟨hring, hstaging⟩, hlanes, hready⟩ hwaiting
    hspares ht
  exact ⟨hlanes', hready', hstarted, hadvances⟩

end Sys2Proof.Machine
end
